-- ==== Sys2Proof/Word.lean ====
section
/-! DEFINITION. The words the part keeps as bits, and the sets it keeps as bit masks (00_scope.md, Units and conventions). -/

namespace Sys2Proof

/-- One byte of a frame (R162). -/
abbrev Byte := BitVec 8

/-- A 32-bit value that wraps: belt counts, entry stamps, distances of belt travel and the uptime (R1, R142). -/
abbrev Word := BitVec 32

/-- A set of logical stations, bit k for station k (R162). -/
abbrev StationSet := BitVec 32

/-- A set of options, bit k for option k (R162). -/
abbrev OptionSet := BitVec 8

/-- A logical station number, 0..31 (R82). -/
abbrev StationId := Fin 32

/-- Every logical station, in index order. -/
def stationIds : List StationId := List.finRange 32

end Sys2Proof
end

