-- ==== Sys2Proof/Syntax.lean ====
section
/-! DEFINITION. The commands of the part: one constructor per row of spec/opcode_table.json. -/

namespace Sys2Proof

/-- The level of a pin: asserted means at its active level (00_scope.md, Units and conventions). -/
inductive Level where
  | released
  | asserted
  deriving DecidableEq, Repr

/-- The two serial links (00_scope.md). -/
inductive Port where
  | ring
  | office
  deriving DecidableEq, Repr

/-- The header bytes of an arrived frame that its row does not fix: destination, source and order byte (R162). -/
structure Head where
  dst : Nat
  src : Nat
  order : Nat := 0
  deriving DecidableEq, Repr

/-- The commands. A ring or office frame carries its header and its payload bytes. A management request carries its header and
the operand bytes that follow the request code; a write of a named table, the bytes that follow the table identifier (R177,
R178). -/
inductive Instr where
  /-- RST goes low (R153). -/
  | rstAssert
  /-- RST is released: the straps and the ESTOP pin are sampled at these levels (R152, R161, R182). -/
  | rstRelease (straps : BitVec 3) (estop : Level)
  /-- The filtered ESTOP level becomes ASSERTED (R152). -/
  | estopAssert
  /-- The filtered ESTOP level becomes RELEASED (R152). -/
  | estopRelease
  /-- OHOLD is asserted (R175). -/
  | oholdAssert
  /-- OHOLD is released (R175). -/
  | oholdRelease
  /-- An ENC frame (R2). -/
  | enc (h : Head) (payload : List Byte)
  /-- An EYE frame (R10). -/
  | eye (h : Head) (payload : List Byte)
  /-- An ARM_STATE frame (R101). -/
  | armState (h : Head) (payload : List Byte)
  /-- A DRIVE_STATE frame (R62). -/
  | driveState (h : Head) (payload : List Byte)
  /-- An ORDER_ACK frame; the order byte is the order number (R165). -/
  | orderAck (h : Head) (payload : List Byte)
  /-- A node's MAINT_REPLY frame; the order byte is the office source (R174). -/
  | maintReply (h : Head) (payload : List Byte)
  /-- An ORDER that came back untaken (R166). -/
  | returnedOrder (h : Head) (payload : List Byte)
  /-- A SETPOINT that came back untaken (R70). -/
  | returnedSetpoint (h : Head) (payload : List Byte)
  /-- A BRAKE that came back untaken (R75). -/
  | returnedBrake (h : Head) (payload : List Byte)
  /-- A forwarded MAINT that came back untaken; the order byte is the office source (R166). -/
  | returnedMaint (h : Head) (payload : List Byte)
  /-- A broadcast that completed the ring; the payload is its stamp (R168). -/
  | broadcastReturn (h : Head) (payload : List Byte)
  /-- A bad frame on a link (R163). -/
  | badFrame (port : Port)
  /-- The CALL in the ring transmitter finishes (R44). -/
  | callTransmitted
  /-- The START in the ring transmitter finishes (R60). -/
  | startTransmitted
  /-- The station order in the ring transmitter finishes (R103). -/
  | stationOrderTransmitted
  /-- The broadcast in the ring transmitter finishes (R167). -/
  | broadcastTransmitted
  /-- The SETPOINT, BRAKE or MAINT in the ring transmitter finishes (R169). -/
  | ringFrameTransmitted
  /-- The frame in the office transmitter finishes (R175). -/
  | officeFrameSent
  /-- A QUOTE_REQ frame (R121). -/
  | quoteReq (h : Head) (payload : List Byte)
  /-- A CLOSE_REQ frame (R125). -/
  | closeReq (h : Head) (payload : List Byte)
  /-- A DROP_REQ frame (R126). -/
  | dropReq (h : Head) (payload : List Byte)
  /-- An office MAINT frame (R173). -/
  | maint (h : Head) (payload : List Byte)
  /-- TABLE READ: table, index, part (R179). -/
  | tableRead (h : Head) (operands : List Byte)
  /-- TABLE WRITE: table, index, fields (R180). -/
  | tableWrite (h : Head) (operands : List Byte)
  /-- TABLE WRITE of the STATION table (R88). -/
  | stationWrite (h : Head) (operands : List Byte)
  /-- TABLE WRITE of the ALIAS table (R91). -/
  | aliasWrite (h : Head) (operands : List Byte)
  /-- TABLE WRITE of the PLAN table (R117). -/
  | planWrite (h : Head) (operands : List Byte)
  /-- TABLE WRITE of the OPTION table (R118). -/
  | optionWrite (h : Head) (operands : List Byte)
  /-- TABLE WRITE of the CODE table (R119). -/
  | codeWrite (h : Head) (operands : List Byte)
  /-- TABLE WRITE of the EYE table (R9). -/
  | eyeWrite (h : Head) (operands : List Byte)
  /-- TABLE WRITE of the PASS table (R173). -/
  | passWrite (h : Head) (operands : List Byte)
  /-- TABLE WRITE of the PACING table (R79). -/
  | pacingWrite (h : Head) (operands : List Byte)
  /-- TABLE WRITE of the GATE table (R53). -/
  | gateWrite (h : Head) (operands : List Byte)
  /-- TABLE WRITE of the TRACK table (R7, R38). -/
  | trackWrite (h : Head) (operands : List Byte)
  /-- TABLE WRITE of the TIMING table (R80, R114, R130, R168). -/
  | timingWrite (h : Head) (operands : List Byte)
  /-- TABLE WRITE of the ARBITER table (R171). -/
  | arbiterWrite (h : Head) (operands : List Byte)
  /-- TABLE WRITE of the NODE table whose mask names the encoder field (R6, R181). -/
  | nodeEncoderWrite (h : Head) (operands : List Byte)
  /-- TABLE WRITE of the NODE table whose mask names the drive field (R64, R181). -/
  | nodeDriveWrite (h : Head) (operands : List Byte)
  /-- TABLE WRITE of the NODE table whose mask names the roller field (R52, R181). -/
  | nodeRollerWrite (h : Head) (operands : List Byte)
  /-- TABLE WRITE of the NODE table whose mask names the office field (R181, R182). -/
  | nodeOfficeWrite (h : Head) (operands : List Byte)
  /-- GATE OPEN (R48). -/
  | gateOpen (h : Head) (operands : List Byte)
  /-- GATE CLOSE (R49). -/
  | gateClose (h : Head) (operands : List Byte)
  /-- RUN: speed (R57, R58). -/
  | run (h : Head) (operands : List Byte)
  /-- STOP (R59). -/
  | stop (h : Head) (operands : List Byte)
  /-- HALT (R154). -/
  | halt (h : Head) (operands : List Byte)
  /-- ACK (R154). -/
  | ack (h : Head) (operands : List Byte)
  /-- RESUME (R155, R156). -/
  | resume (h : Head) (operands : List Byte)
  /-- STATION CLEAR: station (R113). -/
  | stationClear (h : Head) (operands : List Byte)
  /-- EYE RESTORE: eye (R14). -/
  | eyeRestore (h : Head) (operands : List Byte)
  /-- SALE VOID: sale number (R129). -/
  | saleVoid (h : Head) (operands : List Byte)
  /-- CAR CLEAR: tag (R36). -/
  | carClear (h : Head) (operands : List Byte)
  /-- TUNNEL RESET (R158, R159). -/
  | tunnelReset (h : Head) (operands : List Byte)
  /-- TALLY READ: plan (R139). -/
  | tallyRead (h : Head) (operands : List Byte)
  /-- TALLY RESET (R140). -/
  | tallyReset (h : Head) (operands : List Byte)
  /-- STATUS READ (R183). -/
  | statusRead (h : Head) (operands : List Byte)
  /-- The encoder silence timer expires (R5). -/
  | encoderSilenceExpiry
  /-- The gate's ack timer expires (R45). -/
  | rollerAckTimeout
  /-- The start ack timer expires (R61). -/
  | startAckTimeout
  /-- The profile interval timer expires (R65). -/
  | profileInterval
  /-- The drive-stop timer expires (R76). -/
  | driveStopTimeout
  /-- A station's order timer expires in AWAIT_ACK (R105). -/
  | orderAckTimeout (station : Nat)
  /-- A station's order timer expires in AWAIT_RETURN (R104). -/
  | returnWindowExpiry (station : Nat)
  /-- A station's order timer expires in AWAIT_POSITION (R105, R106). -/
  | positionTimeout (station : Nat)
  /-- The hold timer of a terminal's quote expires (R124). -/
  | quoteHoldExpiry (terminal : Nat)
  /-- The ring check timer expires (R167). -/
  | ringCheckExpiry
  /-- The ring timeout expires (R168). -/
  | ringTimeout
  deriving DecidableEq, Repr

end Sys2Proof
end

