-- ==== Sys2Proof/Decode.lean ====
section
/-! DEFINITION. From the bytes of the two links to commands: the frame layout and frame check of R162, the test of R163 and the
classification of R164, R165, R166, R172 and R177. The opcode table gives its rows no bits, so no word spells a command. -/

namespace Sys2Proof

/-- The rows of spec/opcode_table.json carry no bits: no word spells a command. -/
def decodeTableWord (_nbits _w : Nat) : Option Instr := none

/-- A frame of either link (R162), without its frame check. -/
structure Frame where
  dst : Nat
  src : Nat
  kind : Nat
  order : Nat := 0
  payload : List Byte := []
  deriving DecidableEq, Repr

/-- One bit of the frame check: polynomial x^16 + x^12 + x^5 + 1, most significant bit first (R162). -/
def crcBit (crc : BitVec 16) (bit : Bool) : BitVec 16 :=
  if crc.msb != bit then (crc <<< 1) ^^^ 0x1021 else crc <<< 1

/-- One byte of the frame check (R162). -/
def crcByte (crc : BitVec 16) (b : Byte) : BitVec 16 :=
  [7, 6, 5, 4, 3, 2, 1, 0].foldl (fun c k => crcBit c (b.getLsbD k)) crc

/-- The frame check over a list of bytes, initial value 0xFFFF (R162). -/
def crc16 (bytes : List Byte) : BitVec 16 := bytes.foldl crcByte 0xFFFF

/-- A byte of a number. -/
def byteOf (n : Nat) : Byte := BitVec.ofNat 8 n

/-- Bytes 0 .. 4+n of a frame (R162). -/
def Frame.body (f : Frame) : List Byte :=
  [byteOf f.dst, byteOf f.src, byteOf f.kind, byteOf f.order, byteOf f.payload.length] ++ f.payload

/-- The bytes of a frame on the link, the frame check high byte first (R162, R163). -/
def Frame.wire (f : Frame) : List Byte :=
  let c := crc16 f.body
  f.body ++ [c.extractLsb' 8 8, c.extractLsb' 0 8]

/-- The test of R163 on the bytes received between two idle times: none is a bad frame. The frame is complete after 7 + n bytes;
later bytes of the run begin no frame. -/
def readFrame (bytes : List Byte) : Option Frame :=
  match bytes with
  | d :: s :: k :: o :: n :: rest =>
    let len := n.toNat
    let payload := rest.take len
    match rest.drop len with
    | c1 :: c0 :: _ =>
      if 40 < len ∨ 127 < d.toNat ∨ crc16 (d :: s :: k :: o :: n :: payload) ≠ c1 ++ c0 then none
      else some { dst := d.toNat, src := s.toNat, kind := k.toNat, order := o.toNat, payload := payload }
    | _ => none
  | _ => none

/-- The header of an arrived frame. -/
def Frame.head (f : Frame) : Head := { dst := f.dst, src := f.src, order := f.order }

/-- The command of a good ring frame; none is a frame the part discards without counting (R163 to R166). -/
def ringCommand (f : Frame) : Option Instr :=
  if f.dst = 0 ∧ 1 ≤ f.src ∧ f.src ≤ 126 then
    match f.kind with
    | 0x01 => some (.enc f.head f.payload)
    | 0x02 => some (.eye f.head f.payload)
    | 0x03 => some (.armState f.head f.payload)
    | 0x04 => some (.driveState f.head f.payload)
    | 0x05 => some (.orderAck f.head f.payload)
    | 0x06 => some (.maintReply f.head f.payload)
    | _ => none
  else if 1 ≤ f.dst ∧ f.dst ≤ 126 ∧ f.src = 0 then
    match f.kind with
    | 0x10 => some (.returnedOrder f.head f.payload)
    | 0x11 => some (.returnedSetpoint f.head f.payload)
    | 0x12 => some (.returnedBrake f.head f.payload)
    | 0x16 => some (.returnedMaint f.head f.payload)
    | _ => none
  else if f.dst = 127 ∧ f.src = 0 ∧ (f.kind = 0x13 ∨ f.kind = 0x14 ∨ f.kind = 0x15) then
    some (.broadcastReturn f.head f.payload)
  else none

/-- The row of a NODE write: the first field its mask names (R178, R181). -/
def nodeRow (h : Head) (operands : List Byte) : Instr :=
  let mask := (operands[1]?).getD 0
  if mask.getLsbD 0 then .nodeEncoderWrite h operands
  else if mask.getLsbD 1 then .nodeDriveWrite h operands
  else if mask.getLsbD 2 then .nodeRollerWrite h operands
  else if mask.getLsbD 3 then .nodeOfficeWrite h operands
  else .nodeEncoderWrite h operands

/-- The row of a TABLE WRITE by its table identifier (R162, R180). -/
def writeRow (h : Head) (operands : List Byte) : Instr :=
  match operands with
  | [] => .tableWrite h []
  | t :: rest =>
    match t.toNat with
    | 1 => .stationWrite h rest
    | 2 => .aliasWrite h rest
    | 3 => .planWrite h rest
    | 4 => .optionWrite h rest
    | 5 => .codeWrite h rest
    | 6 => .eyeWrite h rest
    | 7 => .passWrite h rest
    | 8 => .pacingWrite h rest
    | 9 => .gateWrite h rest
    | 10 => .trackWrite h rest
    | 11 => .timingWrite h rest
    | 12 => .arbiterWrite h rest
    | 13 => nodeRow h rest
    | _ => .tableWrite h operands

/-- The command of a management request by its request code (R162); none is a code that is not in the table (R177). Such a
request is discarded even while the reply queue is full: it is not lost for want of a place, and the reply-lost flag stays as it
is. R172 and R177 give no order of their two tests (DESIGN CHOICE, log 42). -/
def requestRow (h : Head) (code : Nat) (operands : List Byte) : Option Instr :=
  match code with
  | 0x01 => some (.tableRead h operands)
  | 0x02 => some (writeRow h operands)
  | 0x10 => some (.gateOpen h operands)
  | 0x11 => some (.gateClose h operands)
  | 0x12 => some (.run h operands)
  | 0x13 => some (.stop h operands)
  | 0x14 => some (.halt h operands)
  | 0x15 => some (.ack h operands)
  | 0x16 => some (.resume h operands)
  | 0x20 => some (.stationClear h operands)
  | 0x21 => some (.eyeRestore h operands)
  | 0x22 => some (.saleVoid h operands)
  | 0x23 => some (.carClear h operands)
  | 0x24 => some (.tunnelReset h operands)
  | 0x30 => some (.tallyRead h operands)
  | 0x31 => some (.tallyReset h operands)
  | 0x32 => some (.statusRead h operands)
  | _ => none

/-- The command of a good office frame; none is a frame the part discards without counting (R163, R172, R177). An MGMT_REQ with
no request code is one of them, whatever the reply queue holds (DESIGN CHOICE, log 42). -/
def officeCommand (f : Frame) : Option Instr :=
  match f.kind, f.payload with
  | 0x20, p => some (.quoteReq f.head p)
  | 0x22, p => some (.closeReq f.head p)
  | 0x24, p => some (.dropReq f.head p)
  | 0x16, p => some (.maint f.head p)
  | 0x26, code :: operands => requestRow f.head code.toNat operands
  | _, _ => none

/-- The command that one arrival on a link amounts to (R163): a bad frame is counted, and a good one is classified. -/
def arrival (port : Port) (bytes : List Byte) : Option Instr :=
  match readFrame bytes with
  | none => some (.badFrame port)
  | some f => match port with
    | .ring => ringCommand f
    | .office => officeCommand f

end Sys2Proof
end

