-- ==== Sys2Proof/Config.lean ====
section
/-! DEFINITION. What the spec leaves open and the model leaves free: constants without a body, so that no proof can see a value. -/

namespace Sys2Proof

/-- Where a block takes a belt advance relative to the Car Track and the Station Sequencer, which act in that order (R97). -/
inductive Slot where
  | beforeTrack
  | beforeSequencer
  | afterSequencer
  deriving DecidableEq, Repr, Inhabited

/-- One order in which the four blocks take a belt advance. R43 lets the Entry Gate act before or after the Car Track and R71
says the same of the Belt Pacer; nothing orders the two between themselves. -/
structure AdvanceOrder where
  gate : Slot
  pacer : Slot
  gateFirst : Bool
  deriving DecidableEq, Repr, Inhabited

/-- FREE VALUE (log 3): the order taken at the n-th belt advance. -/
opaque Config.advanceOrder : Nat → AdvanceOrder

/-- FREE VALUE (log 4): the rank of the k-th of the timers that have run out, at the n-th choice; the lowest rank is taken first.
The spec decides two such events by "the one taken first" and does not say which that is. -/
opaque Config.expiryRank : Nat → Nat → Nat

end Sys2Proof
end

