-- ==== Sys2Proof/Machine/State.lean ====
section
/-! DEFINITION. The state of the part: every piece of state the spec names, as plain data. The value after `:=` in a structure
is the power-on value the spec gives, the value every block is held at while RST is asserted (00_scope.md, Signal
description). -/

namespace Sys2Proof.Machine

/-! ## Ring frames and office frames -/

/-- The actions an ORDER frame carries (R162). -/
inductive Action where
  | on
  | off
  | inn
  | out
  | call
  | start
  deriving DecidableEq, Repr

/-- The three broadcasts (R162, R167). -/
inductive BroadcastKind where
  | allStop
  | release
  | ringCheck
  deriving DecidableEq, Repr

/-- A frame the part sends into the ring (R162, R169). -/
inductive RingFrame where
  | brake (dst : Nat)
  | broadcast (kind : BroadcastKind) (stamp : BitVec 16)
  | setpoint (dst : Nat) (speed : Nat)
  | order (dst : Nat) (number : Nat) (action : Action) (station : Nat)
  | maint (dst : Nat) (party : Nat) (data : List Byte)
  deriving DecidableEq, Repr

/-- The four classes of the transmit arbiter (10.4). -/
inductive RingClass where
  | safety
  | motion
  | order
  | pass
  deriving DecidableEq, Repr

/-- The result codes shared by every reply (R162). -/
inductive Result where
  | ok
  | okClamped
  | badTable
  | badIndex
  | badValue
  | occupied
  | busy
  | wrongState
  | notFound
  | nothingToAck
  | notAcked
  | estopActive
  | ringDown
  | armUnsafe
  | notConfigured
  | unknownCode
  | noPlan
  | badOption
  | planUnavailable
  | noQuote
  | queueFull
  | dropped
  | noNode
  | notPassable
  deriving DecidableEq, Repr

/-- The halt causes, in the order of the table of 9.1 (R142). -/
inductive CauseKind where
  | estop
  | manual
  | armStrike
  | armStuck
  | carRoll
  | object
  | crowding
  | foreignObject
  | trackFull
  | exitCrash
  | stall
  | overrun
  | driveFault
  | encoder
  | ringLoss
  | driveNoStop
  deriving DecidableEq, Repr

/-- A cause record (R142). -/
structure Cause where
  kind : CauseKind
  belt : Word
  uptime : Word
  tag : Option Nat := none
  tag2 : Option Nat := none
  station : Option Nat := none
  eye : Option Nat := none
  deriving DecidableEq, Repr

/-- Why an order failed (R45, R61, R105). -/
inductive Reason where
  | refused
  | timeout
  | position
  | returned
  deriving DecidableEq, Repr

/-- How an incident closed (R149). -/
inductive Way where
  | resumed
  | reset
  deriving DecidableEq, Repr

/-- The outcome of a close, in the order of the field list of R136. -/
inductive WashOutcome where
  | full
  | partly
  | unsold
  | foreign
  | struck
  | cleared
  | lost
  deriving DecidableEq, Repr

/-- The notices with their fields (R184). -/
inductive Notice where
  | washClose (tag number terminal plan amount credit : Nat) (outcome : WashOutcome) (served missed : StationSet)
  | incidentOpen (number : Nat) (cause : Cause)
  | incidentCause (number : Nat) (cause : Cause) (held more : Nat)
  | incidentClosed (number : Nat) (way : Way) (uptime : Word) (held more : Nat)
  | stationFault (station : Nat) (action : Action) (reason : Reason) (tag : Option Nat)
  | drift (tag eye : Nat) (drift : Int)
  | eyeMissed (eye tag : Nat)
  | exitStray (belt : Word)
  | oversize (tag : Nat) (front : Word)
  | crowded (station ahead behind : Nat)
  | uncalledEntry (tag : Nat)
  | rollerMiss (number : Nat) (lastCall belt : Word)
  | rollerFault (reason : Reason) (number : Nat)
  | driveNoStart (reason : Reason) (number : Nat)
  | driveLearned (address : Nat)
  | overshoot (tag : Nat) (rest : Int)
  deriving DecidableEq, Repr

/-- What a reply carries (R162). -/
inductive ReplyBody where
  | quote (result : Result) (number plan : Nat) (options : OptionSet) (amount : Nat)
  | close (result : Result) (number position : Nat)
  | drop (result : Result) (number : Nat)
  | mgmt (code : Nat) (result : Result) (data : List Byte)
  | maint (result : Result) (node : Nat) (data : List Byte)
  deriving DecidableEq, Repr

/-- A queued reply: the office address it is sent from, the party it is sent to and its body (R172). -/
structure Reply where
  src : Nat
  dst : Nat
  body : ReplyBody
  deriving DecidableEq, Repr

/-- A queued notice and the office address it is sent from (R184). -/
structure QueuedNotice where
  src : Nat
  notice : Notice
  deriving DecidableEq, Repr

/-- A frame in the office transmitter (R175). -/
inductive OfficeFrame where
  | reply (r : Reply)
  | notice (n : QueuedNotice)
  deriving DecidableEq, Repr

/-! ## Pins and clock -/

/-- The pins the part reads. The sampled straps are those of the last release of RST (R182). -/
structure Pins where
  rst : Level := .asserted
  straps : BitVec 3 := 0
  ohold : Level := .released
  deriving DecidableEq, Repr

/-- The uptime (00_scope.md, Units) and the model's own count of free choices used so far (log 35). -/
structure Clock where
  uptime : Word := 0
  choices : Nat := 0
  deriving DecidableEq, Repr

/-! ## Belt Count Unit -/

/-- The belt count and the encoder (1.2, R15). The silence timer is none while it stands expired. -/
structure Belt where
  count : Word := 0
  lastRaw : Option (BitVec 16) := none
  encoder : Nat := 0
  silence : Option Nat := none
  deriving DecidableEq, Repr

/-- Which reported level means that the beam is broken (R8). -/
inductive Polarity where
  | activeHigh
  | activeLow
  deriving DecidableEq, Repr

/-- An eye table entry (R8); `on` is the state, true for ON. -/
structure Eye where
  enabled : Bool := false
  node : Nat := 1
  input : Nat := 0
  polarity : Polarity := .activeHigh
  position : Nat := 0
  reliable : Bool := true
  on : Bool := false
  deriving DecidableEq, Repr

/-! ## Car Track -/

/-- The TRACK table: the tunnel length (R7) and the parameters of the Car Track (R38). -/
structure Track where
  length : Nat := 0
  merge : Nat := 150
  minObject : Nat := 400
  maxCar : Nat := 3000
  crowd : Nat := 200
  driftAdjust : Nat := 25
  driftHalt : Nat := 150
  expiry : Nat := 1500
  deriving DecidableEq, Repr

/-- The means of payment of a sale (R125). -/
inductive Tender where
  | cash
  | card
  | account
  | free
  deriving DecidableEq, Repr

/-- A sale as a car record holds it (R17). -/
structure Sale where
  number : Nat
  terminal : Nat
  plan : Fin 16
  options : OptionSet
  amount : Nat
  tender : Tender
  deriving DecidableEq, Repr

/-- Where a car stands in its ride (R17). -/
inductive CarPhase where
  | entering
  | riding
  | leaving
  deriving DecidableEq, Repr

/-- The flags of a car (R17). -/
structure CarFlags where
  uncalled : Bool := false
  oversize : Bool := false
  foreign : Bool := false
  struck : Bool := false
  deriving DecidableEq, Repr

/-- A car record (R17). -/
structure Car where
  tag : Nat
  stamp : Word
  length : Option Word := none
  tentative : Option Word := none
  phase : CarPhase := .entering
  flags : CarFlags := {}
  plan : Fin 16 := 0
  sale : Option Sale := none
  activity : StationSet := 0
  served : StationSet := 0
  missed : StationSet := 0
  nextEye : Option Nat := none
  deriving DecidableEq, Repr

/-! ## Entry Gate -/

/-- The phases of the gate (R40). -/
inductive GatePhase where
  | closed
  | waiting
  | ready
  | calling
  | rolling
  deriving DecidableEq, Repr

/-- An order the gate or the pacer follows: its number and whether its frame has been transmitted (R40, R55). -/
structure OrderRecord where
  number : Nat
  transmitted : Bool
  deriving DecidableEq, Repr

/-- The Entry Gate (R40), its roller address (R52) and the GATE table (R53). -/
structure Gate where
  isOpen : Bool := false
  phase : GatePhase := .closed
  lastCall : Option Word := none
  prevRear : Option Word := none
  call : Option OrderRecord := none
  ackTimer : Option Nat := none
  roller : Nat := 0
  pitch : Nat := 2500
  gap : Nat := 600
  reach : Nat := 1500
  admitUnsold : Bool := false
  deriving DecidableEq, Repr

/-! ## Belt Pacer -/

/-- The pacer states (R55). -/
inductive PacerState where
  | stopped
  | starting
  | running
  | pointStop
  | stopping
  | halted
  deriving DecidableEq, Repr

/-- Which deceleration a point stop uses (R71). -/
inductive Decel where
  | dec
  | decHard
  deriving DecidableEq, Repr

/-- The point-stop record (R55). -/
structure PointStop where
  decel : Decel
  latched : Bool
  deriving DecidableEq, Repr

/-- The drive report (R55). -/
structure DriveReport where
  ready : Bool
  running : Bool
  fault : Nat
  deriving DecidableEq, Repr

/-- The drive-stop watch (R55, R76). -/
inductive StopWatch where
  | idle
  | watching
  | met
  deriving DecidableEq, Repr

/-- The Belt Pacer (R55) and the PACING table (R79). -/
structure Pacer where
  state : PacerState := .stopped
  speed : Nat := 0
  runSpeed : Nat := 0
  target : Nat := 0
  commanded : Word := 0
  acc : Nat := 0
  resume : Bool := false
  pointStop : Option PointStop := none
  start : Option OrderRecord := none
  startTimer : Option Nat := none
  profileTimer : Option Nat := none
  lastSent : Nat := 0
  refresh : Nat := 0
  drive : Nat := 0
  freeze : Bool := false
  report : Option DriveReport := none
  watch : StopWatch := .idle
  stopTimer : Option Nat := none
  accel : Nat := 16
  dec : Nat := 32
  decHard : Nat := 120
  slip : Nat := 100
  overrun : Nat := 100
  margin : Nat := 300
  approach : Nat := 1200
  deriving DecidableEq, Repr

/-- The TIMING table, in the order of R178: all in ms but the quote hold time, which is in s (R5, R114, R80, R130, R167,
R168). -/
structure Timing where
  encoderSilence : Nat := 100
  orderAck : Nat := 40
  driveStart : Nat := 200
  driveStop : Nat := 3000
  quoteHold : Nat := 120
  ringCheck : Nat := 25
  ringTimeout : Nat := 20
  deriving DecidableEq, Repr

/-! ## Stations -/

/-- The station kinds (R82). -/
inductive StationKind where
  | posted
  | acked
  | arm
  deriving DecidableEq, Repr

/-- A STATION table entry (R82). -/
structure StationEntry where
  kind : StationKind := .posted
  windowStart : Nat := 0
  windowEnd : Nat := 0
  front : Nat := 0
  rear : Int := 0
  travel : Nat := 0
  busy : Nat := 2000
  load : Nat := 255
  cap : Nat := 0
  weight : Nat := 0
  deriving DecidableEq, Repr

/-- The STATION table (R82) and the alias map (R90). -/
structure StationMap where
  table : Vector StationEntry 32 := Vector.replicate 32 {}
  aliases : Vector Nat 32 := Vector.replicate 32 0
  deriving DecidableEq, Repr

/-- The phases of a station (R94). -/
inductive StationPhase where
  | idle
  | engaging
  | engaged
  | releasing
  | fault
  deriving DecidableEq, Repr

/-- What a current order waits for (R94). -/
inductive Wait where
  | ack
  | ret
  | position
  deriving DecidableEq, Repr

/-- The position given by an arm report (R94). -/
inductive ArmPosition where
  | unknown
  | out
  | moving
  | inn
  deriving DecidableEq, Repr

/-- The current order of a station (R94); the implicit OUT of a halt has no number. -/
structure StationOrder where
  action : Action
  number : Option Nat
  car : Option Nat
  transmitted : Bool := false
  wait : Wait
  positionSeen : Bool := false
  deriving DecidableEq, Repr

/-- The runtime record of a station (R94, R115). -/
structure Station where
  phase : StationPhase := .idle
  car : Option Nat := none
  current : Option StationOrder := none
  queued : Option Action := none
  timer : Option Nat := none
  position : ArmPosition := .unknown
  load : Nat := 0
  deriving DecidableEq, Repr

/-- The Station Sequencer (R94) and the rotating order-number sequence (R95). -/
structure Sequencer where
  stations : Vector Station 32 := Vector.replicate 32 {}
  nextNumber : Nat := 1
  deriving DecidableEq, Repr

/-! ## Sale Book and tallies -/

/-- The states of a plan (R116). -/
inductive PlanState where
  | absent
  | offered
  | withdrawn
  deriving DecidableEq, Repr

/-- A PLAN entry (R116); entry 0 uses the station set alone. -/
structure Plan where
  state : PlanState := .absent
  price : Nat := 0
  stations : StationSet := 0
  essential : StationSet := 0
  allow : OptionSet := 0
  deriving DecidableEq, Repr

/-- An OPTION entry (R118). -/
structure OptionEntry where
  price : Nat := 0
  added : StationSet := 0
  deriving DecidableEq, Repr

/-- A code window (R119). -/
structure CodeWindow where
  enabled : Bool := false
  base : BitVec 16 := 0
  mask : BitVec 16 := 0
  plan : Fin 16 := 1
  discount : Nat := 0
  grant : Bool := false
  deriving DecidableEq, Repr

/-- An open quote (R124); the terminal is its place in the quote table. -/
structure Quote where
  number : Nat
  plan : Fin 16
  options : OptionSet
  amount : Nat
  activity : StationSet
  hold : Nat
  deriving DecidableEq, Repr

/-- A sale waiting in the queue with its resolved activity set (R125, R127). -/
structure QueuedSale where
  sale : Sale
  activity : StationSet
  deriving DecidableEq, Repr

/-- The Sale Book (R132). -/
structure SaleBook where
  plans : Vector Plan 16 := Vector.replicate 16 {}
  options : Vector OptionEntry 8 := Vector.replicate 8 {}
  codes : Vector CodeWindow 8 := Vector.replicate 8 {}
  quotes : Vector (Option Quote) 15 := Vector.replicate 15 none
  queue : List QueuedSale := []
  nextNumber : Nat := 1
  deriving DecidableEq, Repr

/-- A tally row (R137). -/
structure TallyRow where
  washes : Nat := 0
  gross : Nat := 0
  credit : Nat := 0
  voids : Nat := 0
  voidAmount : Nat := 0
  deriving DecidableEq, Repr

/-! ## Halt Controller -/

/-- The halt states (9.2). -/
inductive HaltState where
  | clear
  | halting
  | halted
  | restarting
  deriving DecidableEq, Repr

/-- The states of an incident (R149). -/
inductive IncidentState where
  | unacked
  | acked
  | closed
  deriving DecidableEq, Repr

/-- An incident record (R149). -/
structure Incident where
  number : Nat
  state : IncidentState
  primary : Cause
  secondary : List Cause
  more : Nat
  opened : Word
  closed : Option (Word × Way)
  deriving DecidableEq, Repr

/-- The Halt Controller (R143, R161). -/
structure HaltBlock where
  state : HaltState := .clear
  log : List Incident := []
  nextNumber : Nat := 1
  estop : Level := .released
  line : Level := .asserted
  deriving DecidableEq, Repr

/-! ## Ring Port and Office Port -/

/-- The ring state (R168). -/
inductive RingState where
  | up
  | down
  deriving DecidableEq, Repr

/-- The Ring Port (R163, R167 to R171, R176). The check timer is none while it stands expired. -/
structure Ring where
  state : RingState := .down
  checkTimer : Option Nat := none
  releasePending : Bool := false
  outstanding : Option (BitVec 16) := none
  nextStamp : BitVec 16 := 0
  timeout : Option Nat := none
  safety : List RingFrame := []
  motion : List RingFrame := []
  order : List RingFrame := []
  pass : List RingFrame := []
  ageMotion : Nat := 0
  ageOrder : Nat := 0
  agePass : Nat := 0
  prioMotion : Nat := 2
  prioOrder : Nat := 3
  prioPass : Nat := 8
  tx : Option RingFrame := none
  badFrames : Nat := 0
  deriving DecidableEq, Repr

/-- The modes of a pass window (R173). -/
inductive PassMode where
  | always
  | idleOnly
  | haltedOnly
  deriving DecidableEq, Repr

/-- A pass window (R173). -/
structure PassWindow where
  enabled : Bool := false
  base : Nat := 0
  mask : Nat := 0
  mode : PassMode := .idleOnly
  deriving DecidableEq, Repr

/-- The Office Port and Router (R163, R173, R175, R176, R182). -/
structure Office where
  address : Nat := 96
  windows : Vector PassWindow 4 := Vector.replicate 4 {}
  replies : List Reply := []
  notices : List QueuedNotice := []
  replyLost : Bool := false
  noticeLost : Bool := false
  tx : Option OfficeFrame := none
  badFrames : Nat := 0
  deriving DecidableEq, Repr

/-! ## The machine -/

/-- The whole state, with the commands that wait, first in, first out. -/
structure State where
  pending : List Instr := []
  pins : Pins := {}
  clock : Clock := {}
  belt : Belt := {}
  eyes : Vector Eye 10 := Vector.replicate 10 {}
  track : Track := {}
  cars : List Car := []
  nextTag : Nat := 1
  gate : Gate := {}
  pacer : Pacer := {}
  timing : Timing := {}
  map : StationMap := {}
  seq : Sequencer := {}
  book : SaleBook := {}
  tallies : Vector TallyRow 16 := Vector.replicate 16 {}
  halt : HaltBlock := {}
  ring : Ring := {}
  office : Office := {}
  deriving DecidableEq, Repr

/-- Nothing stops the part: the spec gives every command an outcome, so there is no fault to raise. Safe. -/
inductive Fault where
  deriving DecidableEq, Repr

/-- Why a command has no meaning. -/
inductive Refusal where
  /-- Raised by exec alone, for a row that has no meaning yet; no row is in that case. Safe. -/
  | notModelled (mnemonic : String)
  deriving DecidableEq, Repr

/-! ## The named updates, one per field; their lemmas are in Laws/State.lean -/

def State.onPending (s : State) (f : List Instr → List Instr) : State := { s with pending := f s.pending }
def State.onPins (s : State) (f : Pins → Pins) : State := { s with pins := f s.pins }
def State.onClock (s : State) (f : Clock → Clock) : State := { s with clock := f s.clock }
def State.onBelt (s : State) (f : Belt → Belt) : State := { s with belt := f s.belt }
def State.onEyes (s : State) (f : Vector Eye 10 → Vector Eye 10) : State := { s with eyes := f s.eyes }
def State.onTrack (s : State) (f : Track → Track) : State := { s with track := f s.track }
def State.onCars (s : State) (f : List Car → List Car) : State := { s with cars := f s.cars }
def State.onNextTag (s : State) (f : Nat → Nat) : State := { s with nextTag := f s.nextTag }
def State.onGate (s : State) (f : Gate → Gate) : State := { s with gate := f s.gate }
def State.onPacer (s : State) (f : Pacer → Pacer) : State := { s with pacer := f s.pacer }
def State.onTiming (s : State) (f : Timing → Timing) : State := { s with timing := f s.timing }
def State.onMap (s : State) (f : StationMap → StationMap) : State := { s with map := f s.map }
def State.onSeq (s : State) (f : Sequencer → Sequencer) : State := { s with seq := f s.seq }
def State.onBook (s : State) (f : SaleBook → SaleBook) : State := { s with book := f s.book }
def State.onTallies (s : State) (f : Vector TallyRow 16 → Vector TallyRow 16) : State := { s with tallies := f s.tallies }
def State.onHalt (s : State) (f : HaltBlock → HaltBlock) : State := { s with halt := f s.halt }
def State.onRing (s : State) (f : Ring → Ring) : State := { s with ring := f s.ring }
def State.onOffice (s : State) (f : Office → Office) : State := { s with office := f s.office }

/-! ## Reset -/

/-- The power-on state, at which every block is held while RST is asserted. -/
def State.powerOn : State := {}

/-- The state right after RST is released with strap value 0 and the ESTOP and OHOLD pins released (DESIGN CHOICE, log 2: the
spec leaves the pins to the site). The silence timer runs (R5), the HALT line is released (R153), and the first broadcast, a
RING_CHECK with stamp 0, has been queued at once and is being transmitted (R176). -/
def State.reset : State :=
  { pins := { rst := .released, straps := 0, ohold := .released }
    belt := { silence := some 100 }
    halt := { line := .released }
    ring := { nextStamp := 1, tx := some (.broadcast .ringCheck 0) } }

end Sys2Proof.Machine
end

