-- ==== Sys2Proof/Machine/Flags.lean ====
section
/-! DEFINITION. Conditions and arithmetic the rules compute from the state: distances, station points, the lead car, the
entering car, the deviation, prices, credits, availability and the settled condition. Nothing here changes the state. -/

namespace Sys2Proof.Machine

/-! ## Ranges and sets -/

/-- A value outside its range is stored at the nearest end of the range (00_scope.md, Units and conventions). -/
def clamp (lo hi n : Nat) : Nat := max lo (min hi n)

/-- The signed form of `clamp`. -/
def clampInt (lo hi n : Int) : Int := max lo (min hi n)

/-- The station set with station i alone. -/
def stationBit (i : StationId) : StationSet := BitVec.twoPow 32 i.val

/-- Membership in a station set. -/
def hasStation (x : StationSet) (i : StationId) : Bool := x.getLsbD i.val

/-- The number after n in a sequence 1..top (R18, R95, R123, R151). -/
def nextInSequence (top n : Nat) : Nat := if top ≤ n then 1 else n + 1

/-- The first number not held, starting at n and stepping upward from top to 1 (R18, R95, R123, R151). The count bounds the
steps by the length of the sequence. -/
def firstFree (held : Nat → Bool) (top : Nat) : Nat → Nat → Nat
  | 0, n => n
  | count + 1, n => if held n then firstFree held top count (nextInSequence top n) else n

/-- A sum that stops at the largest 32-bit value (R137). -/
def saturate32 (n : Nat) : Nat := min 4294967295 n

/-! ## Cars -/

/-- The front distance F at belt count b, modulo 2^32 (1.1). -/
def Car.front (c : Car) (b : Word) : Word := b - c.stamp

/-- The rear distance R at belt count b of a car whose length is known (1.1). -/
def Car.rear (c : Car) (b : Word) : Option Word := c.length.map fun l => c.front b - l

/-- The entering car: the last record of the list while its length is absent (R19). -/
def enteringCar (cars : List Car) : Option Car :=
  match cars.getLast? with
  | some c => if c.length.isNone then some c else none
  | none => none

/-- The lead car: the front-most car that is not LEAVING (R71). -/
def leadCar (cars : List Car) : Option Car := cars.find? fun c => c.phase ≠ .leaving

/-- The record with a tag. -/
def carByTag (cars : List Car) (tag : Nat) : Option Car := cars.find? fun c => c.tag = tag

/-- A change of the record with a tag. -/
def changeCar (tag : Nat) (f : Car → Car) (cars : List Car) : List Car :=
  cars.map fun c => if c.tag = tag then f c else c

/-- The car directly ahead of a tag in the list. -/
def carAhead (tag : Nat) : List Car → Option Car
  | a :: b :: rest => if b.tag = tag then some a else carAhead tag (b :: rest)
  | _ => none

/-- The car directly behind a tag in the list. -/
def carBehind (tag : Nat) : List Car → Option Car
  | a :: b :: rest => if a.tag = tag then some b else carBehind tag (b :: rest)
  | _ => none

/-- The gap of R28: R of the car ahead minus F of the car behind, a signed 32-bit difference. None while the car ahead has no
length. -/
def crowdGap (b : Word) (ahead behind : Car) : Option Int :=
  (ahead.rear b).map fun r => (r - behind.front b).toInt

/-- A station of the activity set that is in neither set (R96). -/
def Car.unsettled (c : Car) (i : StationId) : Bool :=
  hasStation c.activity i && !hasStation c.served i && !hasStation c.missed i

/-! ## Eyes -/

/-- The indices of the tracking eyes (1.4). -/
def trackingEyes : List (Fin 10) := [4, 5, 6, 7, 8, 9]

/-- The lowest-index tracking eye above e that is enabled and reliable (R20, R29, R31). -/
def nextEyeAbove (eyes : Vector Eye 10) (e : Nat) : Option Nat :=
  (trackingEyes.find? fun k => decide (e < k.val) && eyes[k].enabled && eyes[k].reliable).map fun k => k.val

/-- The enabled entry that matches a node and an input (R10). -/
def matchingEye (eyes : Vector Eye 10) (node input : Nat) : Option (Fin 10) :=
  (List.finRange 10).find? fun k => eyes[k].enabled && eyes[k].node == node && eyes[k].input == input

/-- Whether a reported level reads ON (R8). -/
def Eye.readsOn (e : Eye) (level : Nat) : Bool :=
  match e.polarity with
  | .activeHigh => level == 1
  | .activeLow => level == 0

/-! ## Stations -/

/-- The order that ends a service: OUT for an arm, OFF otherwise (5.2). -/
def StationKind.offAction : StationKind → Action
  | .arm => .out
  | _ => .off

/-- The order that begins a service: IN for an arm, ON otherwise (5.2). -/
def StationKind.onAction : StationKind → Action
  | .arm => .inn
  | _ => .on

/-- Whether an action begins a service. -/
def Action.begins : Action → Bool
  | .on | .inn => true
  | _ => false

/-- The lead of a station at commanded speed V: ceil(V × travel time / 16000) for an arm (R82, R98). -/
def StationEntry.lead (e : StationEntry) (speed : Nat) : Nat :=
  match e.kind with
  | .arm => (speed * e.travel + 15999) / 16000
  | _ => 0

/-- The on point of a station (R98). -/
def StationEntry.onPoint (e : StationEntry) (speed : Nat) : Int :=
  (e.windowStart : Int) - (e.front : Int) - (e.lead speed : Int)

/-- The off point of a station (R98). -/
def StationEntry.offPoint (e : StationEntry) : Int := (e.windowEnd : Int) + e.rear

/-- A station is available when its alias is not 0 and its phase is not FAULT (R92). -/
def State.available (s : State) (i : StationId) : Bool :=
  s.map.aliases[i] != 0 && s.seq.stations[i].phase != .fault

/-- The set of available stations (R178). -/
def State.availableSet (s : State) : StationSet :=
  stationIds.foldl (fun x i => if s.available i then x ||| stationBit i else x) 0

/-- The sequencer is settled when every ARM station is IDLE or FAULT (R112). -/
def State.settled (s : State) : Bool :=
  stationIds.all fun i => s.map.table[i].kind != .arm ||
    s.seq.stations[i].phase == .idle || s.seq.stations[i].phase == .fault

/-- A station that keeps an ALIAS write, or a change of kind, away (R88, R91): its phase is neither IDLE nor FAULT, or an order
is in flight. -/
def Station.isBusy (st : Station) : Bool :=
  (st.phase != .idle && st.phase != .fault) || st.current.isSome

/-- Another ARM station holds this alias (R88, R91). -/
def State.armAliasTaken (s : State) (i : StationId) (node : Nat) : Bool :=
  stationIds.any fun j => j != i && s.map.table[j].kind == .arm && s.map.aliases[j] == node

/-- An ARM station that keeps RESUME away: FAULT with a last arm position other than OUT (R155). -/
def State.armUnsafe (s : State) : Bool :=
  stationIds.any fun i => s.map.table[i].kind == .arm && s.seq.stations[i].phase == .fault &&
    s.seq.stations[i].position != .out

/-! ## Order, sale, tag and incident numbers -/

/-- An order number held by a station, the gate or the pacer (R95). -/
def State.orderNumberHeld (s : State) (n : Nat) : Bool :=
  (stationIds.any fun i => (s.seq.stations[i].current.bind fun o => o.number) == some n) ||
  (s.gate.call.map fun r => r.number) == some n || (s.pacer.start.map fun r => r.number) == some n

/-- A sale number held by an open quote, a queued sale or a car (R123). -/
def State.saleNumberHeld (s : State) (n : Nat) : Bool :=
  ((List.finRange 15).any fun t => (s.book.quotes[t].map fun q => q.number) == some n) ||
  (s.book.queue.any fun q => q.sale.number == n) ||
  (s.cars.any fun c => (c.sale.map fun x => x.number) == some n)

/-- A tag held by a record in the list (R18). -/
def State.tagHeld (s : State) (n : Nat) : Bool := s.cars.any fun c => c.tag == n

/-- A number held by a record of the incident log (R151). -/
def State.incidentNumberHeld (s : State) (n : Nat) : Bool := s.halt.log.any fun r => r.number == n

/-! ## Entry Gate -/

/-- The loading eye is ON (R8). -/
def State.loadingOn (s : State) : Bool := s.eyes[0].on

/-- The exit-zone eye is ON (R8). -/
def State.zoneOn (s : State) : Bool := s.eyes[3].on

/-- The phase of the gate with no call in flight (R40). -/
def State.gateRest (s : State) : GatePhase :=
  if !s.gate.isOpen then .closed else if s.loadingOn then .ready else .waiting

/-- A belt distance from an optional stamp is at least a limit; an absent stamp does not limit (R40, R42). -/
def stampPassed (b : Word) (stamp : Option Word) (limit : Nat) : Bool :=
  match stamp with
  | none => true
  | some x => decide (limit ≤ (b - x).toNat)

/-- The seven admission conditions (R42). -/
def State.admissible (s : State) : Bool :=
  s.gate.isOpen &&
  s.halt.state == .clear &&
  s.pacer.state == .running &&
  (decide (s.cars.length < 16) && (enteringCar s.cars).isNone) &&
  stampPassed s.belt.count s.gate.lastCall s.gate.pitch &&
  stampPassed s.belt.count s.gate.prevRear s.gate.gap &&
  (!s.book.queue.isEmpty || s.gate.admitUnsold)

/-! ## Belt Pacer -/

/-- The stop point S = L − exit margin, signed (R71). -/
def State.stopPoint (s : State) : Int := (s.track.length : Int) - (s.pacer.margin : Int)

/-- The remaining distance r = S − F of a car, signed (R71, R73). -/
def State.remaining (s : State) (c : Car) : Int := s.stopPoint - ((c.front s.belt.count).toNat : Int)

/-- The lead car of a blocked exit (R71). -/
def State.blockedBy (s : State) : Option Car :=
  match s.zoneOn, leadCar s.cars with
  | true, some c =>
    if s.stopPoint - (s.pacer.approach : Int) ≤ ((c.front s.belt.count).toNat : Int) then some c else none
  | _, _ => none

/-- The ramp-down distance D(V, d) (R72). -/
def rampDistance (v d : Nat) : Nat :=
  if v ≤ d then 0
  else
    let n := (v + d - 1) / d - 1
    let area := n * v - d * (n * (n + 1) / 2)
    (area + 799) / 800

/-- The deceleration chosen by a point-stop record, read as it stands (R67). -/
def Pacer.decelValue (p : Pacer) : Decel → Nat
  | .dec => p.dec
  | .decHard => p.decHard

/-- The caps in force: those of the stations ENGAGING or ENGAGED whose cap is not 0 (R66). -/
def State.capsInForce (s : State) : List Nat :=
  (stationIds.filter fun i =>
    (s.seq.stations[i].phase == .engaging || s.seq.stations[i].phase == .engaged) && s.map.table[i].cap != 0).map
    fun i => s.map.table[i].cap

/-- The target T (R66). -/
def State.targetSpeed (s : State) : Nat :=
  if s.pacer.state = .stopping then 0 else s.capsInForce.foldl min s.pacer.runSpeed

/-- One step of V toward T (R67), without a latched ramp. -/
def stepToward (accel dec target v : Nat) : Nat :=
  if v < target then min target (v + accel)
  else if target < v then max target (v - dec)
  else v

/-- The deviation: commanded count minus belt count, signed 32-bit (R69). -/
def State.deviation (s : State) : Int := (s.pacer.commanded - s.belt.count).toInt

/-! ## Sale Book -/

/-- The options of an option set, in order. -/
def optionIds : List (Fin 8) := List.finRange 8

/-- What a selection resolves to: the plan number, the discount and the granted options (R120). -/
structure Selection where
  plan : Nat
  discount : Nat
  granted : OptionSet
  deriving DecidableEq, Repr

/-- A code window is a hit (R120). -/
def CodeWindow.hit (w : CodeWindow) (code : BitVec 16) : Bool :=
  w.enabled && code &&& w.mask == w.base &&& w.mask

/-- The options a window grants to a code (R120). -/
def CodeWindow.granted (w : CodeWindow) (code : BitVec 16) : OptionSet :=
  if w.grant then (code &&& ~~~w.mask).setWidth 8 else 0

/-- A code resolved against the windows in index order (R120); none is an unknown code. -/
def resolveCode (codes : Vector CodeWindow 8) (code : BitVec 16) : Option Selection :=
  ((List.finRange 8).find? fun k => codes[k].hit code).map fun k =>
    { plan := codes[k].plan.val, discount := codes[k].discount, granted := codes[k].granted code }

/-- The gross of a quote: the plan's price and the price of every option requested and not granted (R122). -/
def SaleBook.gross (b : SaleBook) (plan : Fin 16) (requested granted : OptionSet) : Nat :=
  optionIds.foldl (fun sum k =>
    if requested.getLsbD k.val && !granted.getLsbD k.val then sum + b.options[k].price else sum) b.plans[plan].price

/-- The amount of a gross under a discount in percent (R122). -/
def discounted (gross discount : Nat) : Nat := min 65535 (gross - gross * discount / 100)

/-- The resolved activity set: the plan's stations and those every option adds (R122). -/
def SaleBook.activity (b : SaleBook) (plan : Fin 16) (options : OptionSet) : StationSet :=
  optionIds.foldl (fun x k => if options.getLsbD k.val then x ||| b.options[k].added else x) b.plans[plan].stations

/-- The place kept for the entering car's sale: 1 if it holds one (R125). -/
def State.reserve (s : State) : Nat :=
  match enteringCar s.cars with
  | some c => if c.sale.isSome then 1 else 0
  | none => 0

/-- The slot of a terminal 1..15 in the quote table (R124). -/
def terminalSlot (t : Nat) : Option (Fin 15) := if h : 1 ≤ t ∧ t ≤ 15 then some ⟨t - 1, by omega⟩ else none

/-! ## Wash close -/

/-- Why a car closes (R35); a TUNNEL RESET closes with reason CLEARED and sends no order (R37). -/
inductive CloseReason where
  | exit
  | lost
  | cleared
  | tunnelReset
  deriving DecidableEq, Repr

/-- The outcome of a close: the first row of R134 whose condition holds. -/
def washOutcome (c : Car) (reason : CloseReason) : WashOutcome :=
  if c.flags.foreign then .foreign
  else if c.flags.struck then .struck
  else if c.sale.isNone then .unsold
  else if reason = .cleared ∨ reason = .tunnelReset then .cleared
  else if reason = .lost then .lost
  else if c.missed ≠ 0 then .partly
  else .full

/-- The sum of the weights of a station set (R135). -/
def weightSum (table : Vector StationEntry 32) (x : StationSet) : Nat :=
  stationIds.foldl (fun sum i => if hasStation x i then sum + table[i].weight else sum) 0

/-- A share of an amount, rounded down; 0 when the whole has no weight (R135). -/
def creditShare (amount part whole : Nat) : Nat := if whole = 0 then 0 else amount * part / whole

/-- The amount of a car's sale, or 0 (R135). -/
def Car.amount (c : Car) : Nat := (c.sale.map fun x => x.amount).getD 0

/-- The credit of a close (R135). -/
def washCredit (table : Vector StationEntry 32) (c : Car) (outcome : WashOutcome) : Nat :=
  match outcome with
  | .full | .unsold | .foreign => 0
  | .struck | .cleared => c.amount
  | .partly => creditShare c.amount (weightSum table c.missed) (weightSum table c.activity)
  | .lost => creditShare c.amount (weightSum table (c.activity &&& ~~~c.served)) (weightSum table c.activity)

end Sys2Proof.Machine
end

