-- ==== Sys2Proof/Machine/Operands.lean ====
section
/-! DEFINITION. The bytes of requests, replies, notices and ring frames: the codes of R162 and the field encoding of R178 and
R184. Reading operands comes first, writing data after it. -/

namespace Sys2Proof.Machine

/-! ## Numbers -/

/-- A two-byte field, high byte first (R162). -/
def word16 (hi lo : Byte) : BitVec 16 := hi ++ lo

/-- A two-byte number. -/
def num16 (hi lo : Byte) : Nat := (word16 hi lo).toNat

/-- A two-byte number in two's complement (R178). -/
def int16 (hi lo : Byte) : Int := (word16 hi lo).toInt

/-- A four-byte field, high byte first (R162). -/
def word32 (a b c d : Byte) : BitVec 32 := a ++ b ++ c ++ d

/-- A one-byte field (R178). -/
def one (n : Nat) : List Byte := [byteOf n]

/-- A two-byte field, high byte first (R178). -/
def two (n : Nat) : List Byte := [byteOf (n / 256), byteOf n]

/-- A two-byte bit field, high byte first. -/
def twoBits (x : BitVec 16) : List Byte := [x.extractLsb' 8 8, x.extractLsb' 0 8]

/-- A four-byte field, high byte first (R178). -/
def four (x : BitVec 32) : List Byte :=
  [x.extractLsb' 24 8, x.extractLsb' 16 8, x.extractLsb' 8 8, x.extractLsb' 0 8]

/-- A four-byte number. -/
def fourNat (n : Nat) : List Byte := four (BitVec.ofNat 32 n)

/-- A flag: 1 for true, 0 for false (R178). -/
def flag (b : Bool) : List Byte := one b.toNat

/-- An optional field: a presence byte, then the field's bytes, 0 when it is absent (R178). -/
def optional {α : Type} (size : Nat) (write : α → List Byte) : Option α → List Byte
  | some x => one 1 ++ write x
  | none => one 0 ++ List.replicate size 0

/-- An absent tag, order number or incident number is sent as 0 (R184). -/
def orZero (x : Option Nat) : List Byte := one (x.getD 0)

/-- An absent station or eye is sent as 255 (R184). -/
def orFF (x : Option Nat) : List Byte := one (x.getD 255)

/-! ## Names -/

def Action.code : Action → Nat
  | .on => 1
  | .off => 2
  | .inn => 3
  | .out => 4
  | .call => 5
  | .start => 6

def Result.code : Result → Nat
  | .ok => 0
  | .okClamped => 1
  | .badTable => 2
  | .badIndex => 3
  | .badValue => 4
  | .occupied => 5
  | .busy => 6
  | .wrongState => 7
  | .notFound => 8
  | .nothingToAck => 9
  | .notAcked => 10
  | .estopActive => 11
  | .ringDown => 12
  | .armUnsafe => 13
  | .notConfigured => 14
  | .unknownCode => 15
  | .noPlan => 16
  | .badOption => 17
  | .planUnavailable => 18
  | .noQuote => 19
  | .queueFull => 20
  | .dropped => 21
  | .noNode => 22
  | .notPassable => 23

/-- Cause kinds in the order of the table of 9.1 (R178). -/
def CauseKind.code : CauseKind → Nat
  | .estop => 0
  | .manual => 1
  | .armStrike => 2
  | .armStuck => 3
  | .carRoll => 4
  | .object => 5
  | .crowding => 6
  | .foreignObject => 7
  | .trackFull => 8
  | .exitCrash => 9
  | .stall => 10
  | .overrun => 11
  | .driveFault => 12
  | .encoder => 13
  | .ringLoss => 14
  | .driveNoStop => 15

/-- Outcomes in the order of the field list of R136 (DEDUCED, log 18). -/
def WashOutcome.code : WashOutcome → Nat
  | .full => 0
  | .partly => 1
  | .unsold => 2
  | .foreign => 3
  | .struck => 4
  | .cleared => 5
  | .lost => 6

def Way.code : Way → Nat
  | .resumed => 0
  | .reset => 1

/-- The reasons of STATION_FAULT in the order of R105, from 1 (R184). -/
def Reason.stationCode : Reason → Nat
  | .refused => 1
  | .timeout => 2
  | .position => 3
  | .returned => 4

/-- The reasons of ROLLER_FAULT and DRIVE_NO_START in the order of R45 and R61, from 1 (R184). -/
def Reason.orderCode : Reason → Nat
  | .refused => 1
  | .timeout => 2
  | .position => 0
  | .returned => 3

def Tender.code : Tender → Nat
  | .cash => 0
  | .card => 1
  | .account => 2
  | .free => 3

def tenderOf (n : Nat) : Option Tender :=
  match n with
  | 0 => some .cash
  | 1 => some .card
  | 2 => some .account
  | 3 => some .free
  | _ => none

def Polarity.code : Polarity → Nat
  | .activeHigh => 0
  | .activeLow => 1

def polarityOf (n : Nat) : Option Polarity :=
  match n with
  | 0 => some .activeHigh
  | 1 => some .activeLow
  | _ => none

def CarPhase.code : CarPhase → Nat
  | .entering => 0
  | .riding => 1
  | .leaving => 2

def GatePhase.code : GatePhase → Nat
  | .closed => 0
  | .waiting => 1
  | .ready => 2
  | .calling => 3
  | .rolling => 4

def PacerState.code : PacerState → Nat
  | .stopped => 0
  | .starting => 1
  | .running => 2
  | .pointStop => 3
  | .stopping => 4
  | .halted => 5

def Decel.code : Decel → Nat
  | .dec => 0
  | .decHard => 1

def StopWatch.code : StopWatch → Nat
  | .idle => 0
  | .watching => 1
  | .met => 2

def StationKind.code : StationKind → Nat
  | .posted => 0
  | .acked => 1
  | .arm => 2

def kindOf (n : Nat) : Option StationKind :=
  match n with
  | 0 => some .posted
  | 1 => some .acked
  | 2 => some .arm
  | _ => none

def StationPhase.code : StationPhase → Nat
  | .idle => 0
  | .engaging => 1
  | .engaged => 2
  | .releasing => 3
  | .fault => 4

def Wait.code : Wait → Nat
  | .ack => 0
  | .ret => 1
  | .position => 2

/-- The last arm position in the order of the list of R94 (DEDUCED, log 18). -/
def ArmPosition.code : ArmPosition → Nat
  | .unknown => 0
  | .out => 1
  | .moving => 2
  | .inn => 3

/-- The position code of an ARM_STATE frame (R162). -/
def armPositionOf (n : Nat) : Option ArmPosition :=
  match n with
  | 0 => some .out
  | 1 => some .moving
  | 2 => some .inn
  | _ => none

def PlanState.code : PlanState → Nat
  | .absent => 0
  | .offered => 1
  | .withdrawn => 2

def planStateOf (n : Nat) : Option PlanState :=
  match n with
  | 0 => some .absent
  | 1 => some .offered
  | 2 => some .withdrawn
  | _ => none

def HaltState.code : HaltState → Nat
  | .clear => 0
  | .halting => 1
  | .halted => 2
  | .restarting => 3

def IncidentState.code : IncidentState → Nat
  | .unacked => 0
  | .acked => 1
  | .closed => 2

/-- The ESTOP level and the HALT line: 0 released, 1 asserted (R178). -/
def levelCode : Level → Nat
  | .released => 0
  | .asserted => 1

/-- The ring state in the order of R168, UP or DOWN (DEDUCED, log 18). -/
def RingState.code : RingState → Nat
  | .up => 0
  | .down => 1

def PassMode.code : PassMode → Nat
  | .always => 0
  | .idleOnly => 1
  | .haltedOnly => 2

def passModeOf (n : Nat) : Option PassMode :=
  match n with
  | 0 => some .always
  | 1 => some .idleOnly
  | 2 => some .haltedOnly
  | _ => none

/-- A flag byte that is neither 0 nor 1 is no flag (R180). -/
def flagOf (n : Nat) : Option Bool :=
  match n with
  | 0 => some false
  | 1 => some true
  | _ => none

/-! ## Reading ring payloads -/

/-- The raw count of an ENC frame; another length is discarded (R2). -/
def encPayload : List Byte → Option (BitVec 16)
  | [hi, lo] => some (word16 hi lo)
  | _ => none

/-- The input and level of an EYE frame; another length, an input above 7 or a level that is no level is discarded (R10,
R163). -/
def eyePayload : List Byte → Option (Nat × Nat)
  | [input, level] => if input.toNat ≤ 7 ∧ level.toNat ≤ 1 then some (input.toNat, level.toNat) else none
  | _ => none

/-- The position and load of an ARM_STATE frame (R90, R162). -/
def armPayload : List Byte → Option (ArmPosition × Nat)
  | [position, load] => (armPositionOf position.toNat).map fun p => (p, load.toNat)
  | _ => none

/-- The report of a DRIVE_STATE frame (R62, R162, R163). -/
def drivePayload : List Byte → Option DriveReport
  | [ready, running, fault] =>
    match flagOf ready.toNat, flagOf running.toNat with
    | some r, some m => some { ready := r, running := m, fault := fault.toNat }
    | _, _ => none
  | _ => none

/-- The two results of an ORDER_ACK (R162). -/
inductive AckResult where
  | done
  | refused
  deriving DecidableEq, Repr

/-- The result of an ORDER_ACK frame (R162, R163). -/
def ackPayload : List Byte → Option AckResult
  | [result] =>
    match result.toNat with
    | 1 => some .done
    | 2 => some .refused
    | _ => none
  | _ => none

/-- Whether a payload has the form of an ORDER (R162, R163). -/
def orderForm : List Byte → Bool
  | [action, station] => decide (1 ≤ action.toNat) && decide (action.toNat ≤ 6) && decide (station.toNat ≤ 31)
  | _ => false

/-- The stamp of a broadcast (R162). -/
def stampPayload : List Byte → Option (BitVec 16)
  | [hi, lo] => some (word16 hi lo)
  | _ => none

/-! ## Reading office payloads -/

/-- What a QUOTE_REQ selects by (7.3). -/
inductive QuoteChoice where
  | plan (number : Nat)
  | code (code : BitVec 16)
  deriving DecidableEq, Repr

/-- The selection and the requested options of a QUOTE_REQ (R121, R162). -/
def quotePayload : List Byte → Option (QuoteChoice × OptionSet)
  | [selection, hi, lo, options] =>
    match selection.toNat with
    | 0 => some (.plan (num16 hi lo), options)
    | 1 => some (.code (word16 hi lo), options)
    | _ => none
  | _ => none

/-- The sale number and the tender of a CLOSE_REQ (R125, R162). -/
def closePayload : List Byte → Option (Nat × Tender)
  | [hi, lo, tender] => (tenderOf tender.toNat).map fun t => (num16 hi lo, t)
  | _ => none

/-- The sale number of a DROP_REQ (R126, R162). -/
def dropPayload : List Byte → Option Nat
  | [hi, lo] => some (num16 hi lo)
  | _ => none

/-! ## Reading the operands of requests -/

/-- No operands (R177). -/
def noOperands : List Byte → Option Unit
  | [] => some ()
  | _ => none

/-- A one-byte operand. -/
def byteOperand : List Byte → Option Nat
  | [x] => some x.toNat
  | _ => none

/-- A two-byte operand. -/
def wordOperand : List Byte → Option Nat
  | [hi, lo] => some (num16 hi lo)
  | _ => none

/-- The table, the index and the part of a TABLE READ (R178). -/
def readOperands : List Byte → Option (Nat × Nat × Nat)
  | [table, index, part] => some (table.toNat, index.toNat, part.toNat)
  | _ => none

/-- The fields of a STATION write, in the order of R82. -/
structure StationWrite where
  index : Nat
  kind : Nat
  windowStart : Nat
  windowEnd : Nat
  front : Nat
  rear : Int
  travel : Nat
  busy : Nat
  load : Nat
  cap : Nat
  weight : Nat
  deriving DecidableEq, Repr

def stationOperands : List Byte → Option StationWrite
  | [i, k, s1, s0, e1, e0, f1, f0, r1, r0, t1, t0, b1, b0, l, c1, c0, w] =>
    some { index := i.toNat, kind := k.toNat, windowStart := num16 s1 s0, windowEnd := num16 e1 e0, front := num16 f1 f0,
           rear := int16 r1 r0, travel := num16 t1 t0, busy := num16 b1 b0, load := l.toNat, cap := num16 c1 c0,
           weight := w.toNat }
  | _ => none

/-- The index and the value of an ALIAS write (R91). -/
def aliasOperands : List Byte → Option (Nat × Nat)
  | [i, a] => some (i.toNat, a.toNat)
  | _ => none

/-- The fields of a PLAN write, in the order of R116. -/
structure PlanWrite where
  index : Nat
  state : Nat
  price : Nat
  stations : StationSet
  essential : StationSet
  allow : OptionSet
  deriving DecidableEq, Repr

def planOperands : List Byte → Option PlanWrite
  | [i, st, p1, p0, s3, s2, s1, s0, e3, e2, e1, e0, a] =>
    some { index := i.toNat, state := st.toNat, price := num16 p1 p0, stations := word32 s3 s2 s1 s0,
           essential := word32 e3 e2 e1 e0, allow := a }
  | _ => none

/-- The index, price and added set of an OPTION write (R118). -/
def optionOperands : List Byte → Option (Nat × OptionEntry)
  | [i, p1, p0, s3, s2, s1, s0] => some (i.toNat, { price := num16 p1 p0, added := word32 s3 s2 s1 s0 })
  | _ => none

/-- The fields of a CODE write, in the order of R119. -/
structure CodeWrite where
  index : Nat
  enabled : Nat
  base : BitVec 16
  mask : BitVec 16
  plan : Nat
  discount : Nat
  grant : Nat
  deriving DecidableEq, Repr

def codeOperands : List Byte → Option CodeWrite
  | [i, e, b1, b0, m1, m0, p, d, g] =>
    some { index := i.toNat, enabled := e.toNat, base := word16 b1 b0, mask := word16 m1 m0, plan := p.toNat,
           discount := d.toNat, grant := g.toNat }
  | _ => none

/-! A write of PACING, GATE, ARBITER or EYE may name runtime fields too, and is taken for its writable fields (R9, R53, R79, R171,
R180). R178 gives runtime fields no place in a write: they are taken behind the writable fields, any of them, each as wide as a
read gives it, and their bytes are ignored (DESIGN CHOICE, log 21). -/

/-- The lengths that some of the fields of these widths have together. -/
def lengthsOf (widths : List Nat) : List Nat := widths.foldl (fun ns w => (ns ++ ns.map (· + w)).eraseDups) [0]

/-- The widths of reliable and state (R8). -/
def eyeRuntime : List Nat := [1, 1]

/-- The widths of the pacer's runtime fields, in the order of R79. -/
def pacingRuntime : List Nat := [1, 2, 2, 2, 4, 2, 1, 3, 3, 2, 1, 1, 4, 1]

/-- The widths of the gate's runtime fields, in the order of R53. -/
def gateRuntime : List Nat := [1, 1, 5, 5, 1]

/-- The widths of the arbiter's runtime fields, in the order of R171. -/
def arbiterRuntime : List Nat := [1, 1, 1, 1, 1, 1, 1, 1, 1, 3, 2]

/-- The writable fields of a write, if the bytes behind them are runtime fields of these widths (R180; log 21). -/
def withRuntime {α : Type} (widths : List Nat) (runtime : List Byte) (write : α) : Option α :=
  if (lengthsOf widths).contains runtime.length then some write else none

/-- The fields of an EYE write, in the order of R8; the position is carried for every index (R178). -/
structure EyeWrite where
  index : Nat
  enabled : Nat
  node : Nat
  input : Nat
  polarity : Nat
  position : Nat
  deriving DecidableEq, Repr

/-- The writable fields of an EYE write (R9). -/
def eyeOperands : List Byte → Option EyeWrite
  | i :: e :: n :: k :: p :: x1 :: x0 :: runtime =>
    withRuntime eyeRuntime runtime
      { index := i.toNat, enabled := e.toNat, node := n.toNat, input := k.toNat, polarity := p.toNat, position := num16 x1 x0 }
  | _ => none

/-- The fields of a PASS write, in the order of R173. -/
structure PassWrite where
  index : Nat
  enabled : Nat
  base : Nat
  mask : Nat
  mode : Nat
  deriving DecidableEq, Repr

def passOperands : List Byte → Option PassWrite
  | [i, e, b, m, d] => some { index := i.toNat, enabled := e.toNat, base := b.toNat, mask := m.toNat, mode := d.toNat }
  | _ => none

/-- The fields of a PACING write, in the order of R79. -/
structure PacingWrite where
  index : Nat
  accel : Nat
  dec : Nat
  decHard : Nat
  slip : Nat
  overrun : Nat
  margin : Nat
  approach : Nat
  deriving DecidableEq, Repr

/-- The parameters of a PACING write (R79). -/
def pacingOperands : List Byte → Option PacingWrite
  | i :: a1 :: a0 :: d1 :: d0 :: h1 :: h0 :: s1 :: s0 :: o1 :: o0 :: m1 :: m0 :: p1 :: p0 :: runtime =>
    withRuntime pacingRuntime runtime
      { index := i.toNat, accel := num16 a1 a0, dec := num16 d1 d0, decHard := num16 h1 h0, slip := num16 s1 s0,
        overrun := num16 o1 o0, margin := num16 m1 m0, approach := num16 p1 p0 }
  | _ => none

/-- The fields of a GATE write, in the order of R53. -/
structure GateWrite where
  index : Nat
  pitch : Nat
  gap : Nat
  reach : Nat
  admitUnsold : Nat
  deriving DecidableEq, Repr

/-- The parameters of a GATE write (R53). -/
def gateOperands : List Byte → Option GateWrite
  | i :: p1 :: p0 :: g1 :: g0 :: r1 :: r0 :: u :: runtime =>
    withRuntime gateRuntime runtime
      { index := i.toNat, pitch := num16 p1 p0, gap := num16 g1 g0, reach := num16 r1 r0, admitUnsold := u.toNat }
  | _ => none

/-- The fields of a TRACK write: L, then the parameters of R38 (R178). -/
structure TrackWrite where
  index : Nat
  track : Track
  deriving DecidableEq, Repr

def trackOperands : List Byte → Option TrackWrite
  | [i, l1, l0, m1, m0, o1, o0, c1, c0, w1, w0, a, h1, h0, e1, e0] =>
    some { index := i.toNat
           track := { length := num16 l1 l0, merge := num16 m1 m0, minObject := num16 o1 o0, maxCar := num16 c1 c0,
                      crowd := num16 w1 w0, driftAdjust := a.toNat, driftHalt := num16 h1 h0, expiry := num16 e1 e0 } }
  | _ => none

/-- The fields of a TIMING write, in the order of R178. -/
def timingOperands : List Byte → Option (Nat × Timing)
  | [i, e1, e0, o1, o0, s1, s0, d1, d0, q1, q0, c, t] =>
    some (i.toNat, { encoderSilence := num16 e1 e0, orderAck := num16 o1 o0, driveStart := num16 s1 s0,
                     driveStop := num16 d1 d0, quoteHold := num16 q1 q0, ringCheck := c.toNat, ringTimeout := t.toNat })
  | _ => none

/-- The index and the three priorities of an ARBITER write (R171). -/
def arbiterOperands : List Byte → Option (Nat × Nat × Nat × Nat)
  | i :: m :: o :: p :: runtime => withRuntime arbiterRuntime runtime (i.toNat, m.toNat, o.toNat, p.toNat)
  | _ => none

/-- The fields of a NODE write: a mask naming the fields written and the four addresses (R178, R181). -/
structure NodeWrite where
  index : Nat
  mask : Byte
  encoder : Nat
  drive : Nat
  roller : Nat
  office : Nat
  deriving DecidableEq, Repr

def nodeOperands : List Byte → Option NodeWrite
  | [i, m, e, d, r, o] =>
    some { index := i.toNat, mask := m, encoder := e.toNat, drive := d.toNat, roller := r.toNat, office := o.toNat }
  | _ => none

/-! ## Writing table entries -/

def StationEntry.bytes (e : StationEntry) : List Byte :=
  one e.kind.code ++ two e.windowStart ++ two e.windowEnd ++ two e.front ++ twoBits (BitVec.ofInt 16 e.rear) ++
  two e.travel ++ two e.busy ++ one e.load ++ two e.cap ++ one e.weight

def Plan.bytes (p : Plan) : List Byte :=
  one p.state.code ++ two p.price ++ four p.stations ++ four p.essential ++ [p.allow]

def OptionEntry.bytes (o : OptionEntry) : List Byte := two o.price ++ four o.added

def CodeWindow.bytes (w : CodeWindow) : List Byte :=
  flag w.enabled ++ twoBits w.base ++ twoBits w.mask ++ one w.plan.val ++ one w.discount ++ flag w.grant

/-- Every field of an eye table entry, reliable and state among them (R8); the state in the order of its list, ON or OFF
(DEDUCED, log 18). R8 gives reliable to the tracking eyes alone; for eyes 0 to 3 its byte is the power-on value true, which
nothing changes (DESIGN CHOICE, log 44). -/
def Eye.bytes (e : Eye) : List Byte :=
  flag e.enabled ++ one e.node ++ one e.input ++ one e.polarity.code ++ two e.position ++ flag e.reliable ++
  one (if e.on then 0 else 1)

def PassWindow.bytes (w : PassWindow) : List Byte := flag w.enabled ++ one w.base ++ one w.mask ++ one w.mode.code

/-- The parameters of the PACING table (R79). -/
def Pacer.bytes (p : Pacer) : List Byte :=
  two p.accel ++ two p.dec ++ two p.decHard ++ two p.slip ++ two p.overrun ++ two p.margin ++ two p.approach

def OrderRecord.bytes (r : OrderRecord) : List Byte := one r.number ++ flag r.transmitted

def PointStop.bytes (p : PointStop) : List Byte := one p.decel.code ++ flag p.latched

def DriveReport.bytes (r : DriveReport) : List Byte := flag r.ready ++ flag r.running ++ one r.fault

/-- The runtime state of the pacer, in the order of R79. -/
def Pacer.runtimeBytes (p : Pacer) : List Byte :=
  one p.state.code ++ two p.speed ++ two p.target ++ two p.runSpeed ++ four p.commanded ++ two p.acc ++ flag p.resume ++
  optional 2 PointStop.bytes p.pointStop ++ optional 2 OrderRecord.bytes p.start ++ two p.lastSent ++ one p.drive ++
  flag p.freeze ++ optional 3 DriveReport.bytes p.report ++ one p.watch.code

/-- The parameters of the GATE table (R53). -/
def Gate.bytes (g : Gate) : List Byte := two g.pitch ++ two g.gap ++ two g.reach ++ flag g.admitUnsold

/-- The runtime state of the gate, in the order of R53. -/
def Gate.runtimeBytes (g : Gate) : List Byte :=
  flag g.isOpen ++ one g.phase.code ++ optional 4 four g.lastCall ++ optional 4 four g.prevRear ++
  orZero (g.call.map fun r => r.number)

def Track.bytes (t : Track) : List Byte :=
  two t.length ++ two t.merge ++ two t.minObject ++ two t.maxCar ++ two t.crowd ++ one t.driftAdjust ++ two t.driftHalt ++
  two t.expiry

def Timing.bytes (t : Timing) : List Byte :=
  two t.encoderSilence ++ two t.orderAck ++ two t.driveStart ++ two t.driveStop ++ two t.quoteHold ++ one t.ringCheck ++
  one t.ringTimeout

/-- The three priorities of the ARBITER table (R171). -/
def Ring.arbiterBytes (r : Ring) : List Byte := one r.prioMotion ++ one r.prioOrder ++ one r.prioPass

/-- The runtime state of the arbiter and the ring, in the order of R171. -/
def Ring.runtimeBytes (r : Ring) : List Byte :=
  one 0 ++ one r.ageMotion ++ one r.ageOrder ++ one r.agePass ++ one r.safety.length ++ one r.motion.length ++
  one r.order.length ++ one r.pass.length ++ one r.state.code ++ optional 2 twoBits r.outstanding ++ twoBits r.nextStamp

/-- The four addresses of the NODE table (R181). -/
def State.nodeBytes (s : State) : List Byte :=
  one s.belt.encoder ++ one s.pacer.drive ++ one s.gate.roller ++ one s.office.address

/-! ## Writing list records -/

def CarFlags.bytes (f : CarFlags) : List Byte :=
  one (f.uncalled.toNat + 2 * f.oversize.toNat + 4 * f.foreign.toNat + 8 * f.struck.toNat)

def Sale.bytes (x : Sale) : List Byte :=
  two x.number ++ one x.terminal ++ one x.plan.val ++ [x.options] ++ two x.amount ++ one x.tender.code

/-- Part 0 of a CARS record: position, phase, flags and stamps (R179; DEDUCED order, log 19). -/
def Car.trackBytes (c : Car) (b : Word) : List Byte :=
  one c.tag ++ four c.stamp ++ optional 4 four c.length ++ optional 4 four c.tentative ++ one c.phase.code ++ c.flags.bytes ++
  orFF c.nextEye ++ four (c.front b) ++ optional 4 four (c.rear b)

/-- Part 1 of a CARS record: plan, sale and station sets (R179; DEDUCED order, log 19). -/
def Car.saleBytes (c : Car) : List Byte :=
  one c.tag ++ one c.plan.val ++ optional 8 Sale.bytes c.sale ++ four c.activity ++ four c.served ++ four c.missed

/-- A record of the SALES table (R131). R131 does not say from what the position field counts; it is sent counted from 1 at the
head, as the position of a CLOSE_REPLY is (R125; DESIGN CHOICE, log 40). -/
def QueuedSale.bytes (position : Nat) (q : QueuedSale) : List Byte := one position ++ q.sale.bytes ++ four q.activity

/-- A record of the QUOTES table (R131). -/
def Quote.bytes (q : Quote) : List Byte :=
  two q.number ++ one q.plan.val ++ [q.options] ++ two q.amount ++ four q.activity ++ fourNat q.hold

/-- A cause record, in the order of R142 (R184). -/
def Cause.bytes (c : Cause) : List Byte :=
  one c.kind.code ++ four c.belt ++ four c.uptime ++ orZero c.tag ++ orZero c.tag2 ++ orFF c.station ++ orFF c.eye

/-- Part 0 of an INCIDENTS record: header and primary cause, in the order of R149 (R179). -/
def Incident.bytes (r : Incident) : List Byte :=
  one r.number ++ one r.state.code ++ r.primary.bytes ++ one r.more ++ four r.opened ++
  optional 5 (fun x : Word × Way => four x.1 ++ one x.2.code) r.closed

def StationOrder.bytes (o : StationOrder) : List Byte :=
  one o.action.code ++ orZero o.number ++ orZero o.car ++ flag o.transmitted ++ one o.wait.code

/-- A record of the STATIONS-RUNTIME table (R114). -/
def Station.bytes (st : Station) : List Byte :=
  one st.phase.code ++ orZero st.car ++ optional 5 StationOrder.bytes st.current ++
  optional 1 (fun a : Action => one a.code) st.queued ++ one st.position.code ++ one st.load

def TallyRow.bytes (r : TallyRow) : List Byte :=
  fourNat r.washes ++ fourNat r.gross ++ fourNat r.credit ++ fourNat r.voids ++ fourNat r.voidAmount

/-! ## Writing frames -/

/-- The notice code (R184). -/
def Notice.code : Notice → Nat
  | .washClose .. => 1
  | .incidentOpen .. => 2
  | .incidentCause .. => 3
  | .incidentClosed .. => 4
  | .stationFault .. => 5
  | .drift .. => 6
  | .eyeMissed .. => 7
  | .exitStray .. => 8
  | .oversize .. => 9
  | .crowded .. => 10
  | .uncalledEntry .. => 11
  | .rollerMiss .. => 12
  | .rollerFault .. => 13
  | .driveNoStart .. => 14
  | .driveLearned .. => 15
  | .overshoot .. => 16

/-- The fields of a notice (R184, R178). -/
def Notice.fields : Notice → List Byte
  | .washClose tag number terminal plan amount credit outcome served missed =>
    one tag ++ two number ++ one terminal ++ one plan ++ two amount ++ two credit ++ one outcome.code ++ four served ++
    four missed
  | .incidentOpen number cause => one number ++ cause.bytes
  | .incidentCause number cause held more => one number ++ cause.bytes ++ one held ++ one more
  | .incidentClosed number way uptime held more => one number ++ one way.code ++ four uptime ++ one held ++ one more
  | .stationFault station action reason tag => one station ++ one action.code ++ one reason.stationCode ++ orZero tag
  | .drift tag eye d => one tag ++ one eye ++ twoBits (BitVec.ofInt 16 d)
  | .eyeMissed eye tag => one eye ++ one tag
  | .exitStray belt => four belt
  | .oversize tag front => one tag ++ four front
  | .crowded station ahead behind => one station ++ one ahead ++ one behind
  | .uncalledEntry tag => one tag
  | .rollerMiss number lastCall belt => one number ++ four lastCall ++ four belt
  | .rollerFault reason number => one reason.orderCode ++ one number
  | .driveNoStart reason number => one reason.orderCode ++ one number
  | .driveLearned address => one address
  | .overshoot tag rest => one tag ++ four (BitVec.ofInt 32 rest)

/-- The kind code and the payload of a reply (R162). -/
def ReplyBody.kindAndPayload : ReplyBody → Nat × List Byte
  | .quote result number plan options amount =>
    (0x21, one result.code ++ two number ++ one plan ++ [options] ++ two amount)
  | .close result number position => (0x23, one result.code ++ two number ++ one position)
  | .drop result number => (0x25, one result.code ++ two number)
  | .mgmt code result data => (0x27, one code ++ one result.code ++ data)
  | .maint result node data => (0x06, one result.code ++ one node ++ data)

/-- The frame the office transmitter sends (R162, R172, R184). -/
def OfficeFrame.frame : OfficeFrame → Frame
  | .reply r => { dst := r.dst, src := r.src, kind := r.body.kindAndPayload.1, payload := r.body.kindAndPayload.2 }
  | .notice n => { dst := 127, src := n.src, kind := 0x28, payload := one n.notice.code ++ n.notice.fields }

/-- The kind code of a broadcast (R162). -/
def BroadcastKind.code : BroadcastKind → Nat
  | .allStop => 0x13
  | .release => 0x14
  | .ringCheck => 0x15

/-- The frame the ring transmitter sends (R162). -/
def RingFrame.frame : RingFrame → Frame
  | .brake dst => { dst := dst, src := 0, kind := 0x12 }
  | .broadcast kind stamp => { dst := 127, src := 0, kind := kind.code, payload := twoBits stamp }
  | .setpoint dst speed => { dst := dst, src := 0, kind := 0x11, payload := two speed }
  | .order dst number action station =>
    { dst := dst, src := 0, kind := 0x10, order := number, payload := one action.code ++ one station }
  | .maint dst party data => { dst := dst, src := 0, kind := 0x16, order := party, payload := data }

/-- The bytes at RTX while a frame is being transmitted; none while the link is idle (R163). -/
def State.ringWire (s : State) : Option (List Byte) := s.ring.tx.map fun f => f.frame.wire

/-- The bytes at OTX while a frame is being transmitted; none while the link is idle (R163). -/
def State.officeWire (s : State) : Option (List Byte) := s.office.tx.map fun f => f.frame.wire

end Sys2Proof.Machine
end

