-- ==== Sys2Proof/Machine/Ops.lean ====
section
/-! DEFINITION. The operations every block shares: the ring transmitter and its class queues, the office queues, the order
numbers, the admission check of the gate, the change of the pacer and halt states, and the taking of a cause. -/

namespace Sys2Proof.Machine

/-! ## The ring transmitter (10.4) -/

def RingFrame.isBroadcast : RingFrame → Bool
  | .broadcast .. => true
  | _ => false

def RingFrame.isBrake : RingFrame → Bool
  | .brake .. => true
  | _ => false

def RingFrame.isAllStop : RingFrame → Bool
  | .broadcast .allStop _ => true
  | _ => false

/-- The effective priority of MOTION, ORDER and PASS (R169). -/
def effectivePriority (prio age : Nat) : Nat := max 1 (prio - age)

/-- The non-empty classes with their effective priorities, in the order that resolves equal values (R169). -/
def Ring.candidates (r : Ring) : List (RingClass × Nat) :=
  (if r.safety.isEmpty then [] else [(.safety, 0)]) ++
  (if r.motion.isEmpty then [] else [(.motion, effectivePriority r.prioMotion r.ageMotion)]) ++
  (if r.order.isEmpty then [] else [(.order, effectivePriority r.prioOrder r.ageOrder)]) ++
  (if r.pass.isEmpty then [] else [(.pass, effectivePriority r.prioPass r.agePass)])

/-- The first of the lowest values. -/
def lowestClass : List (RingClass × Nat) → Option RingClass
  | [] => none
  | x :: rest => some (rest.foldl (fun best y => if y.2 < best.2 then y else best) x).1

def Ring.queueOf (r : Ring) : RingClass → List RingFrame
  | .safety => r.safety
  | .motion => r.motion
  | .order => r.order
  | .pass => r.pass

/-- The age of a class after a choice: 0 for the winner, one more, at most 15, for another non-empty class (R169). -/
def ageAfter (queue : List RingFrame) (won : Bool) (age : Nat) : Nat :=
  if won then 0 else if queue.isEmpty then age else min 15 (age + 1)

/-- The arbiter's choice when the transmitter is free (R169). -/
def Ring.choose (r : Ring) : Ring :=
  match lowestClass r.candidates with
  | none => r
  | some c =>
    { r with
      tx := (r.queueOf c).head?
      safety := if c = .safety then r.safety.tail else r.safety
      motion := if c = .motion then r.motion.tail else r.motion
      order := if c = .order then r.order.tail else r.order
      pass := if c = .pass then r.pass.tail else r.pass
      ageMotion := ageAfter r.motion (c = .motion) r.ageMotion
      ageOrder := ageAfter r.order (c = .order) r.ageOrder
      agePass := ageAfter r.pass (c = .pass) r.agePass }

/-- A frame queued while nothing is being sent makes the transmitter free (R169; the choice is made at once, log 7). -/
def Ring.kick (r : Ring) : Ring := if r.tx.isNone then r.choose else r

/-- A frame at the tail of a class queue. -/
def Ring.append (r : Ring) (c : RingClass) (f : RingFrame) : Ring :=
  match c with
  | .safety => { r with safety := r.safety ++ [f] }
  | .motion => { r with motion := r.motion ++ [f] }
  | .order => { r with order := r.order ++ [f] }
  | .pass => { r with pass := r.pass ++ [f] }

/-- A frame is queued (R169, R170). -/
def Ring.push (r : Ring) (c : RingClass) (f : RingFrame) : Ring := (r.append c f).kick

/-- The frame in the transmitter is finished; the next choice is made (R169). -/
def Ring.finish (r : Ring) : Ring := ({ r with tx := none } : Ring).choose

/-- A SETPOINT is queued; while both places are taken it replaces the newest (R170). -/
def Ring.pushSetpoint (r : Ring) (dst speed : Nat) : Ring :=
  if 2 ≤ r.motion.length then { r with motion := r.motion.dropLast ++ [.setpoint dst speed] }
  else r.push .motion (.setpoint dst speed)

/-- A broadcast is queued with the next stamp (R167). -/
def Ring.pushBroadcast (r : Ring) (kind : BroadcastKind) : Ring :=
  ({ r with nextStamp := r.nextStamp + 1 } : Ring).push .safety (.broadcast kind r.nextStamp)

/-- A BRAKE is requested; none is added without a drive or while one is queued (R75, R145, R170). -/
def Ring.requestBrake (r : Ring) (drive : Nat) : Ring :=
  if drive = 0 ∨ r.safety.any RingFrame.isBrake then r else r.push .safety (.brake drive)

/-- The queued broadcasts are withdrawn. -/
def Ring.withdrawBroadcast (r : Ring) : Ring := { r with safety := r.safety.filter fun f => !f.isBroadcast }

/-- The ALL_STOP of the halt actions: a queued broadcast is withdrawn in its favour and the release-pending flag is cleared
(R167). An ALL_STOP already queued stands (R170). -/
def Ring.haltAllStop (r : Ring) : Ring :=
  let r := { r with releasePending := false }
  if r.safety.any RingFrame.isAllStop then r else r.withdrawBroadcast.pushBroadcast .allStop

/-- A RELEASE is requested: at once in place of a queued broadcast, otherwise as the next periodic broadcast (R167; queued at
the tail, log 24). -/
def Ring.requestRelease (r : Ring) : Ring :=
  if r.safety.any RingFrame.isBroadcast then
    ({ r.withdrawBroadcast with releasePending := false } : Ring).pushBroadcast .release
  else { r with releasePending := true }

/-- A periodic broadcast is queued (R167); none is added while a broadcast is queued (R170; log 24). -/
def Ring.periodic (r : Ring) (halt : HaltState) : Ring :=
  if r.safety.any RingFrame.isBroadcast then r
  else
    let kind := if r.releasePending then .release
      else if halt = .halting ∨ halt = .halted then .allStop else .ringCheck
    ({ r with releasePending := false } : Ring).pushBroadcast kind

/-- The outstanding broadcast is cleared, by its return or by the ring timeout; a periodic broadcast that the check timer asked
for in the meantime is queued now (R167, R168). -/
def Ring.clearOutstanding (r : Ring) (halt : HaltState) : Ring :=
  let r := { r with outstanding := none, timeout := none }
  if r.checkTimer.isNone then r.periodic halt else r

/-- The Ring Port's part of the halt actions: the ORDER queue is emptied, then ALL_STOP and BRAKE are queued (R145). -/
def Ring.haltPart (r : Ring) (drive : Nat) : Ring := (({ r with order := [] } : Ring).haltAllStop).requestBrake drive

/-! ## The office queues (R175) -/

/-- A reply is queued; with all 8 places taken it is discarded and the reply-lost flag is set (R172, R174). -/
def Office.queueReply (o : Office) (dst : Nat) (body : ReplyBody) : Office :=
  if 8 ≤ o.replies.length then { o with replyLost := true }
  else { o with replies := o.replies ++ [{ src := o.address, dst := dst, body := body }] }

/-- A notice is queued; with all 32 places taken it is discarded and the notice-lost flag is set (R175, R184). -/
def Office.queueNotice (o : Office) (n : Notice) : Office :=
  if 32 ≤ o.notices.length then { o with noticeLost := true }
  else { o with notices := o.notices ++ [{ src := o.address, notice := n }] }

/-- The office transmitter, when it is free and OHOLD is released, begins the head of the reply queue, or else the head of the
notice queue (R175). -/
def Office.kick (o : Office) (ohold : Level) : Office :=
  match o.tx, ohold with
  | none, .released =>
    match o.replies, o.notices with
    | r :: rest, _ => { o with tx := some (.reply r), replies := rest }
    | [], n :: rest => { o with tx := some (.notice n), notices := rest }
    | [], [] => o
  | _, _ => o

def State.reply (s : State) (dst : Nat) (body : ReplyBody) : State := s.onOffice fun o => o.queueReply dst body

def State.notify (s : State) (n : Notice) : State := s.onOffice fun o => o.queueNotice n

def State.officeKick (s : State) : State := s.onOffice fun o => o.kick s.pins.ohold

/-! ## Orders (R95) -/

/-- The number the next order takes (R95). -/
def State.freeOrderNumber (s : State) : Nat := firstFree s.orderNumberHeld 255 255 s.seq.nextNumber

/-- The number is taken: the next-number value is one past it (R95). -/
def State.takeOrderNumber (s : State) : State :=
  s.onSeq fun q => { q with nextNumber := nextInSequence 255 s.freeOrderNumber }

/-- An ORDER frame is placed in the ORDER queue. -/
def State.pushOrder (s : State) (dst number : Nat) (action : Action) (station : Nat) : State :=
  s.onRing fun r => r.push .order (.order dst number action station)

/-! ## The gate's admission check (R42 to R44) -/

/-- A CALL order is issued (R44). -/
def State.issueCall (s : State) : State :=
  ((s.takeOrderNumber.onGate fun g =>
    { g with call := some { number := s.freeOrderNumber, transmitted := false }, phase := .calling })).pushOrder
    s.gate.roller s.freeOrderNumber .call 0

/-- An admission check (R43): in READY, with all seven conditions, the gate calls the next car (R42). -/
def State.admissionCheck (s : State) : State :=
  if s.gate.phase = .ready ∧ s.admissible = true then s.issueCall else s

/-- The call ends: the record is absent, the ack timer stopped, the phase set from the open flag and the loading eye (R40). -/
def State.endCall (s : State) : State :=
  s.onGate fun g => { g with call := none, ackTimer := none, phase := s.gateRest }

/-- A call finishes, and an admission check follows (R40). -/
def State.finishCall (s : State) : State := s.endCall.admissionCheck

/-- The gate's part of a halt entry: a call in flight is abandoned, with no notice (R50). -/
def State.gateHaltPart (s : State) : State :=
  if s.gate.phase = .calling ∨ s.gate.phase = .rolling then s.endCall else s

/-! ## Changes of the halt state and of the pacer state -/

/-- A change of the halt state is an admission check for the gate (R143). -/
def State.setHaltState (s : State) (h : HaltState) : State :=
  (s.onHalt fun b => { b with state := h }).admissionCheck

/-- The open incident, if any (R149). -/
def State.openIncident (s : State) : Option Incident := s.halt.log.find? fun r => r.state ≠ .closed

/-- A change of the open incident. -/
def State.changeIncident (s : State) (f : Incident → Incident) : State :=
  s.onHalt fun b => { b with log := b.log.map fun r => if r.state ≠ .closed then f r else r }

/-- The open incident becomes CLOSED with the present uptime, and INCIDENT_CLOSED is queued (R157, R159). -/
def State.closeIncident (s : State) (way : Way) : State :=
  match s.openIncident with
  | none => s
  | some r =>
    (s.changeIncident fun r => { r with state := .closed, closed := some (s.clock.uptime, way) }).notify
      (.incidentClosed r.number way s.clock.uptime r.secondary.length r.more)

/-- RESTARTING ends (R157). -/
def State.endRestarting (s : State) : State := (s.closeIncident .resumed).setHaltState .clear

/-- The encoder silence timer is restarted (R5). -/
def State.restartSilence (s : State) : State := s.onBelt fun b => { b with silence := some s.timing.encoderSilence }

/-- A change of the pacer state, made known to the Halt Controller, where RUNNING or STOPPED ends RESTARTING (R157), and to the
gate, for which it is an admission check (R56). STARTING restarts the encoder silence timer (R5). -/
def State.setPacerState (s : State) (p : PacerState) : State :=
  let s1 := s.onPacer fun q => { q with state := p }
  let s2 := if p = .starting then s1.restartSilence else s1
  let s3 := if s2.halt.state = .restarting ∧ (p = .running ∨ p = .stopped) then s2.endRestarting else s2
  s3.admissionCheck

/-- The halting check (R147). -/
def State.haltingCheck (s : State) : State :=
  if s.halt.state = .halting ∧ s.settled = true ∧ s.pacer.watch = .met then s.setHaltState .halted else s

/-! ## Station records -/

/-- A change of one station's runtime record. -/
def State.onStation (s : State) (i : StationId) (f : Station → Station) : State :=
  s.onSeq fun q => { q with stations := q.stations.set i (f q.stations[i]) }

/-- A service is recorded as missed (R96): only for a station of the activity set in neither set. -/
def Car.recordMissed (c : Car) (i : StationId) : Car :=
  if c.unsettled i then { c with missed := c.missed ||| stationBit i } else c

/-- A service is recorded as served (R96). -/
def Car.recordServed (c : Car) (i : StationId) : Car :=
  if c.unsettled i then { c with served := c.served ||| stationBit i } else c

def State.recordMissed (s : State) (tag : Nat) (i : StationId) : State :=
  s.onCars (changeCar tag fun c => c.recordMissed i)

def State.recordServed (s : State) (tag : Nat) (i : StationId) : State :=
  s.onCars (changeCar tag fun c => c.recordServed i)

/-- The service of the station's engaged car, if it has one, is recorded as missed and the engagement dropped (R96). -/
def State.missEngaged (s : State) (i : StationId) : State :=
  match s.seq.stations[i].car with
  | none => s
  | some tag => (s.recordMissed tag i).onStation i fun st => { st with car := none }

/-- A change of a station's phase; one of an ARM station is a halting check (R112, R147). -/
def State.setStationPhase (s : State) (i : StationId) (p : StationPhase) : State :=
  let s1 := s.onStation i fun st => { st with phase := p }
  if s.map.table[i].kind = .arm ∧ s.seq.stations[i].phase ≠ p then s1.haltingCheck else s1

/-! ## Halt entry (R145) -/

/-- The resume flag after a halt entry from a pacer state (R75). The pacer is not HALTED at a halt entry (log 30). -/
def resumeAfterHalt (old : Bool) : PacerState → Bool
  | .starting | .running | .pointStop => true
  | .stopped | .stopping => false
  | .halted => old

/-- The pacer's halt entry (R75) and the start of the drive-stop watch (R76). -/
def State.pacerHaltEntry (s : State) : State :=
  let s1 := s.onPacer fun p =>
    { p with
      resume := resumeAfterHalt p.resume p.state
      start := none
      startTimer := none
      speed := 0
      pointStop := none
      profileTimer := none
      lastSent := 0
      refresh := 0
      watch := if p.drive = 0 then .met else .watching
      stopTimer := if p.drive = 0 then none else some s.timing.driveStop }
  let s2 := s1.onRing fun r => ({ r with motion := [] } : Ring).requestBrake s.pacer.drive
  s2.setPacerState .halted

/-- The implicit OUT of a halt (R111). -/
def implicitOut (car : Option Nat) : StationOrder :=
  { action := .out, number := none, car := car, transmitted := true, wait := .position }

/-- One station's part of the halt entry (R111). -/
def State.stationHaltEntry (s : State) (i : StationId) : State :=
  let dropped := s.seq.stations[i].car
  let s1 := s.missEngaged i
  let entry := s.map.table[i]
  s1.onStation i fun st =>
    let cleared := { st with queued := none, current := none, timer := none }
    if st.phase = .fault then cleared
    else if entry.kind ≠ .arm ∨ s.map.aliases[i] = 0 then { cleared with phase := .idle }
    else { cleared with phase := .releasing, current := some (implicitOut dropped), timer := some entry.busy }

/-- The Station Sequencer's halt entry (R111). -/
def State.sequencerHaltEntry (s : State) : State := stationIds.foldl State.stationHaltEntry s

/-- The halt actions (R145). The Ring Port's part comes first, so that the BRAKE asked for twice is sent once whatever is in the
transmitter (DEDUCED, log 7). -/
def State.haltActions (s : State) : State :=
  ((s.onRing fun r => r.haltPart s.pacer.drive).pacerHaltEntry).sequencerHaltEntry.gateHaltPart

/-! ## Taking a cause (9.3) -/

/-- The cars a cause names are marked STRUCK (R142). -/
def State.markStruck (s : State) (c : Cause) : State :=
  s.onCars fun cars => cars.map fun k =>
    if c.tag = some k.tag ∨ c.tag2 = some k.tag then { k with flags := { k.flags with struck := true } } else k

/-- The incident log with one place free for a new record (R150). -/
def logWithRoom (log : List Incident) : List Incident := if 8 ≤ log.length then log.dropLast else log

/-- The number the next incident takes (R151). -/
def State.freeIncidentNumber (s : State) : Nat := firstFree s.incidentNumberHeld 255 255 s.halt.nextNumber

/-- A new incident record at the head of the log (R144, R150, R151). -/
def State.newIncident (s : State) (c : Cause) : State :=
  s.onHalt fun b =>
    { b with
      log := { number := s.freeIncidentNumber, state := .unacked, primary := c, secondary := [], more := 0,
               opened := c.uptime, closed := none } :: logWithRoom b.log
      nextNumber := nextInSequence 255 s.freeIncidentNumber
      line := .asserted }

/-- The halt state becomes HALTING, and the halting check is made (R144, R146). -/
def State.enterHalting (s : State) : State := (s.setHaltState .halting).haltingCheck

/-- A cause taken in CLEAR opens an incident (R144). -/
def State.openBy (s : State) (c : Cause) : State :=
  let s1 := s.newIncident c
  ((s1.haltActions).notify (.incidentOpen s.freeIncidentNumber c)).enterHalting

/-- An incident with one more secondary cause: kept while fewer than 4 are held, counted otherwise (R146). -/
def Incident.addCause (r : Incident) (c : Cause) : Incident :=
  if r.secondary.length < 4 then { r with secondary := r.secondary ++ [c], state := .unacked }
  else { r with more := min 255 (r.more + 1), state := .unacked }

/-- The cause is added to the open incident, and INCIDENT_CAUSE is queued (R146). -/
def State.addSecondary (s : State) (c : Cause) : State :=
  match s.openIncident with
  | none => s
  | some r =>
    (s.changeIncident fun r => r.addCause c).notify
      (.incidentCause r.number c (r.addCause c).secondary.length (r.addCause c).more)

/-- A cause taken in HALTING, HALTED or RESTARTING; in RESTARTING the halt actions are taken again (R146). -/
def State.secondaryBy (s : State) (c : Cause) : State :=
  let s1 := s.addSecondary c
  if s.halt.state = .restarting then
    ((s1.onHalt fun b => { b with line := .asserted }).haltActions).enterHalting
  else s1

/-- The Halt Controller takes a cause record as one event (R142, R144, R146). DRIVE_NO_STOP opens no incident. -/
def State.takeCause (s : State) (c : Cause) : State :=
  let s1 := s.markStruck c
  if s.halt.state = .clear then
    if c.kind = .driveNoStop then s1 else s1.openBy c
  else s1.secondaryBy c

/-- A cause record with the present belt count and uptime (R142). -/
def State.causeNow (s : State) (kind : CauseKind) (tag tag2 station eye : Option Nat := none) : Cause :=
  { kind := kind, belt := s.belt.count, uptime := s.clock.uptime, tag := tag, tag2 := tag2, station := station, eye := eye }

/-- A block raises a cause, and it is taken at once (DEDUCED, log 5). -/
def State.raise (s : State) (kind : CauseKind) (tag tag2 station eye : Option Nat := none) : State :=
  s.takeCause (s.causeNow kind tag tag2 station eye)

/-! ## The drive orders -/

/-- A START order is issued (R60). -/
def State.issueStart (s : State) : State :=
  ((s.takeOrderNumber.onPacer fun p =>
    { p with start := some { number := s.freeOrderNumber, transmitted := false } })).pushOrder
    s.pacer.drive s.freeOrderNumber .start 0

/-- A SETPOINT is queued: last V sent and the refresh count follow it (R55, R70). -/
def State.queueSetpoint (s : State) (speed : Nat) : State :=
  (s.onRing fun r => r.pushSetpoint s.pacer.drive speed).onPacer fun p => { p with lastSent := speed, refresh := 0 }

/-! ## Commands -/

/-- A command taken by the part: nothing happens while RST is asserted (00_scope.md, Signal description), and at the end of the
command the office transmitter begins a frame if it may (R175; log 8). -/
def live (s : State) (effect : State → State) : Host.Outcome State Fault Refusal :=
  .next (if s.pins.rst = .asserted then s else (effect s).officeKick)

end Sys2Proof.Machine
end

