-- ==== Sys2Proof/Machine/Sequencer.lean ====
section
/-! DEFINITION. The Station Sequencer's shared operations (06): requesting, completing and failing orders, releases, the trigger
tests of a belt advance, and what an acknowledgment or a returned frame does to a station. -/

namespace Sys2Proof.Machine

/-! ## Requests (R102) -/

/-- The wait state of a new order (R102). -/
def StationKind.firstWait : StationKind → Wait
  | .posted => .ret
  | _ => .ack

/-- An order is issued to a station with no order in flight (R102). -/
def State.issueStationOrder (s : State) (i : StationId) (action : Action) (car : Option Nat) : State :=
  let order : StationOrder :=
    { action := action, number := some s.freeOrderNumber, car := car, wait := s.map.table[i].kind.firstWait }
  (s.takeOrderNumber.onStation i fun st => { st with current := some order }).pushOrder
    s.map.aliases[i] s.freeOrderNumber action i.val

/-- An order is requested: issued at once, or kept as the pending order (R102). -/
def State.requestOrder (s : State) (i : StationId) (action : Action) (car : Option Nat) : State :=
  if s.seq.stations[i].current.isSome then s.onStation i fun st => { st with queued := some action }
  else s.issueStationOrder i action car

/-! ## Completion and failure (R104 to R106) -/

/-- The phase of an ACKED or ARM station from what remains after a completion (R104). -/
def Station.remainingPhase (st : Station) : StationPhase :=
  match st.current with
  | some o => if o.action.begins then .engaging else .releasing
  | none => if st.car.isSome then .engaged else .idle

/-- The pending order after a completion: dropped when it equals the action completed, issued otherwise (R104). -/
def State.handlePending (s : State) (i : StationId) (completed : Action) : State :=
  match s.seq.stations[i].queued with
  | none => s
  | some a =>
    let s1 := s.onStation i fun st => { st with queued := none }
    if a = completed then s1
    else s1.requestOrder i a (if a.begins then s.seq.stations[i].car else none)

/-- The current order of a station completes successfully (R104). -/
def State.completeOrder (s : State) (i : StationId) : State :=
  match s.seq.stations[i].current with
  | none => s
  | some o =>
    let s1 := (s.onStation i fun st => { st with current := none, timer := none }).handlePending i o.action
    if s.map.table[i].kind = .posted ∨ s1.seq.stations[i].phase = .fault then s1
    else s1.setStationPhase i s1.seq.stations[i].remainingPhase

/-- The order ends without success: timer stopped, current and pending orders gone, the engaged car's service missed (R105,
R106). -/
def State.dropOrder (s : State) (i : StationId) : State :=
  (s.missEngaged i).onStation i fun st => { st with current := none, queued := none, timer := none }

/-- The car an ARM_STUCK names: the engaged car that was dropped, else the car of the failed order if it is still in the list
(R106). -/
def stuckTag (cars : List Car) (dropped orderCar : Option Nat) : Option Nat :=
  match dropped with
  | some t => some t
  | none => orderCar.bind fun t => if (carByTag cars t).isSome then some t else none

/-- The current order of a station fails (R105 for an ON or IN, R106 for an OFF or OUT). -/
def State.failOrder (s : State) (i : StationId) (reason : Reason) : State :=
  match s.seq.stations[i].current with
  | none => s
  | some o =>
    let dropped := s.seq.stations[i].car
    let arm : Bool := s.map.table[i].kind = .arm
    let s1 := s.dropOrder i
    let s2 := if o.action.begins && arm then s1.requestOrder i .out o.car else s1
    let s3 := (s2.setStationPhase i .fault).notify (.stationFault i.val o.action reason dropped)
    if !o.action.begins && arm then
      s3.raise .armStuck (tag := stuckTag s3.cars dropped o.car) (station := some i.val)
    else s3

/-! ## Acknowledgments and returned frames (R107) -/

/-- The station whose current order holds a number. -/
def State.stationOfOrder (s : State) (number : Nat) : Option StationId :=
  stationIds.find? fun i => (s.seq.stations[i].current.bind fun o => o.number) == some number

/-- The station that takes an acknowledgment of a number (R107). -/
def State.stationAwaitingAck (s : State) (number : Nat) : Option StationId :=
  stationIds.find? fun i => s.seq.stations[i].current.any fun o =>
    o.number == some number && o.transmitted && o.wait == .ack

/-- The station that takes a returned frame of a number (R107). -/
def State.stationAwaitingReturn (s : State) (number : Nat) : Option StationId :=
  stationIds.find? fun i => s.seq.stations[i].current.any fun o =>
    o.number == some number && o.transmitted && (o.wait == .ack || o.wait == .ret)

/-- A DONE taken by a station: it completes an ACKED order, and an ARM order whose position was seen; any other ARM order waits
for its position, for the busy limit (R104). -/
def State.stationDone (s : State) (i : StationId) : State :=
  match s.seq.stations[i].current with
  | none => s
  | some o =>
    if s.map.table[i].kind = .arm ∧ o.positionSeen = false then
      s.onStation i fun st =>
        { st with current := some { o with wait := .position }, timer := some s.map.table[i].busy }
    else s.completeOrder i

/-- An acknowledgment taken by a station (R104, R105). -/
def State.stationAck (s : State) (i : StationId) : AckResult → State
  | .done => s.stationDone i
  | .refused => s.failOrder i .refused

/-! ## Releases (R99, R108) -/

/-- A service recorded as served or missed (R96). -/
def State.recordService (s : State) (tag : Nat) (i : StationId) (served : Bool) : State :=
  if served then s.recordServed tag i else s.recordMissed tag i

/-- The engaged car of a station is released as at the off trigger (R99); an early release records the service as missed in
every phase (R108). -/
def State.releaseStation (s : State) (i : StationId) (early : Bool) : State :=
  match s.seq.stations[i].car with
  | none => s
  | some tag =>
    let kind := s.map.table[i].kind
    let phase := s.seq.stations[i].phase
    match phase with
    | .idle | .fault => s
    | _ =>
      let s1 := s.recordService tag i (phase == .engaged && !early)
      let s2 := s1.onStation i fun st => { st with car := none }
      let s3 := s2.requestOrder i kind.offAction (some tag)
      s3.setStationPhase i (if kind = .posted then .idle else .releasing)

/-- Every station engaged with a car is released (R26, R35, R108). The order among the stations, which fixes their order numbers
and their places in the ORDER queue, is not given; it is the index order (DESIGN CHOICE, log 38). -/
def State.releaseCar (s : State) (tag : Nat) (early : Bool) : State :=
  stationIds.foldl (fun s i => if s.seq.stations[i].car = some tag then s.releaseStation i early else s) s

/-- The engagements with a car are dropped and missed without orders, at TUNNEL RESET (R108). -/
def State.dropCar (s : State) (tag : Nat) : State :=
  stationIds.foldl (fun s i => if s.seq.stations[i].car = some tag then s.missEngaged i else s) s

/-- Every station of a car's activity set still in neither set is recorded as missed (R35, R108). -/
def State.missUnsettled (s : State) (tag : Nat) : State :=
  s.onCars (changeCar tag fun c => stationIds.foldl Car.recordMissed c)

/-- The ARM stations of an oversize car are settled (R27, R109), in index order, which no rule gives (DESIGN CHOICE, log 38). -/
def State.settleOversize (s : State) (tag : Nat) : State :=
  stationIds.foldl (fun s i =>
    if s.map.table[i].kind = .arm then
      if s.seq.stations[i].car = some tag then s.releaseStation i true else s.recordMissed tag i
    else s) s

/-! ## Trigger tests (R97 to R100) -/

/-- The off trigger test of a station (R99). -/
def State.offTest (s : State) (i : StationId) : State :=
  match (s.seq.stations[i].car.bind fun tag => carByTag s.cars tag).bind fun c => c.rear s.belt.count with
  | none => s
  | some r => if s.map.table[i].offPoint ≤ (r.toNat : Int) then s.releaseStation i false else s

/-- A car reaches a station's on trigger (R98). -/
def State.reachesOn (s : State) (i : StationId) (c : Car) : Bool :=
  c.unsettled i && s.seq.stations[i].car != some c.tag &&
  decide (s.map.table[i].onPoint s.pacer.speed ≤ ((c.front s.belt.count).toNat : Int))

/-- The whole window of a station lies behind a car's rear (R98). -/
def State.windowPassed (s : State) (i : StationId) (c : Car) : Bool :=
  match c.rear s.belt.count with
  | none => false
  | some r => decide (s.map.table[i].offPoint ≤ (r.toNat : Int))

/-- Two cars at a station that can serve one: the release is requested, both services are missed, CROWDED is sent (R100). R100
does not say which car the OFF or OUT concerns; it is the car ahead, whose service the order ends (DESIGN CHOICE, log 39). -/
def State.crowdStation (s : State) (i : StationId) (ahead behind : Nat) : State :=
  let s1 := s.requestOrder i s.map.table[i].kind.offAction (some ahead)
  let s2 := ((s1.recordMissed ahead i).recordMissed behind i).onStation i fun st => { st with car := none }
  (s2.setStationPhase i .releasing).notify (.crowded i.val ahead behind)

/-- An on trigger that finds the station engaged with another car, or in RELEASING (R100). -/
def State.onTriggerBusy (s : State) (i : StationId) (tag : Nat) : State :=
  match s.seq.stations[i].car with
  | some other =>
    if s.map.table[i].kind = .posted then
      (s.recordServed other i).onStation i fun st => { st with car := some tag }
    else s.crowdStation i other tag
  | none =>
    (s.onStation i fun st => { st with car := some tag }).requestOrder i s.map.table[i].kind.onAction (some tag)

/-- An on trigger of a station in IDLE (R98). -/
def State.onTriggerIdle (s : State) (i : StationId) (tag : Nat) : State :=
  let kind := s.map.table[i].kind
  let s1 := (s.onStation i fun st => { st with car := some tag }).requestOrder i kind.onAction (some tag)
  s1.setStationPhase i (if kind = .posted then .engaged else .engaging)

/-- The on trigger of a station for a car: the first case of R98 that applies. -/
def State.onTrigger (s : State) (i : StationId) (c : Car) : State :=
  if s.map.aliases[i] = 0 ∨ s.seq.stations[i].phase = .fault then s.recordMissed c.tag i
  else if s.windowPassed i c then s.recordMissed c.tag i
  else if s.seq.stations[i].phase = .idle then s.onTriggerIdle i c.tag
  else s.onTriggerBusy i c.tag

/-- The on trigger test of a station for a car. -/
def State.onTest (s : State) (i : StationId) (tag : Nat) : State :=
  match carByTag s.cars tag with
  | none => s
  | some c => if s.reachesOn i c then s.onTrigger i c else s

/-- One station's tests: the off test, then the on tests, front-most car first (R97). -/
def State.stationTests (s : State) (i : StationId) : State :=
  (s.cars.map fun c => c.tag).foldl (fun s tag => s.onTest i tag) (s.offTest i)

/-- The sequencer's part of a belt advance: no test is made unless the halt state is CLEAR (R97). Each station is tested on its
own; the order among the stations, which fixes order numbers, queue places and the order of CROWDED notices, is not given and
is the index order (DESIGN CHOICE, log 38). -/
def State.sequencerAdvance (s : State) : State :=
  if s.halt.state = .clear then stationIds.foldl State.stationTests s else s

/-! ## Arm reports (R101, R110) -/

/-- The ARM station that an arm report of a node is delivered to (R90). -/
def State.armOfNode (s : State) (node : Nat) : Option StationId :=
  stationIds.find? fun i => s.map.table[i].kind == .arm && s.map.aliases[i] == node

/-- The position an IN or OUT order asks for (R101). -/
def Action.asks : Action → Option ArmPosition
  | .inn => some .inn
  | .out => some .out
  | _ => none

/-- A report that confirms the current order completes it or marks its position seen (R101). -/
def State.confirmPosition (s : State) (i : StationId) (position : ArmPosition) : State :=
  match s.seq.stations[i].current with
  | none => s
  | some o =>
    if o.action.asks = some position then
      match o.wait with
      | .position => s.completeOrder i
      | .ack =>
        if o.transmitted then s.onStation i fun st => { st with current := some { o with positionSeen := true } } else s
      | .ret => s
    else s

/-- An arm report is taken (R101). The load is compared first; ARM_STRIKE follows the recording of the report and the order it
confirms, and names the car engaged when the report was taken (R110; log 6). -/
def State.armReport (s : State) (i : StationId) (position : ArmPosition) (load : Nat) : State :=
  let limit := s.map.table[i].load
  let strike := decide (limit < load) && !decide (limit < s.seq.stations[i].load)
  let tag := s.seq.stations[i].car
  let s1 := (s.onStation i fun st => { st with position := position, load := load }).confirmPosition i position
  if strike then s1.raise .armStrike (tag := tag) (station := some i.val) else s1

/-! ## TUNNEL RESET (R115) -/

/-- One station after TUNNEL RESET (R115). -/
def Station.afterReset (st : Station) : Station :=
  { st with
    phase := if st.phase = .fault then .fault else .idle
    car := none
    current := none
    queued := none
    timer := none }

/-- The sequencer's part of TUNNEL RESET (R115). -/
def State.sequencerReset (s : State) : State :=
  s.onSeq fun q => { q with stations := q.stations.map Station.afterReset }

end Sys2Proof.Machine
end

