-- ==== Sys2Proof/Machine/Track.lean ====
section
/-! DEFINITION. The Car Track's shared operations (02) and the Wash Close Unit's close (08): entry and bind, rear confirmation,
the foreign object, oversize, crowding, tracking eyes, the exit, expiry and the close of a car. -/

namespace Sys2Proof.Machine

/-- A change of the record with a tag. -/
def State.onCar (s : State) (tag : Nat) (f : Car → Car) : State := s.onCars (changeCar tag f)

/-! ## Entry (R20 to R23) -/

/-- The tag the next record takes (R18). -/
def State.freeTag (s : State) : Nat := firstFree s.tagHeld 255 255 s.nextTag

/-- The record of a car whose front is at the datum, before its bind (R20). -/
def State.newCar (s : State) : Car :=
  { tag := s.freeTag, stamp := s.belt.count, nextEye := nextEyeAbove s.eyes 3,
    activity := s.book.plans[(0 : Fin 16)].stations }

/-- The record with the sale bound to it (R21, R128). -/
def Car.bind (c : Car) (q : QueuedSale) : Car :=
  { c with sale := some q.sale, plan := q.sale.plan, activity := q.activity }

/-- A record is made and bound: the oldest sale leaves the queue, which is an admission check, or the car enters unsold (R20,
R21, R128). -/
def State.appendCar (s : State) : State :=
  let s1 := s.onNextTag fun _ => nextInSequence 255 s.freeTag
  match s.book.queue with
  | [] => s1.onCars fun cars => cars ++ [s.newCar]
  | q :: rest => ((s1.onCars fun cars => cars ++ [s.newCar.bind q]).onBook fun b => { b with queue := rest }).admissionCheck

/-- A record made outside ROLLING is marked UNCALLED (R21). -/
def State.markUncalled (s : State) (tag : Nat) : State :=
  if s.gate.phase = .rolling then s
  else (s.onCar tag fun c => { c with flags := { c.flags with uncalled := true } }).notify (.uncalledEntry tag)

/-- The entry front as the gate takes it (R46, R47). -/
def State.gateEntryFront (s : State) : State :=
  if s.gate.phase = .rolling then s.finishCall else s.admissionCheck

/-- An entry front (R20, R21). -/
def State.entryFront (s : State) : State :=
  if 16 ≤ s.cars.length then s.raise .trackFull (eye := some 1)
  else (s.appendCar.markUncalled s.freeTag).gateEntryFront

/-- An on edge of the entry eye (R20, R23). -/
def State.entryOn (s : State) : State :=
  match enteringCar s.cars with
  | none => s.entryFront
  | some c => if c.tentative.isSome then s.onCar c.tag fun k => { k with tentative := none } else s

/-- An off edge of the entry eye (R22). -/
def State.entryOff (s : State) : State :=
  match enteringCar s.cars with
  | none => s
  | some c => if c.tentative.isSome then s else s.onCar c.tag fun k => { k with tentative := some s.belt.count }

/-! ## The close of a car (R35, R133 to R137) -/

/-- A tally row after a close (R137). -/
def TallyRow.addClose (r : TallyRow) (amount credit : Nat) : TallyRow :=
  { r with
    washes := saturate32 (r.washes + 1)
    gross := saturate32 (r.gross + amount)
    credit := saturate32 (r.credit + credit) }

/-- A tally row after a void (R138). -/
def TallyRow.addVoid (r : TallyRow) (amount : Nat) : TallyRow :=
  { r with voids := saturate32 (r.voids + 1), voidAmount := saturate32 (r.voidAmount + amount) }

/-- A change of the tally row of a plan. -/
def State.onTally (s : State) (plan : Fin 16) (f : TallyRow → TallyRow) : State :=
  s.onTallies fun rows => rows.set plan (f rows[plan])

/-- The WASH_CLOSE notice of a record (R136). -/
def washNotice (c : Car) (outcome : WashOutcome) (credit : Nat) : Notice :=
  .washClose c.tag ((c.sale.map fun x => x.number).getD 0) ((c.sale.map fun x => x.terminal).getD 0) c.plan.val c.amount credit
    outcome c.served c.missed

/-- The Wash Close Unit takes a record: outcome, credit, tally row, notice (R133). -/
def State.washClose (s : State) (c : Car) (reason : CloseReason) : State :=
  let outcome := washOutcome c reason
  let credit := washCredit s.map.table c outcome
  (s.onTally c.plan fun r => r.addClose c.amount credit).notify (washNotice c outcome credit)

/-- The engagements of a closing car are settled (R35, R108). -/
def State.settleClosing (s : State) (tag : Nat) : CloseReason → State
  | .exit => s.releaseCar tag false
  | .lost | .cleared => s.releaseCar tag true
  | .tunnelReset => s.dropCar tag

/-- The record is handed over and removed; the removal is an admission check (R35, R43). -/
def State.handOver (s : State) (tag : Nat) (reason : CloseReason) : State :=
  match carByTag s.cars tag with
  | none => s
  | some c => ((s.washClose c reason).onCars fun cars => cars.filter fun k => k.tag != tag).admissionCheck

/-- A car is closed in the three steps of R35. -/
def State.closeCar (s : State) (tag : Nat) (reason : CloseReason) : State :=
  ((s.settleClosing tag reason).missUnsettled tag).handOver tag reason

/-! ## Crowding (R28) -/

/-- The crowd check between a car and the one directly behind it. -/
def State.crowdPair (s : State) (ahead behind : Car) : State :=
  match crowdGap s.belt.count ahead behind with
  | none => s
  | some gap =>
    if gap < (s.track.crowd : Int) then s.raise .crowding (tag := some behind.tag) (tag2 := some ahead.tag) else s

/-- The crowd check between a car and the one ahead of it, if any. -/
def State.crowdAhead (s : State) (tag : Nat) : State :=
  match carByTag s.cars tag, carAhead tag s.cars with
  | some c, some a => s.crowdPair a c
  | _, _ => s

/-- The crowd check between a car and the one behind it, if any. -/
def State.crowdBehind (s : State) (tag : Nat) : State :=
  match carByTag s.cars tag, carBehind tag s.cars with
  | some c, some b => s.crowdPair c b
  | _, _ => s

/-! ## Tests at a belt advance (R24 to R27, R31, R34) -/

/-- A foreign car's sale goes back to the head of the sale queue, with the activity set it was bound with (R26, R128). -/
def State.returnSale (s : State) (c : Car) : State :=
  match c.sale with
  | none => s
  | some x =>
    ((s.onCar c.tag fun k => { k with sale := none }).onBook fun b =>
      { b with queue := { sale := x, activity := c.activity } :: b.queue }).admissionCheck

/-- A foreign object (R26). -/
def State.foreignObject (s : State) (c : Car) : State :=
  let s1 := s.onCar c.tag fun k => { k with flags := { k.flags with foreign := true } }
  let s2 := (s1.returnSale c).onCar c.tag fun k => { k with plan := 0 }
  let s3 := (s2.releaseCar c.tag true).onCar c.tag fun k => { k with activity := k.served ||| k.missed }
  s3.raise .foreignObject (tag := some c.tag)

/-- The foreign-object test of a car just measured (R26). -/
def State.foreignTest (s : State) (tag : Nat) : State :=
  match carByTag s.cars tag with
  | none => s
  | some c =>
    match c.length with
    | none => s
    | some l => if l.toNat < s.track.minObject then s.foreignObject c else s

/-- A record whose rear is confirmed at a tentative rear stamp (R25). -/
def Car.confirm (c : Car) (rear : Word) : Car :=
  { c with
    length := some (rear - c.stamp)
    phase := if c.phase = .entering then .riding else c.phase
    tentative := none }

/-- Rear confirmation of the entering car (R25, R26, R28). -/
def State.confirmRear (s : State) : State :=
  match enteringCar s.cars with
  | none => s
  | some c =>
    match c.tentative with
    | none => s
    | some rear =>
      if s.track.merge ≤ (s.belt.count - rear).toNat then
        let s1 := (s.onCar c.tag fun k => k.confirm rear).onGate fun g => { g with prevRear := some rear }
        (s1.foreignTest c.tag).crowdAhead c.tag
      else s

/-- The oversize test of the entering car (R27). -/
def State.oversizeTest (s : State) : State :=
  match enteringCar s.cars with
  | none => s
  | some c =>
    if c.tentative.isNone ∧ c.flags.oversize = false ∧ s.track.maxCar < (c.front s.belt.count).toNat then
      let s1 := s.onCar c.tag fun k => { k with flags := { k.flags with oversize := true } }
      (s1.settleOversize c.tag).notify (.oversize c.tag (c.front s.belt.count))
    else s

/-- The position of an eye in the table. -/
def eyePosition (eyes : Vector Eye 10) (e : Nat) : Nat := ((eyes[e]?).map fun x => x.position).getD 0

/-- The reliable flag of an eye becomes false (R13). -/
def markUnreliable (eyes : Vector Eye 10) (e : Nat) : Vector Eye 10 :=
  eyes.zipIdx.map fun x => if x.2 = e then { x.1 with reliable := false } else x.1

/-- An eye has been missed by a car: it is marked, EYE_MISSED is sent, and every car waiting for it waits for the next one
(R31). -/
def State.missEye (s : State) (e tag : Nat) : State :=
  let s1 := (s.onEyes fun eyes => markUnreliable eyes e).notify (.eyeMissed e tag)
  s1.onCars fun cars => cars.map fun c => if c.nextEye = some e then { c with nextEye := nextEyeAbove s1.eyes e } else c

/-- The eye that a car has passed without breaking it, if its next tracking eye is one (R31). -/
def State.passedEye (s : State) (tag : Nat) : Option Nat :=
  match carByTag s.cars tag with
  | none => none
  | some c =>
    match c.nextEye with
    | none => none
    | some e =>
      if eyePosition s.eyes e + s.track.driftHalt < (c.front s.belt.count).toNat then some e else none

/-- The eye-missed test of a car, repeated for each new next eye; there are six tracking eyes to miss (R31). -/
def State.missTest (s : State) (tag : Nat) : Nat → State
  | 0 => s
  | count + 1 =>
    match s.passedEye tag with
    | none => s
    | some e => (s.missEye e tag).missTest tag count

/-- A car is past the point at which it is given up for LOST (R34). -/
def State.expired (s : State) (c : Car) : Bool :=
  match c.rear s.belt.count with
  | some r => decide (s.track.length + s.track.expiry < r.toNat)
  | none => decide (s.track.length + s.track.maxCar + s.track.expiry < (c.front s.belt.count).toNat)

/-- The tracking expiry test of a car (R34). -/
def State.expiryTest (s : State) (tag : Nat) : State :=
  match carByTag s.cars tag with
  | none => s
  | some c => if s.expired c then s.closeCar tag .lost else s

/-- The tags of the list, front-most first. -/
def State.tags (s : State) : List Nat := s.cars.map fun c => c.tag

/-- The Car Track's part of a belt advance, in the order of R24. -/
def State.trackAdvance (s : State) : State :=
  let s1 := s.confirmRear.oversizeTest
  let s2 := s1.tags.foldl (fun s tag => s.missTest tag 6) s1
  s2.tags.foldl State.expiryTest s2

/-! ## Tracking eyes (R29, R30) -/

/-- A difference of two unsigned distances, signed. -/
def distance (a b : Nat) : Int := (a : Int) - (b : Int)

/-- A record re-anchored so that its front distance at belt count b is p (R29). -/
def Car.reAnchor (c : Car) (b : Word) (p : Nat) : Car :=
  let stamp := b - BitVec.ofNat 32 p
  { c with stamp := stamp, tentative := c.tentative.map fun t => t + (stamp - c.stamp) }

/-- A matched edge of tracking eye e (R29). Of the two crowd checks the one toward the car ahead comes first, as R29 names them
(DEDUCED, log 43). -/
def State.matchEye (s : State) (e : Nat) (c : Car) : State :=
  let p := eyePosition s.eyes e
  let d := distance p (c.front s.belt.count).toNat
  let s1 := s.onCar c.tag fun k => { k.reAnchor s.belt.count p with nextEye := nextEyeAbove s.eyes e }
  let s2 := if s.track.driftAdjust < d.natAbs then s1.notify (.drift c.tag e d) else s1
  (s2.crowdAhead c.tag).crowdBehind c.tag

/-- An on edge of a reliable tracking eye (R29, R30). -/
def State.trackingOn (s : State) (e : Nat) : State :=
  match s.cars.find? fun c => c.nextEye == some e with
  | none => s.raise .object (eye := some e)
  | some c =>
    if (distance (c.front s.belt.count).toNat (eyePosition s.eyes e)).natAbs ≤ s.track.driftHalt then s.matchEye e c
    else
      (s.onCar c.tag fun k => { k with nextEye := nextEyeAbove s.eyes e }).raise .carRoll (tag := some c.tag) (eye := some e)

/-! ## The exit (R32, R33) -/

/-- An on edge of the exit eye (R32). -/
def State.exitOn (s : State) : State :=
  match s.cars.find? fun c => c.phase != .leaving with
  | none => s.notify (.exitStray s.belt.count)
  | some c =>
    if (distance (c.front s.belt.count).toNat s.track.length).natAbs ≤ s.track.driftHalt then
      let s1 := s.onCar c.tag fun k => { k with phase := .leaving }
      if s.zoneOn then s1.raise .exitCrash (tag := some c.tag) (eye := some 2) else s1
    else s.notify (.exitStray s.belt.count)

/-- The conditions of an exit close (R33). -/
def State.exitCloses (s : State) (c : Car) : Bool :=
  c.phase == .leaving &&
  match c.rear s.belt.count with
  | none => false
  | some r => decide (distance s.track.length s.track.driftHalt ≤ (r.toNat : Int))

/-- An off edge of the exit eye (R33). -/
def State.exitOff (s : State) : State :=
  match s.cars.head? with
  | none => s
  | some c => if s.exitCloses c then s.closeCar c.tag .exit else s

end Sys2Proof.Machine
end

