-- ==== Sys2Proof/Machine/Drive.lean ====
section
/-! DEFINITION. The Belt Pacer's shared operations (04): the point stop, the outcome of a START, the drive's reports, the profile
interval, the restart and the reset. -/

namespace Sys2Proof.Machine

/-! ## The point stop (R71, R74) -/

/-- The deceleration a new point stop uses (R71). -/
def State.chooseDecel (s : State) (c : Car) : Decel :=
  if s.remaining c < (rampDistance s.pacer.speed s.pacer.dec : Int) then .decHard else .dec

/-- The exit-blocked test, made in RUNNING (R71). -/
def State.exitBlockedCheck (s : State) : State :=
  if s.pacer.state = .running then
    match s.blockedBy with
    | none => s
    | some c =>
      (s.onPacer fun p => { p with pointStop := some { decel := s.chooseDecel c, latched := false } }).setPacerState .pointStop
  else s

/-- The exit zone clears in POINT_STOP: the state returns to RUNNING, where the exit-blocked test is made (R71, R74). -/
def State.exitZoneClear (s : State) : State :=
  if s.pacer.state = .pointStop then
    ((s.onPacer fun p => { p with pointStop := none }).setPacerState .running).exitBlockedCheck
  else s

/-! ## The outcome of a START (R61) -/

/-- The drive-fault check at entry to RUNNING (R63). -/
def State.faultAtEntry (s : State) : State :=
  if s.pacer.report.any fun r => r.fault != 0 then s.raise .driveFault else s

/-- A START acknowledged with DONE (R61, R65). -/
def State.startDone (s : State) : State :=
  let s1 := s.onPacer fun p =>
    { p with
      start := none
      startTimer := none
      commanded := s.belt.count
      acc := 0
      refresh := 0
      profileTimer := some 20 }
  (s1.setPacerState .running).faultAtEntry.exitBlockedCheck

/-- A start failure (R61). The change to STOPPED is made known before the notice is sent (log 33). -/
def State.startFailure (s : State) (reason : Reason) (number : Nat) : State :=
  ((s.onPacer fun p => { p with start := none, startTimer := none }).setPacerState .stopped).notify
    (.driveNoStart reason number)

/-- The START that a frame from the ring can complete: STARTING, transmitted, with that number (R61). -/
def State.startAwaits (s : State) (number : Nat) : Bool :=
  s.pacer.state == .starting && s.pacer.start.any fun r => r.number == number && r.transmitted

/-! ## The drive's reports (R62, R63, R76) -/

/-- The drive-stop watch is met (R76), which is a halting check (R147). -/
def State.watchMet (s : State) : State :=
  (s.onPacer fun p => { p with watch := .met, stopTimer := none }).haltingCheck

/-- The drive-fault check of a report (R63). -/
def State.faultCheck (s : State) (r : DriveReport) : State :=
  if r.fault ≠ 0 ∧ s.pacer.state ≠ .stopped ∧ (s.pacer.report.all fun old => old.fault != r.fault) = true then
    s.raise .driveFault
  else s

/-- A frame is taken as the drive's report, in the order of R62. -/
def State.takeReport (s : State) (r : DriveReport) : State :=
  let s1 := (s.faultCheck r).onPacer fun p => { p with report := some r }
  if s1.pacer.watch = .watching ∧ r.running = false then s1.watchMet else s1

/-- A learning report sets the drive address (R62). -/
def State.learnDrive (s : State) (address : Nat) : State :=
  (s.onPacer fun p => { p with drive := address, report := none }).notify (.driveLearned address)

/-- A report from another source than the drive is a learning report (R62). -/
def State.mayLearn (s : State) : Bool :=
  s.pacer.drive == 0 || (!s.pacer.freeze && s.pacer.state == .stopped)

/-- A DRIVE_STATE frame (R62). -/
def State.driveFrame (s : State) (src : Nat) (r : DriveReport) : State :=
  if src = s.pacer.drive ∧ s.pacer.drive ≠ 0 then s.takeReport r
  else if s.mayLearn then (s.learnDrive src).takeReport r
  else s

/-! ## The profile interval (R65 to R70, R73) -/

/-- The latch test, before the step (R73). -/
def State.latchTest (s : State) : State :=
  match s.pacer.state, s.pacer.pointStop, leadCar s.cars with
  | .pointStop, some p, some c =>
    if p.latched = false ∧ s.remaining c ≤ (rampDistance s.pacer.speed (s.pacer.decelValue p.decel) : Int) then
      s.onPacer fun q => { q with pointStop := some { p with latched := true } }
    else s
  | _, _, _ => s

/-- V after the step (R67). -/
def Pacer.stepped (p : Pacer) : Nat :=
  match p.state, p.pointStop with
  | .pointStop, some r =>
    if r.latched then p.speed - p.decelValue r.decel else stepToward p.accel p.dec p.target p.speed
  | _, _ => stepToward p.accel p.dec p.target p.speed

/-- The overshoot test, after the step (R73). -/
def State.overshootTest (s : State) : State :=
  match s.pacer.state, s.pacer.pointStop, leadCar s.cars with
  | .pointStop, some r, some c =>
    if s.remaining c ≤ 0 ∧ 0 < s.pacer.speed then
      (s.onPacer fun p => { p with speed := 0, pointStop := some { r with latched := true } }).notify
        (.overshoot c.tag (s.remaining c))
    else s
  | _, _, _ => s

/-- The integrator (R68). -/
def Pacer.integrate (p : Pacer) : Pacer :=
  { p with
    commanded := p.commanded + BitVec.ofNat 32 ((p.acc + p.speed) / 800)
    acc := (p.acc + p.speed) % 800 }

/-- The setpoint step (R70). -/
def State.setpointStep (s : State) : State :=
  if s.pacer.speed ≠ s.pacer.lastSent ∨ 9 ≤ s.pacer.refresh then s.queueSetpoint s.pacer.speed
  else s.onPacer fun p => { p with refresh := p.refresh + 1 }

/-- The end of STOPPING (R67): a SETPOINT 0 whatever the last V sent, then STOPPED (log 15). -/
def State.stoppingEnd (s : State) : State :=
  if s.pacer.state = .stopping ∧ s.pacer.speed = 0 then
    ((s.queueSetpoint 0).onPacer fun p => { p with profileTimer := none }).setPacerState .stopped
  else s

/-- The deviation check; a cause ends the interval there (R69), otherwise the setpoint is sent (R70). -/
def State.deviationStep (s : State) : State :=
  if (s.pacer.slip : Int) < s.deviation then s.raise .stall
  else if (s.pacer.overrun : Int) < -s.deviation then s.raise .overrun
  else s.setpointStep.stoppingEnd

/-- Target, latch test, step, overshoot test and integrator of an interval, in order (R66 to R68, R73). -/
def State.intervalSpeed (s : State) : State :=
  let s1 := (s.onPacer fun p => { p with target := s.targetSpeed, profileTimer := some 20 }).latchTest
  (s1.onPacer fun p => { p with speed := p.stepped }).overshootTest.onPacer Pacer.integrate

/-- One profile interval, taken as one event (R65). -/
def State.interval (s : State) : State := s.intervalSpeed.deviationStep

/-! ## Restart and reset (R77, R78) -/

/-- The restart of the pacer (R77). -/
def State.pacerRestart (s : State) : State :=
  let s1 := s.onPacer fun p => { p with watch := .idle, stopTimer := none }
  if s.pacer.resume then ((s1.onPacer fun p => { p with resume := false }).issueStart).setPacerState .starting
  else s1.setPacerState .stopped

/-- The pacer's part of TUNNEL RESET (R78). -/
def State.pacerReset (s : State) : State :=
  (s.onPacer fun p =>
    { p with
      resume := false
      speed := 0
      pointStop := none
      start := none
      profileTimer := none
      startTimer := none
      stopTimer := none
      watch := .idle }).setPacerState .stopped

/-- A START still queued is withdrawn from the ORDER queue (R59, R170). -/
def Ring.withdrawOrder (r : Ring) (number : Nat) : Ring :=
  { r with order := r.order.filter fun f =>
      match f with
      | .order _ n .start _ => n != number
      | _ => true }

/-- A STOP in STARTING abandons the start (R59; a START being transmitted is neither withdrawn nor answered, log 14). -/
def State.abandonStart (s : State) : State :=
  match s.pacer.start with
  | none => s
  | some r =>
    let s1 := (s.onPacer fun p => { p with start := none, startTimer := none }).onRing fun q => q.withdrawOrder r.number
    if r.transmitted then s1.queueSetpoint 0 else s1

end Sys2Proof.Machine
end

