-- ==== Sys2Proof/Machine/Advance.lean ====
section
/-! DEFINITION. The belt advance of the four blocks (R4), the roller's failures (R45), the delivery of eye edges (R12), and the
millisecond that passes while no command waits. -/

namespace Sys2Proof.Machine

/-! ## The gate at a belt advance and the failure of a call -/

/-- A roller fault (R45): the notice, the open flag cleared, the call finished. -/
def State.rollerFault (s : State) (reason : Reason) : State :=
  match s.gate.call with
  | none => s
  | some r => ((s.notify (.rollerFault reason r.number)).onGate fun g => { g with isOpen := false }).finishCall

/-- The call that a frame from the ring can end: CALLING, transmitted, with that number (R45; log 28 for a returned CALL). -/
def State.callAwaits (s : State) (number : Nat) (transmitted : Bool) : Bool :=
  s.gate.phase == .calling && s.gate.call.any fun r => r.number == number && (r.transmitted || !transmitted)

/-- A stamp from which the belt has moved 2^31 counts or more becomes absent (R40). -/
def ageStamp (b : Word) (stamp : Option Word) : Option Word :=
  stamp.filter fun x => decide ((b - x).toNat < 2147483648)

/-- The reach of a call in ROLLING (R46). -/
def State.reachTest (s : State) : State :=
  match s.gate.phase, s.gate.call, s.gate.lastCall with
  | .rolling, some r, some stamp =>
    if s.gate.reach < (s.belt.count - stamp).toNat then
      (s.notify (.rollerMiss r.number stamp s.belt.count)).finishCall
    else s
  | _, _, _ => s

/-- The Entry Gate's part of a belt advance (R40, R43, R46). -/
def State.gateAdvance (s : State) : State :=
  (s.onGate fun g =>
    { g with lastCall := ageStamp s.belt.count g.lastCall, prevRear := ageStamp s.belt.count g.prevRear }).reachTest.admissionCheck

/-! ## The order of the four blocks (R4, R43, R71, R97) -/

/-- The blocks that take a belt advance. -/
inductive Block where
  | track
  | sequencer
  | gate
  | pacer
  deriving DecidableEq, Repr

/-- One block's part of a belt advance. -/
def State.blockAdvance (s : State) : Block → State
  | .track => s.trackAdvance
  | .sequencer => s.sequencerAdvance
  | .gate => s.gateAdvance
  | .pacer => s.exitBlockedCheck

/-- The gate and the pacer where an order places them. -/
def blocksInSlot (o : AdvanceOrder) (k : Slot) : List Block :=
  (if o.gateFirst then [(o.gate, Block.gate), (o.pacer, .pacer)] else [(o.pacer, .pacer), (o.gate, .gate)]).filterMap
    fun x => if x.1 = k then some x.2 else none

/-- The four blocks in the order taken: the Car Track before the Station Sequencer (R97), the gate and the pacer where the order
places them. -/
def blockOrder (o : AdvanceOrder) : List Block :=
  blocksInSlot o .beforeTrack ++ [.track] ++ blocksInSlot o .beforeSequencer ++ [.sequencer] ++ blocksInSlot o .afterSequencer

/-- A belt advance in one order. -/
def State.advanceIn (s : State) (o : AdvanceOrder) : State := (blockOrder o).foldl State.blockAdvance s

/-- The order used where every order gives the same state. -/
def plainOrder : AdvanceOrder := { gate := .afterSequencer, pacer := .afterSequencer, gateFirst := true }

/-- Every order of the four blocks. -/
def allOrders : List AdvanceOrder :=
  let slots : List Slot := [.beforeTrack, .beforeSequencer, .afterSequencer]
  slots.flatMap fun g => slots.flatMap fun p => [true, false].map fun first => { gate := g, pacer := p, gateFirst := first }

/-- A belt advance (R4) in the free order of log 3. Where all orders agree the order is not looked at, so that such an advance
can be computed; the result is the free order's in every case. -/
def State.beltAdvance (s : State) : State :=
  let plain := s.advanceIn plainOrder
  (if allOrders.all fun o => decide (s.advanceIn o = plain) then plain
   else s.advanceIn (Config.advanceOrder s.clock.choices)).onClock fun c => { c with choices := s.clock.choices + 1 }

/-! ## Eye edges (R10, R12) -/

/-- The gate's phase after an edge of the loading eye (R41). -/
def GatePhase.afterLoading (p : GatePhase) (on : Bool) : GatePhase :=
  match p, on with
  | .waiting, true => .ready
  | .ready, false => .waiting
  | phase, _ => phase

/-- An edge of the loading eye (R41), followed by an admission check. -/
def State.loadingEdge (s : State) (on : Bool) : State :=
  (s.onGate fun g => { g with phase := g.phase.afterLoading on }).admissionCheck

/-- An edge of the exit-zone eye: the Car Track absorbs it, the pacer acts on it (R12, R32, R71, R74). -/
def State.zoneEdge (s : State) (on : Bool) : State := if on then s.exitBlockedCheck else s.exitZoneClear

/-- An edge delivered by the role of its eye; an edge of an unreliable tracking eye and an off edge of a tracking eye are
discarded (R12, R29). -/
def State.deliverEdge (s : State) (e : Fin 10) (on : Bool) : State :=
  match e.val with
  | 0 => s.loadingEdge on
  | 1 => if on then s.entryOn else s.entryOff
  | 2 => if on then s.exitOn else s.exitOff
  | 3 => s.zoneEdge on
  | k => if s.eyes[e].reliable && on then s.trackingOn k else s

/-- A report of an eye: an edge is formed when it differs from the eye's state (R10). -/
def State.eyeReport (s : State) (e : Fin 10) (level : Nat) : State :=
  let on := s.eyes[e].readsOn level
  if on = s.eyes[e].on then s
  else (s.onEyes fun eyes => eyes.set e { eyes[e] with on := on }).deliverEdge e on

/-! ## The passing of time (log 1) -/

/-- A running timer one millisecond later. -/
def countDown (t : Option Nat) : Option Nat := t.map fun n => n - 1

/-- One millisecond of every timer and of the uptime. -/
def State.millisecond (s : State) : State :=
  { s with
    clock := { s.clock with uptime := s.clock.uptime + 1 }
    belt := { s.belt with silence := countDown s.belt.silence }
    gate := { s.gate with ackTimer := countDown s.gate.ackTimer }
    pacer := { s.pacer with
      startTimer := countDown s.pacer.startTimer
      profileTimer := countDown s.pacer.profileTimer
      stopTimer := countDown s.pacer.stopTimer }
    seq := { s.seq with stations := s.seq.stations.map fun st => { st with timer := countDown st.timer } }
    book := { s.book with quotes := s.book.quotes.map fun q => q.map fun x => { x with hold := x.hold - 1 } }
    ring := { s.ring with checkTimer := countDown s.ring.checkTimer, timeout := countDown s.ring.timeout } }

/-- The expiry of a timer that stands at 0. -/
def expiryOf (timer : Option Nat) (c : Instr) : List Instr := if timer = some 0 then [c] else []

/-- The expiry command of a station's order timer, by its wait state (R103 to R105). -/
def stationExpiry (i : StationId) : Wait → Instr
  | .ack => .orderAckTimeout i.val
  | .ret => .returnWindowExpiry i.val
  | .position => .positionTimeout i.val

/-- The timers that have run out and whose expiry has not been taken. -/
def State.dueExpiries (s : State) : List Instr :=
  expiryOf s.belt.silence .encoderSilenceExpiry ++
  expiryOf s.gate.ackTimer .rollerAckTimeout ++
  expiryOf s.pacer.startTimer .startAckTimeout ++
  expiryOf s.pacer.profileTimer .profileInterval ++
  expiryOf s.pacer.stopTimer .driveStopTimeout ++
  (stationIds.flatMap fun i =>
    match s.seq.stations[i].current with
    | none => []
    | some o => expiryOf s.seq.stations[i].timer (stationExpiry i o.wait)) ++
  ((List.finRange 15).flatMap fun t => expiryOf (s.book.quotes[t].map fun q => q.hold) (.quoteHoldExpiry (t.val + 1))) ++
  expiryOf s.ring.checkTimer .ringCheckExpiry ++
  expiryOf s.ring.timeout .ringTimeout

/-- The first of the lowest ranks. -/
def lowestRank {α : Type} (rank : Nat → Nat) : List (α × Nat) → Option α
  | [] => none
  | x :: rest => some (rest.foldl (fun best y => if rank y.2 < rank best.2 then y else best) x).1

/-- While no command waits, a timer that has run out puts its expiry in the queue; of several the free rank of log 4 decides
which. When none has run out, a millisecond passes. -/
def State.tick (s : State) : State :=
  if s.pins.rst = .asserted then s
  else
    match lowestRank (Config.expiryRank s.clock.choices) s.dueExpiries.zipIdx with
    | none => s.millisecond
    | some c => (s.onPending fun q => q ++ [c]).onClock fun k => { k with choices := k.choices + 1 }

end Sys2Proof.Machine
end

