-- ==== Sys2Proof/Machine/Terminals.lean ====
section
/-! DEFINITION. The meanings of the requests of the pay terminals (07) and of the office MAINT (R173). -/

namespace Sys2Proof.Machine

/-- A request that finds the reply queue full is discarded without being taken, and the loss is noted (R172). -/
def State.loseReply (s : State) : State := s.onOffice fun o => { o with replyLost := true }

/-- A terminal's request: to the office address, from a pay terminal, with the form its kind requires (R172, R163). The form is
tested before the reply queue (log 23). -/
def terminalRequest {α : Type} (s : State) (h : Head) (form : Option α) (effect : State → Fin 15 → α → State) :
    Host.Outcome State Fault Refusal :=
  live s fun s =>
    match terminalSlot h.src, form with
    | some t, some x =>
      if h.dst ≠ s.office.address then s
      else if 8 ≤ s.office.replies.length then s.loseReply
      else effect s t x
    | _, _ => s

/-! ## Quotes (R120 to R124) -/

/-- What a selection resolves to (R120). -/
def State.resolve (s : State) : QuoteChoice → Option Selection
  | .plan n => some { plan := n, discount := 0, granted := 0 }
  | .code c => resolveCode s.book.codes c

/-- A plan that can be quoted: 1..15 and OFFERED (R121). -/
def State.offeredPlan (s : State) (n : Nat) : Option (Fin 16) :=
  if h : n < 16 then
    let k : Fin 16 := ⟨n, h⟩
    if 1 ≤ n ∧ s.book.plans[k].state = .offered then some k else none
  else none

/-- Every essential station of a plan is available (R121, R92). -/
def State.essentialsAvailable (s : State) (plan : Fin 16) : Bool :=
  stationIds.all fun i => !hasStation s.book.plans[plan].essential i || s.available i

/-- What a quote request that passes its checks is priced from (R121, R122). -/
structure Offer where
  plan : Fin 16
  discount : Nat
  requested : OptionSet
  granted : OptionSet
  deriving DecidableEq, Repr

/-- The checks of a quote request, in order (R121). -/
def State.checkQuote (s : State) (choice : QuoteChoice) (requested : OptionSet) : Except Result Offer :=
  match s.resolve choice with
  | none => .error .unknownCode
  | some sel =>
    match s.offeredPlan sel.plan with
    | none => .error .noPlan
    | some k =>
      let allow := s.book.plans[k].allow
      if requested &&& ~~~allow ≠ 0 then .error .badOption
      else if s.essentialsAvailable k then
        .ok { plan := k, discount := sel.discount, requested := requested, granted := sel.granted &&& allow }
      else .error .planUnavailable

/-- The number the next quote takes (R123). -/
def State.freeSaleNumber (s : State) : Nat := firstFree s.saleNumberHeld 65535 65535 s.book.nextNumber

/-- The quote an offer makes (R122, R124). -/
def State.quoteOf (s : State) (number : Nat) (x : Offer) : Quote :=
  { number := number
    plan := x.plan
    options := x.requested ||| x.granted
    amount := discounted (s.book.gross x.plan x.requested x.granted) x.discount
    activity := s.book.activity x.plan (x.requested ||| x.granted)
    hold := 1000 * s.timing.quoteHold }

/-- The entry of a terminal is emptied. -/
def State.clearQuote (s : State) (t : Fin 15) : State := s.onBook fun b => { b with quotes := b.quotes.set t none }

/-- A quote is made: the old one is removed, a number is taken, the entry is filled (R124). -/
def State.makeQuote (s : State) (t : Fin 15) (x : Offer) : State :=
  let s1 := s.clearQuote t
  let n := s1.freeSaleNumber
  s1.onBook fun b =>
    { b with quotes := b.quotes.set t (some (s.quoteOf n x)), nextNumber := nextInSequence 65535 n }

/-- The reply of a taken quote (R121). -/
def quoteReply (q : Quote) : ReplyBody := .quote .ok q.number q.plan.val q.options q.amount

/-- QUOTE_REQ (R121). -/
def execQuoteReq (h : Head) (payload : List Byte) (s : State) : Host.Outcome State Fault Refusal :=
  terminalRequest s h (quotePayload payload) fun s t r =>
    match s.checkQuote r.1 r.2 with
    | .error result => s.reply h.src (.quote result 0 0 0 0)
    | .ok x => (s.makeQuote t x).reply h.src (quoteReply (s.quoteOf (s.clearQuote t).freeSaleNumber x))

/-! ## Closes and drops (R125, R126) -/

/-- The terminal's open quote with a number. -/
def State.openQuote (s : State) (t : Fin 15) (number : Nat) : Option Quote :=
  s.book.quotes[t].filter fun q => q.number == number

/-- The sale a closed quote becomes (R125). -/
def Quote.toSale (q : Quote) (terminal : Nat) (tender : Tender) : QueuedSale :=
  { sale := { number := q.number, terminal := terminal, plan := q.plan, options := q.options, amount := q.amount,
              tender := tender }
    activity := q.activity }

/-- The quote leaves the quote table and its sale joins the queue at the tail, which is an admission check (R125, R127). -/
def State.closeQuote (s : State) (t : Fin 15) (q : Quote) (tender : Tender) : State :=
  ((s.clearQuote t).onBook fun b => { b with queue := b.queue ++ [q.toSale (t.val + 1) tender] }).admissionCheck

/-- CLOSE_REQ (R125). -/
def execCloseReq (h : Head) (payload : List Byte) (s : State) : Host.Outcome State Fault Refusal :=
  terminalRequest s h (closePayload payload) fun s t r =>
    match s.openQuote t r.1 with
    | none => s.reply h.src (.close .noQuote r.1 0)
    | some q =>
      if 24 ≤ s.book.queue.length + s.reserve then s.reply h.src (.close .queueFull r.1 0)
      else (s.closeQuote t q r.2).reply h.src (.close .ok r.1 (s.book.queue.length + 1))

/-- DROP_REQ (R126). -/
def execDropReq (h : Head) (payload : List Byte) (s : State) : Host.Outcome State Fault Refusal :=
  terminalRequest s h (dropPayload payload) fun s t number =>
    match s.openQuote t number with
    | none => s.reply h.src (.drop .noQuote number)
    | some _ => (s.clearQuote t).reply h.src (.drop .dropped number)

/-! ## Maintenance frames (R173) -/

/-- A management source (R172). -/
def fromSite (h : Head) : Bool := decide (32 ≤ h.src) && decide (h.src ≤ 63)

/-- A window is a hit for a ring destination (R173). -/
def PassWindow.hit (w : PassWindow) (dst : Nat) : Bool := w.enabled && dst &&& w.mask == w.base &&& w.mask

/-- The mode of a window holds (R173). -/
def State.modeHolds (s : State) : PassMode → Bool
  | .always => true
  | .idleOnly => s.cars.isEmpty && s.pacer.state == .stopped
  | .haltedOnly => s.halt.state == .halted

/-- The window that decides a ring destination: the first hit (R173). -/
def Office.decides (o : Office) (dst : Nat) : Option PassWindow :=
  ((List.finRange 4).find? fun k => o.windows[k].hit dst).map fun k => o.windows[k]

/-- The refusal of a maintenance frame, or none when it is forwarded (R173). Where the window's mode does not hold and PASS is
full as well, R173 gives no order of the two refusals; the mode is tested first (DESIGN CHOICE, log 41). -/
def State.passRefusal (s : State) (dst : Nat) : Option Result :=
  if dst < 1 ∨ 126 < dst then some .notPassable
  else
    match s.office.decides dst with
    | none => some .notPassable
    | some w =>
      if s.modeHolds w.mode = false then some .wrongState
      else if 8 ≤ s.ring.pass.length then some .busy
      else none

/-- The ring destination and the data of an office MAINT (R173). -/
def maintPayload : List Byte → Option (Nat × List Byte)
  | [] => none
  | dst :: data => some (dst.toNat, data)

/-- MAINT (R172, R173). -/
def execMaint (h : Head) (payload : List Byte) (s : State) : Host.Outcome State Fault Refusal :=
  live s fun s =>
    match fromSite h, maintPayload payload with
    | true, some (dst, data) =>
      if h.dst ≠ s.office.address then s
      else if 8 ≤ s.office.replies.length then s.loseReply
      else
        match s.passRefusal dst with
        | some result => s.reply h.src (.maint result dst [])
        | none => s.onRing fun r => r.push .pass (.maint dst h.src data)
    | _, _ => s

end Sys2Proof.Machine
end

