-- ==== Sys2Proof/Machine/Request.lean ====
section
/-! DEFINITION. What all management requests share (R172, R177), and the table reads (R179), STATUS READ (R183) and the tally
requests (R139, R140). -/

namespace Sys2Proof.Machine

/-- What a taken request leads to: the state after it, its result code and its data. -/
structure Answer where
  state : State
  result : Result
  data : List Byte := []
  deriving DecidableEq, Repr

/-- A refused request changes nothing and carries no data (R177). -/
def State.refuse (s : State) (r : Result) : Answer := { state := s, result := r }

/-- A taken write: OK_CLAMPED if clamping or raising changed a value, and the entry as stored (R180). -/
def State.stored (s : State) (clamped : Bool) (data : List Byte) : Answer :=
  { state := s, result := if clamped then .okClamped else .ok, data := data }

/-- A taken request with no data. -/
def State.done (s : State) : Answer := { state := s, result := .ok }

/-- A management request: to the office address, from a management source; without a place in the reply queue it is lost
(R172); with operands its code does not allow it is discarded (R177; the order of these two, log 23); otherwise it is taken and
replied to. The reply's source is the office address in force after the request (R182). -/
def request {α : Type} (s : State) (h : Head) (code : Nat) (operands : Option α) (effect : State → α → Answer) :
    Host.Outcome State Fault Refusal :=
  live s fun s =>
    if h.dst ≠ s.office.address ∨ fromSite h = false then s
    else if 8 ≤ s.office.replies.length then s.loseReply
    else
      match operands with
      | none => s
      | some x =>
        let a := effect s x
        a.state.reply h.src (.mgmt code a.result a.data)

/-! ## TABLE READ (R179) -/

/-- The index range and the last part of each table (R179). -/
def tableRange (table : Nat) : Option (Nat × Nat × Nat) :=
  match table with
  | 1 => some (0, 31, 0)
  | 2 => some (0, 0, 0)
  | 3 => some (0, 15, 0)
  | 4 => some (0, 7, 0)
  | 5 => some (0, 7, 0)
  | 6 => some (0, 9, 0)
  | 7 => some (0, 3, 0)
  | 8 => some (0, 0, 1)
  | 9 => some (0, 0, 0)
  | 10 => some (0, 0, 0)
  | 11 => some (0, 0, 0)
  | 12 => some (0, 0, 0)
  | 13 => some (0, 0, 0)
  | 20 => some (0, 15, 1)
  | 21 => some (0, 23, 0)
  | 22 => some (1, 15, 0)
  | 23 => some (0, 7, 4)
  | 24 => some (0, 31, 0)
  | _ => none

/-- The bytes of an entry of a fixed table. -/
def entryBytes {α : Type} {n : Nat} (v : Vector α n) (index : Nat) (bytes : α → List Byte) : List Byte :=
  ((v[index]?).map bytes).getD []

/-- The bytes of a record that is held, and none of one that is not (R179). -/
def recordBytes {α : Type} (r : Option α) (bytes : α → List Byte) : List Byte := (r.map bytes).getD []

/-- The number of open quotes (R183). -/
def SaleBook.openQuotes (b : SaleBook) : Nat := (b.quotes.toList.filter Option.isSome).length

/-- Queue length, reserve and next-sale-number value, after the record (R131, R179). -/
def State.saleHeader (s : State) : List Byte :=
  one s.book.queue.length ++ one s.reserve ++ two s.book.nextNumber

/-- Halt state, ESTOP level, HALT line and next-incident value, after the record (R160, R179). -/
def State.haltHeader (s : State) : List Byte :=
  one s.halt.state.code ++ one (levelCode s.halt.estop) ++ one (levelCode s.halt.line) ++ one s.halt.nextNumber

/-- The CARS table (R16, R179). -/
def State.readCars (s : State) (index part : Nat) : List Byte :=
  recordBytes s.cars[index]? (fun c => if part = 0 then c.trackBytes s.belt.count else c.saleBytes) ++
  one s.cars.length ++ one s.nextTag

/-- The INCIDENTS table (R160, R179). -/
def State.readIncidents (s : State) (index part : Nat) : List Byte :=
  (if part = 0 then recordBytes s.halt.log[index]? Incident.bytes
   else recordBytes (s.halt.log[index]?.bind fun r => r.secondary[part - 1]?) Cause.bytes) ++
  one s.halt.log.length ++ s.haltHeader

/-- The data of a table, index and part in range (R179; the layout of what is read, log 19). -/
def State.tableData (s : State) (table index part : Nat) : List Byte :=
  match table with
  | 1 => entryBytes s.map.table index StationEntry.bytes
  | 2 => s.map.aliases.toList.map byteOf ++ four s.availableSet
  | 3 => entryBytes s.book.plans index Plan.bytes
  | 4 => entryBytes s.book.options index OptionEntry.bytes
  | 5 => entryBytes s.book.codes index CodeWindow.bytes
  | 6 => entryBytes s.eyes index Eye.bytes
  | 7 => entryBytes s.office.windows index PassWindow.bytes
  | 8 => if part = 0 then s.pacer.bytes else s.pacer.runtimeBytes
  | 9 => s.gate.bytes ++ s.gate.runtimeBytes
  | 10 => s.track.bytes
  | 11 => s.timing.bytes
  | 12 => s.ring.arbiterBytes ++ s.ring.runtimeBytes
  | 13 => s.nodeBytes ++ flag s.pacer.freeze ++ one s.pins.straps.toNat
  | 20 => s.readCars index part
  | 21 => recordBytes s.book.queue[index]? (QueuedSale.bytes (index + 1)) ++ one s.book.queue.length ++ s.saleHeader
  | 22 => recordBytes (s.book.quotes[index - 1]?.bind id) Quote.bytes ++ one s.book.openQuotes ++ s.saleHeader
  | 23 => s.readIncidents index part
  | _ => entryBytes s.seq.stations index Station.bytes ++ one 32 ++ one s.seq.nextNumber

/-- A table read: the checks of R179, then the data. -/
def State.readTable (s : State) (table index part : Nat) : Answer :=
  match tableRange table with
  | none => s.refuse .badTable
  | some (lo, hi, parts) =>
    if index < lo ∨ hi < index ∨ parts < part then s.refuse .badIndex
    else s.stored false (s.tableData table index part)

/-- TABLE_READ (R179). -/
def execTableRead (h : Head) (operands : List Byte) (s : State) : Host.Outcome State Fault Refusal :=
  request s h 0x01 (readOperands operands) fun s r => s.readTable r.1 r.2.1 r.2.2

/-! ## Status and tallies -/

/-- The data of STATUS READ, in the order of R183. -/
def State.statusData (s : State) : List Byte :=
  flag s.office.replyLost ++ flag s.office.noticeLost ++ two s.ring.badFrames ++ two s.office.badFrames ++
  one s.halt.state.code ++ one s.pacer.state.code ++ one s.ring.state.code ++ one s.gate.phase.code ++
  one s.cars.length ++ one s.book.queue.length ++ one s.book.openQuotes ++ one s.office.notices.length ++
  one (levelCode s.halt.estop) ++ four s.clock.uptime ++ four s.belt.count

/-- Both flags and both counts after a STATUS READ (R183). -/
def State.clearStatus (s : State) : State :=
  (s.onRing fun r => { r with badFrames := 0 }).onOffice fun o =>
    { o with badFrames := 0, replyLost := false, noticeLost := false }

/-- STATUS_READ (R183). -/
def execStatusRead (h : Head) (operands : List Byte) (s : State) : Host.Outcome State Fault Refusal :=
  request s h 0x32 (noOperands operands) fun s _ => s.clearStatus.stored false s.statusData

/-- A tally read (R139). -/
def State.readTally (s : State) (plan : Nat) : Answer :=
  match s.tallies[plan]? with
  | none => s.refuse .badIndex
  | some r => s.stored false r.bytes

/-- TALLY_READ (R139). -/
def execTallyRead (h : Head) (operands : List Byte) (s : State) : Host.Outcome State Fault Refusal :=
  request s h 0x30 (byteOperand operands) State.readTally

/-- Every total of every row 0 (R140). -/
def State.resetTallies (s : State) : State := s.onTallies fun _ => Vector.replicate 16 {}

/-- TALLY_RESET (R140). -/
def execTallyReset (h : Head) (operands : List Byte) (s : State) : Host.Outcome State Fault Refusal :=
  request s h 0x31 (noOperands operands) fun s _ => s.resetTallies.done

end Sys2Proof.Machine
end

