-- ==== Sys2Proof/Machine/Control.lean ====
section
/-! DEFINITION. The management requests that control the part: the gate, the belt, the halt state, stations, eyes, sales, cars
and the tunnel. -/

namespace Sys2Proof.Machine

/-! ## The gate (R48, R49) -/

/-- The gate's phase after GATE OPEN, by the loading eye (R48). -/
def GatePhase.opened (p : GatePhase) (loading : Bool) : GatePhase :=
  match p with
  | .closed => if loading then .ready else .waiting
  | phase => phase

/-- The gate's phase after GATE CLOSE (R49). -/
def GatePhase.shut (p : GatePhase) : GatePhase :=
  match p with
  | .waiting | .ready => .closed
  | phase => phase

/-- GATE OPEN (R48). -/
def State.openGate (s : State) : Answer :=
  if s.gate.roller = 0 then s.refuse .notConfigured
  else (s.onGate fun g => { g with isOpen := true, phase := g.phase.opened s.loadingOn }).admissionCheck.done

/-- GATE_OPEN (R48). -/
def execGateOpen (h : Head) (operands : List Byte) (s : State) : Host.Outcome State Fault Refusal :=
  request s h 0x10 (noOperands operands) fun s _ => s.openGate

/-- GATE CLOSE (R49): a call in flight is not abandoned. -/
def State.closeGate (s : State) : State :=
  s.onGate fun g => { g with isOpen := false, phase := g.phase.shut }

/-- GATE_CLOSE (R49). -/
def execGateClose (h : Head) (operands : List Byte) (s : State) : Host.Outcome State Fault Refusal :=
  request s h 0x11 (noOperands operands) fun s _ => s.closeGate.done

/-! ## The belt (R57 to R59) -/

/-- What RUN in STOPPED needs of the configuration (R57). -/
def State.configured (s : State) : Bool :=
  s.track.length != 0 && s.eyes[1].enabled && s.eyes[2].enabled && s.belt.encoder != 0 && s.pacer.drive != 0

/-- The reply to a taken RUN (R57, R58): the stored speed when it was clamped (log 17). -/
def State.runAnswer (s : State) (speed : Nat) : Answer :=
  if clamp 160 4800 speed = speed then s.done else s.stored true (two (clamp 160 4800 speed))

/-- The run speed is stored (R57, R58). -/
def State.setRunSpeed (s : State) (speed : Nat) : State := s.onPacer fun p => { p with runSpeed := clamp 160 4800 speed }

/-- RUN (R57, R58). -/
def State.runBelt (s : State) (speed : Nat) : Answer :=
  match s.pacer.state with
  | .stopped =>
    if s.configured = false then s.refuse .notConfigured
    else if s.ring.state = .down then s.refuse .ringDown
    else (((s.setRunSpeed speed).issueStart).setPacerState .starting).runAnswer speed
  | .starting | .running | .pointStop => (s.setRunSpeed speed).runAnswer speed
  | .stopping => (((s.setRunSpeed speed).setPacerState .running).exitBlockedCheck).runAnswer speed
  | .halted => s.refuse .wrongState

/-- RUN (R57, R58). -/
def execRun (h : Head) (operands : List Byte) (s : State) : Host.Outcome State Fault Refusal :=
  request s h 0x12 (wordOperand operands) State.runBelt

/-- STOP, by the pacer state (R59). -/
def State.stopBelt (s : State) : State :=
  match s.pacer.state with
  | .running | .pointStop => (s.onPacer fun p => { p with pointStop := none }).setPacerState .stopping
  | .starting => s.abandonStart.setPacerState .stopped
  | .halted => s.onPacer fun p => { p with resume := false }
  | .stopped | .stopping => s

/-- STOP (R59). -/
def execStop (h : Head) (operands : List Byte) (s : State) : Host.Outcome State Fault Refusal :=
  request s h 0x13 (noOperands operands) fun s _ => s.stopBelt.done

/-! ## Halt, acknowledge, resume (R154 to R156) -/

/-- HALT raises MANUAL (R154). -/
def execHalt (h : Head) (operands : List Byte) (s : State) : Host.Outcome State Fault Refusal :=
  request s h 0x14 (noOperands operands) fun s _ => (s.raise .manual).done

/-- ACK (R154). -/
def State.acknowledge (s : State) : Answer :=
  match s.openIncident with
  | none => s.refuse .nothingToAck
  | some r =>
    if r.state = .unacked then (s.changeIncident fun r => { r with state := .acked }).done else s.refuse .nothingToAck

/-- ACK (R154). -/
def execAck (h : Head) (operands : List Byte) (s : State) : Host.Outcome State Fault Refusal :=
  request s h 0x15 (noOperands operands) fun s _ => s.acknowledge

/-- The first check of R155 that fails. -/
def State.resumeRefusal (s : State) : Option Result :=
  if s.halt.state ≠ .halted then some .wrongState
  else if (s.openIncident.any fun r => r.state == .acked) = false then some .notAcked
  else if s.halt.estop = .asserted then some .estopActive
  else if s.ring.state = .down then some .ringDown
  else if s.armUnsafe then some .armUnsafe
  else none

/-- A taken RESUME, in the order of R156. -/
def State.restart (s : State) : State :=
  (((s.onHalt fun b => { b with line := .released }).onRing Ring.requestRelease).setHaltState .restarting).pacerRestart

/-- RESUME (R155, R156). -/
def execResume (h : Head) (operands : List Byte) (s : State) : Host.Outcome State Fault Refusal :=
  request s h 0x16 (noOperands operands) fun s _ =>
    match s.resumeRefusal with
    | some r => s.refuse r
    | none => s.restart.done

/-! ## Stations, eyes and sales (R113, R14, R129) -/

/-- STATION CLEAR (R113). -/
def State.clearStation (s : State) (index : Nat) : Answer :=
  if h : index < 32 then
    let i : StationId := ⟨index, h⟩
    if s.seq.stations[i].phase ≠ .fault then s.refuse .wrongState
    else if s.seq.stations[i].current.isSome then s.refuse .busy
    else (s.setStationPhase i .idle).done
  else s.refuse .badIndex

/-- STATION_CLEAR (R113). -/
def execStationClear (h : Head) (operands : List Byte) (s : State) : Host.Outcome State Fault Refusal :=
  request s h 0x20 (byteOperand operands) State.clearStation

/-- EYE RESTORE (R14). -/
def State.restoreEye (s : State) (index : Nat) : Answer :=
  if h : index < 10 then
    let e : Fin 10 := ⟨index, h⟩
    if index < 4 then s.refuse .badIndex
    else if s.eyes[e].enabled = false then s.refuse .wrongState
    else (s.onEyes fun eyes => eyes.set e { eyes[e] with reliable := true }).done
  else s.refuse .badIndex

/-- EYE_RESTORE (R14). -/
def execEyeRestore (h : Head) (operands : List Byte) (s : State) : Host.Outcome State Fault Refusal :=
  request s h 0x21 (byteOperand operands) State.restoreEye

/-- SALE VOID (R129, R138); the change of the queue is an admission check (R127). -/
def State.voidSale (s : State) (number : Nat) : Answer :=
  match s.book.queue.find? fun q => q.sale.number == number with
  | none => s.refuse .notFound
  | some q =>
    (((s.onBook fun b => { b with queue := b.queue.filter fun x => x.sale.number != number }).onTally q.sale.plan fun r =>
      r.addVoid q.sale.amount).admissionCheck).done

/-- SALE_VOID (R129). -/
def execSaleVoid (h : Head) (operands : List Byte) (s : State) : Host.Outcome State Fault Refusal :=
  request s h 0x22 (wordOperand operands) State.voidSale

/-! ## Cars and the tunnel (R36, R158, R159) -/

/-- The states in which CAR CLEAR is taken (R36). -/
def State.mayClearCar (s : State) : Bool :=
  s.pacer.state == .stopped || (s.pacer.state == .pointStop && s.pacer.speed == 0) || s.halt.state == .halted

/-- CAR CLEAR (R36). In HALTED no station is engaged, so no order is sent (R108). -/
def State.clearCar (s : State) (tag : Nat) : Answer :=
  if s.mayClearCar = false then s.refuse .wrongState
  else if (carByTag s.cars tag).isNone then s.refuse .notFound
  else (s.closeCar tag .cleared).done

/-- CAR_CLEAR (R36). -/
def execCarClear (h : Head) (operands : List Byte) (s : State) : Host.Outcome State Fault Refusal :=
  request s h 0x23 (byteOperand operands) State.clearCar

/-- The refusal of a TUNNEL RESET, by the table of R158. -/
def State.resetRefusal (s : State) : Option Result :=
  match s.halt.state with
  | .halted => if s.halt.estop = .asserted then some .estopActive else none
  | .clear => if s.pacer.state = .stopped then none else some .wrongState
  | .halting | .restarting => some .wrongState

/-- The gate's part of TUNNEL RESET (R51). -/
def Gate.afterReset (g : Gate) : Gate := { g with isOpen := false, phase := .closed, call := none, ackTimer := none }

/-- The Halt Controller's own part of TUNNEL RESET (R159). -/
def State.haltReset (s : State) : State :=
  let s1 := if s.halt.state = .halted then s.closeIncident .reset else s
  ((s1.onHalt fun b => { b with line := .released }).onRing Ring.requestRelease).setHaltState .clear

/-- A taken TUNNEL RESET: the closes, the four blocks' parts, then the Halt Controller's (R159). -/
def State.resetTunnel (s : State) : State :=
  let s1 := s.tags.foldl (fun s tag => s.closeCar tag .tunnelReset) s
  (((s1.sequencerReset.pacerReset).onGate Gate.afterReset).onRing fun r => { r with order := [] }).haltReset

/-- TUNNEL_RESET (R158, R159). -/
def execTunnelReset (h : Head) (operands : List Byte) (s : State) : Host.Outcome State Fault Refusal :=
  request s h 0x24 (noOperands operands) fun s _ =>
    match s.resetRefusal with
    | some r => s.refuse r
    | none => s.resetTunnel.done

end Sys2Proof.Machine
end

