-- ==== Sys2Proof/Machine/Expiries.lean ====
section
/-! DEFINITION. The meanings of the timer expiries. Each acts while its timer runs and has no effect otherwise (log 10). -/

namespace Sys2Proof.Machine

/-- ENCODER_SILENCE_EXPIRY (R5): the timer stands expired. -/
def execEncoderSilenceExpiry (s : State) : Host.Outcome State Fault Refusal :=
  live s fun s =>
    match s.belt.silence with
    | none => s
    | some _ =>
      let s1 := s.onBelt fun b => { b with silence := none }
      if s.pacer.state = .stopped then s1 else s1.raise .encoder

/-- ROLLER_ACK_TIMEOUT (R45). -/
def execRollerAckTimeout (s : State) : Host.Outcome State Fault Refusal :=
  live s fun s =>
    match s.gate.ackTimer with
    | none => s
    | some _ => (s.onGate fun g => { g with ackTimer := none }).rollerFault .timeout

/-- START_ACK_TIMEOUT (R61). -/
def execStartAckTimeout (s : State) : Host.Outcome State Fault Refusal :=
  live s fun s =>
    match s.pacer.startTimer, s.pacer.start with
    | some _, some r => s.startFailure .timeout r.number
    | _, _ => s.onPacer fun p => { p with startTimer := none }

/-- PROFILE_INTERVAL (R65 to R70, R73). -/
def execProfileInterval (s : State) : Host.Outcome State Fault Refusal :=
  live s fun s => if s.pacer.profileTimer.isSome then s.interval else s

/-- DRIVE_STOP_TIMEOUT: the watch is MET and DRIVE_NO_STOP is handed over, then the halting check is made (R76, R147). -/
def execDriveStopTimeout (s : State) : Host.Outcome State Fault Refusal :=
  live s fun s =>
    match s.pacer.stopTimer with
    | none => s
    | some _ => ((s.onPacer fun p => { p with watch := .met, stopTimer := none }).raise .driveNoStop).haltingCheck

/-- The station whose order timer runs in a wait state. -/
def State.stationWaiting (s : State) (station : Nat) (w : Wait) : Option StationId :=
  if h : station < 32 then
    let i : StationId := ⟨station, h⟩
    if s.seq.stations[i].timer.isSome ∧ (s.seq.stations[i].current.map fun o => o.wait) = some w then some i else none
  else none

/-- ORDER_ACK_TIMEOUT: the order fails with reason TIMEOUT (R105, R106). -/
def execOrderAckTimeout (station : Nat) (s : State) : Host.Outcome State Fault Refusal :=
  live s fun s =>
    match s.stationWaiting station .ack with
    | none => s
    | some i => s.failOrder i .timeout

/-- RETURN_WINDOW_EXPIRY: the POSTED order is complete (R103, R104). -/
def execReturnWindowExpiry (station : Nat) (s : State) : Host.Outcome State Fault Refusal :=
  live s fun s =>
    match s.stationWaiting station .ret with
    | none => s
    | some i => s.completeOrder i

/-- POSITION_TIMEOUT: the order, an implicit OUT among them, fails with reason POSITION (R105, R106, R111). -/
def execPositionTimeout (station : Nat) (s : State) : Host.Outcome State Fault Refusal :=
  live s fun s =>
    match s.stationWaiting station .position with
    | none => s
    | some i => s.failOrder i .position

/-- QUOTE_HOLD_EXPIRY: the terminal's quote is removed (R124). -/
def execQuoteHoldExpiry (terminal : Nat) (s : State) : Host.Outcome State Fault Refusal :=
  live s fun s =>
    match terminalSlot terminal with
    | none => s
    | some t => s.onBook fun b => { b with quotes := b.quotes.set t none }

/-- RING_CHECK_EXPIRY: a periodic broadcast unless one is outstanding (R167). -/
def execRingCheckExpiry (s : State) : Host.Outcome State Fault Refusal :=
  live s fun s =>
    match s.ring.checkTimer, s.ring.outstanding with
    | none, _ => s
    | some _, some _ => s.onRing fun r => { r with checkTimer := none }
    | some _, none => s.onRing fun r => ({ r with checkTimer := none } : Ring).periodic s.halt.state

/-- RING_TIMEOUT: the outstanding broadcast is cleared and the ring is DOWN; the change raises RING_LOSS (R168). -/
def execRingTimeout (s : State) : Host.Outcome State Fault Refusal :=
  live s fun s =>
    match s.ring.timeout with
    | none => s
    | some _ =>
      let s1 := s.onRing fun r => ({ r with state := .down } : Ring).clearOutstanding s.halt.state
      if s.ring.state = .up then s1.raise .ringLoss else s1

end Sys2Proof.Machine
end

