-- ==== Sys2Proof/Machine/Pins.lean ====
section
/-! DEFINITION. The meanings of the six pin commands (09, 10, 11). -/

namespace Sys2Proof.Machine

/-- RST is asserted: every block takes its power-on state (00_scope.md, Signal description). The waiting commands, the level of
the OHOLD pin and the count of free choices are not the blocks' state. -/
def State.held (s : State) : State :=
  { State.powerOn with
    pending := s.pending
    pins := { rst := .asserted, straps := 0, ohold := s.pins.ohold }
    clock := { uptime := 0, choices := s.clock.choices } }

/-- The blocks at the release of RST, before an ESTOP cause or the first broadcast: the straps are sampled, the silence timer
is started and the HALT line is released (R5, R152, R153, R182). -/
def State.released (s : State) (straps : BitVec 3) (estop : Level) : State :=
  { s.held with
    pins := { rst := .released, straps := straps, ohold := s.pins.ohold }
    belt := { silence := some 100 }
    halt := { estop := estop, line := .released }
    office := { address := 96 + straps.toNat } }

/-- The first broadcast after the release: the ALL_STOP of an ESTOP incident, or a RING_CHECK (R152, R176). -/
def State.firstBroadcast (s : State) (estop : Level) : State :=
  match estop with
  | .asserted => s.raise .estop
  | .released => s.onRing fun r => r.periodic s.halt.state

/-- RST_ASSERT. -/
def execRstAssert (s : State) : Host.Outcome State Fault Refusal := .next s.held

/-- RST_RELEASE (R152, R176, R182). It acts whether or not RST was asserted before it (log 12). -/
def execRstRelease (straps : BitVec 3) (estop : Level) (s : State) : Host.Outcome State Fault Refusal :=
  .next ((s.released straps estop).firstBroadcast estop).officeKick

/-- ESTOP_ASSERT: a change to ASSERTED raises ESTOP (R152). -/
def execEstopAssert (s : State) : Host.Outcome State Fault Refusal :=
  live s fun s =>
    match s.halt.estop with
    | .asserted => s
    | .released => (s.onHalt fun b => { b with estop := .asserted }).raise .estop

/-- ESTOP_RELEASE: a change to RELEASED raises nothing (R152). -/
def execEstopRelease (s : State) : Host.Outcome State Fault Refusal :=
  live s fun s => s.onHalt fun b => { b with estop := .released }

/-- A new level of the OHOLD pin (R175). A pin keeps its level while RST is asserted. -/
def State.setOhold (s : State) (level : Level) : State := (s.onPins fun p => { p with ohold := level }).officeKick

/-- OHOLD_ASSERT: no frame is begun from now on; a frame already begun is completed (R175). -/
def execOholdAssert (s : State) : Host.Outcome State Fault Refusal := .next (s.setOhold .asserted)

/-- OHOLD_RELEASE: sending resumes with the heads of the queues (R175). -/
def execOholdRelease (s : State) : Host.Outcome State Fault Refusal := .next (s.setOhold .released)

end Sys2Proof.Machine
end

