-- ==== Sys2Proof/Machine/RingIn.lean ====
section
/-! DEFINITION. The meanings of the frames that arrive from the ring (10.2) and of a bad frame on either link (R163). -/

namespace Sys2Proof.Machine

/-- A node's frame (R164). -/
def fromNode (h : Head) : Bool := h.dst == 0 && decide (1 ≤ h.src) && decide (h.src ≤ 126)

/-- A returned frame (R164). -/
def isReturned (h : Head) : Bool := decide (1 ≤ h.dst) && decide (h.dst ≤ 126) && h.src == 0

/-- A returning broadcast (R164). -/
def isBroadcastReturn (h : Head) : Bool := h.dst == 127 && h.src == 0

/-- A frame of a class whose payload has the form its kind requires; any other is discarded (R163, R164). -/
def ringFrame {α : Type} (s : State) (accepted : Bool) (form : Option α) (effect : State → α → State) :
    Host.Outcome State Fault Refusal :=
  live s fun s =>
    match accepted, form with
    | true, some x => effect s x
    | _, _ => s

/-! ## Node frames (R165) -/

/-- A raw count from the encoder node (R2, R3). -/
def State.sample (s : State) (r : BitVec 16) : State :=
  let s1 := (s.onBelt fun b => { b with lastRaw := some r }).restartSilence
  match s.belt.lastRaw with
  | none => s1
  | some last =>
    let delta := (r - last).toNat
    if delta = 0 then s1
    else if delta < 4096 then (s1.onBelt fun b => { b with count := b.count + BitVec.ofNat 32 delta }).beltAdvance
    else s1.raise .encoder

/-- ENC (R2): from the encoder node alone. -/
def execEnc (h : Head) (payload : List Byte) (s : State) : Host.Outcome State Fault Refusal :=
  ringFrame s (fromNode h) (encPayload payload) fun s r =>
    if s.belt.encoder ≠ 0 ∧ h.src = s.belt.encoder then s.sample r else s

/-- EYE (R10, R11, R12). -/
def execEye (h : Head) (payload : List Byte) (s : State) : Host.Outcome State Fault Refusal :=
  ringFrame s (fromNode h) (eyePayload payload) fun s r =>
    match matchingEye s.eyes h.src r.1 with
    | none => s
    | some e => s.eyeReport e r.2

/-- ARM_STATE (R90, R101, R110). -/
def execArmState (h : Head) (payload : List Byte) (s : State) : Host.Outcome State Fault Refusal :=
  ringFrame s (fromNode h) (armPayload payload) fun s r =>
    match s.armOfNode h.src with
    | none => s
    | some i => s.armReport i r.1 r.2

/-- DRIVE_STATE (R62, R63). -/
def execDriveState (h : Head) (payload : List Byte) (s : State) : Host.Outcome State Fault Refusal :=
  ringFrame s (fromNode h) (drivePayload payload) fun s r => s.driveFrame h.src r

/-- An acknowledgment of the CALL (R45). -/
def State.callAck (s : State) : AckResult → State
  | .done => s.onGate fun g => { g with phase := .rolling, ackTimer := none }
  | .refused => s.rollerFault .refused

/-- An acknowledgment of the START (R61). -/
def State.startAck (s : State) (number : Nat) : AckResult → State
  | .done => s.startDone
  | .refused => s.startFailure .refused number

/-- ORDER_ACK: to a station by number, then to the gate from the roller, then to the pacer from the drive (R165, R107, R45,
R61). -/
def execOrderAck (h : Head) (payload : List Byte) (s : State) : Host.Outcome State Fault Refusal :=
  ringFrame s (fromNode h) (ackPayload payload) fun s r =>
    match s.stationAwaitingAck h.order with
    | some i => s.stationAck i r
    | none =>
      if h.src = s.gate.roller ∧ s.callAwaits h.order true = true then s.callAck r
      else if h.src = s.pacer.drive ∧ s.startAwaits h.order = true then s.startAck h.order r
      else s

/-- MAINT_REPLY: forwarded to the office source in its order byte, at most 38 bytes (R174). -/
def execMaintReply (h : Head) (payload : List Byte) (s : State) : Host.Outcome State Fault Refusal :=
  ringFrame s (fromNode h) (some payload) fun s data =>
    if 32 ≤ h.order ∧ h.order ≤ 63 then s.reply h.order (.maint .ok h.src (data.take 38)) else s

/-! ## Returned frames (R166) -/

/-- RETURNED_ORDER: to a station by number, then to the gate, then to the pacer (R166, R107, R45, R61). -/
def execReturnedOrder (h : Head) (payload : List Byte) (s : State) : Host.Outcome State Fault Refusal :=
  ringFrame s (isReturned h) (if orderForm payload then some () else none) fun s _ =>
    match s.stationAwaitingReturn h.order with
    | some i => s.failOrder i .returned
    | none =>
      if s.callAwaits h.order false then s.rollerFault .returned
      else if s.startAwaits h.order then s.startFailure .returned h.order
      else s

/-- The pacer states in which a returned SETPOINT is a fault (R70). -/
def PacerState.followsSetpoints : PacerState → Bool
  | .running | .pointStop | .stopping => true
  | _ => false

/-- RETURNED_SETPOINT (R70). -/
def execReturnedSetpoint (h : Head) (payload : List Byte) (s : State) : Host.Outcome State Fault Refusal :=
  ringFrame s (isReturned h) (wordOperand payload) fun s _ =>
    if s.pacer.state.followsSetpoints then s.raise .driveFault else s

/-- RETURNED_BRAKE: discarded by the pacer (R75, R166). -/
def execReturnedBrake (h : Head) (payload : List Byte) (s : State) : Host.Outcome State Fault Refusal :=
  ringFrame s (isReturned h) (noOperands payload) fun s _ => s

/-- RETURNED_MAINT: NO_NODE to the office source in the order byte (R166). -/
def execReturnedMaint (h : Head) (payload : List Byte) (s : State) : Host.Outcome State Fault Refusal :=
  ringFrame s (isReturned h) (if payload.length ≤ 39 then some () else none) fun s _ =>
    s.reply h.order (.maint .noNode h.dst [])

/-- BROADCAST_RETURN: the return check (R168). -/
def execBroadcastReturn (h : Head) (payload : List Byte) (s : State) : Host.Outcome State Fault Refusal :=
  ringFrame s (isBroadcastReturn h) (stampPayload payload) fun s stamp =>
    if s.ring.outstanding = some stamp then
      s.onRing fun r => ({ r with state := .up } : Ring).clearOutstanding s.halt.state
    else s

/-! ## Bad frames (R163) -/

/-- BAD_FRAME: counted by the receiving port (R163). -/
def execBadFrame (port : Port) (s : State) : Host.Outcome State Fault Refusal :=
  live s fun s =>
    match port with
    | .ring => s.onRing fun r => { r with badFrames := min 65535 (r.badFrames + 1) }
    | .office => s.onOffice fun o => { o with badFrames := min 65535 (o.badFrames + 1) }

end Sys2Proof.Machine
end

