-- ==== Sys2Proof/Machine/RingOut.lean ====
section
/-! DEFINITION. The meanings of the ends of transmission (R169, R175): the frame's owner is told, then the next frame is chosen. -/

namespace Sys2Proof.Machine

/-- The frame in the ring transmitter is finished. -/
def State.ringFinish (s : State) : State := s.onRing Ring.finish

/-- The gate is told that a CALL has been sent (R44). A call abandoned meanwhile is not told. -/
def State.callSent (s : State) (number : Nat) : State :=
  if s.gate.phase = .calling ∧ (s.gate.call.map fun r => r.number) = some number then
    s.onGate fun g =>
      { g with
        lastCall := some s.belt.count
        call := some { number := number, transmitted := true }
        ackTimer := some s.timing.orderAck }
  else s

/-- The pacer is told that a START has been sent (R60). -/
def State.startSent (s : State) (number : Nat) : State :=
  if (s.pacer.start.map fun r => r.number) = some number then
    s.onPacer fun p =>
      { p with start := some { number := number, transmitted := true }, startTimer := some s.timing.driveStart }
  else s

/-- A station is told that its order has been sent (R103). -/
def State.orderSent (s : State) (number : Nat) : State :=
  match s.stationOfOrder number with
  | none => s
  | some i =>
    s.onStation i fun st =>
      { st with
        current := st.current.map fun o => { o with transmitted := true }
        timer := some s.timing.orderAck }

/-- The Ring Port is told that a broadcast has been sent (R167, R168). -/
def State.broadcastSent (s : State) (stamp : BitVec 16) : State :=
  s.onRing fun r =>
    { r with
      outstanding := some stamp
      timeout := some s.timing.ringTimeout
      checkTimer := some s.timing.ringCheck }

/-- The action of a station order. -/
def Action.forStation : Action → Bool
  | .call | .start => false
  | _ => true

/-- CALL_TRANSMITTED (R44). -/
def execCallTransmitted (s : State) : Host.Outcome State Fault Refusal :=
  live s fun s =>
    match s.ring.tx with
    | some (.order _ number .call _) => (s.callSent number).ringFinish
    | _ => s

/-- START_TRANSMITTED (R60). -/
def execStartTransmitted (s : State) : Host.Outcome State Fault Refusal :=
  live s fun s =>
    match s.ring.tx with
    | some (.order _ number .start _) => (s.startSent number).ringFinish
    | _ => s

/-- STATION_ORDER_TRANSMITTED (R103). -/
def execStationOrderTransmitted (s : State) : Host.Outcome State Fault Refusal :=
  live s fun s =>
    match s.ring.tx with
    | some (.order _ number action _) => if action.forStation then (s.orderSent number).ringFinish else s
    | _ => s

/-- BROADCAST_TRANSMITTED (R167, R168). -/
def execBroadcastTransmitted (s : State) : Host.Outcome State Fault Refusal :=
  live s fun s =>
    match s.ring.tx with
    | some (.broadcast _ stamp) => (s.broadcastSent stamp).ringFinish
    | _ => s

/-- RING_FRAME_TRANSMITTED: a SETPOINT, a BRAKE or a MAINT (R169). -/
def execRingFrameTransmitted (s : State) : Host.Outcome State Fault Refusal :=
  live s fun s =>
    match s.ring.tx with
    | some (.setpoint ..) | some (.brake ..) | some (.maint ..) => s.ringFinish
    | _ => s

/-- OFFICE_FRAME_SENT: the office transmitter is free (R175). -/
def execOfficeFrameSent (s : State) : Host.Outcome State Fault Refusal :=
  live s fun s => s.onOffice fun o => { o with tx := none }

end Sys2Proof.Machine
end

