-- ==== Sys2Proof/Machine/Writes.lean ====
section
/-! DEFINITION. The table writes (R180): one operation per table, checked in the order of its own rule, and the command of each
row. Fields of one byte above 127 in an address, and flags that are neither 0 nor 1, are structural (R180; log 22). -/

namespace Sys2Proof.Machine

/-- A write index read as a place of a table. -/
def place (n index : Nat) : Option (Fin n) := if h : index < n then some ⟨index, h⟩ else none

/-! ## STATION (R88, R89) -/

/-- The written entry before clamping. -/
def StationWrite.entry (w : StationWrite) (kind : StationKind) : StationEntry :=
  { kind := kind, windowStart := w.windowStart, windowEnd := w.windowEnd, front := w.front, rear := w.rear, travel := w.travel,
    busy := w.busy, load := w.load, cap := w.cap, weight := w.weight }

/-- The speed cap as stored: 0 stays 0, others lie within 160..4800 (R88). -/
def clampCap (cap : Nat) : Nat := if cap = 0 then 0 else clamp 160 4800 cap

/-- An entry clamped field by field in a tunnel of length L (R88). -/
def StationEntry.clamped (e : StationEntry) (length : Nat) : StationEntry :=
  { kind := e.kind
    windowStart := min length e.windowStart
    windowEnd := min length e.windowEnd
    front := min 2000 e.front
    rear := clampInt (-1000) 2000 e.rear
    travel := min 5000 e.travel
    busy := clamp 100 10000 e.busy
    load := clamp 1 255 e.load
    cap := clampCap e.cap
    weight := min 255 e.weight }

/-- The last arm position becomes UNKNOWN and the last load 0 (R89, R91). -/
def Station.forgetArm (st : Station) : Station := { st with position := .unknown, load := 0 }

/-- A taken STATION write (R88, R89). -/
def State.storeStation (s : State) (i : StationId) (e : StationEntry) : State :=
  let s1 := s.onMap fun m => { m with table := m.table.set i e }
  if e.kind = s.map.table[i].kind then s1 else s1.onStation i Station.forgetArm

/-- A write of the STATION table, in the order of R88. -/
def State.writeStation (s : State) (w : StationWrite) : Answer :=
  match place 32 w.index with
  | none => s.refuse .badIndex
  | some i =>
    if s.cars ≠ [] then s.refuse .occupied
    else if s.track.length = 0 then s.refuse .notConfigured
    else
      match kindOf w.kind with
      | none => s.refuse .badValue
      | some kind =>
        if w.windowEnd < w.windowStart then s.refuse .badValue
        else if kind = .arm ∧ s.map.aliases[i] ≠ 0 ∧ s.armAliasTaken i s.map.aliases[i] = true then s.refuse .badValue
        else if kind ≠ s.map.table[i].kind ∧ s.seq.stations[i].isBusy = true then s.refuse .busy
        else
          let e := (w.entry kind).clamped s.track.length
          (s.storeStation i e).stored (e != w.entry kind) e.bytes

/-- STATION_WRITE (R88). -/
def execStationWrite (h : Head) (operands : List Byte) (s : State) : Host.Outcome State Fault Refusal :=
  request s h 0x02 (stationOperands operands) State.writeStation

/-! ## ALIAS (R91) -/

/-- A taken ALIAS write: a change of an ARM station's alias forgets its arm (R91). -/
def State.storeAlias (s : State) (i : StationId) (node : Nat) : State :=
  let s1 := s.onMap fun m => { m with aliases := m.aliases.set i node }
  if s.map.table[i].kind = .arm ∧ s.map.aliases[i] ≠ node then s1.onStation i Station.forgetArm else s1

/-- A write of the ALIAS table, in the order of R91. -/
def State.writeAlias (s : State) (w : Nat × Nat) : Answer :=
  match place 32 w.1 with
  | none => s.refuse .badIndex
  | some i =>
    if 126 < w.2 then s.refuse .badValue
    else if s.map.table[i].kind = .arm ∧ w.2 ≠ 0 ∧ s.armAliasTaken i w.2 = true then s.refuse .badValue
    else if s.seq.stations[i].isBusy then s.refuse .busy
    else (s.storeAlias i w.2).stored false (one w.2)

/-- ALIAS_WRITE (R91). -/
def execAliasWrite (h : Head) (operands : List Byte) (s : State) : Host.Outcome State Fault Refusal :=
  request s h 0x02 (aliasOperands operands) State.writeAlias

/-! ## PLAN, OPTION, CODE (R117, R118, R119) -/

/-- The PLAN entry a write of index 1..15 stores: an ABSENT plan stands at its power-on values (R117). -/
def PlanWrite.entry (w : PlanWrite) : PlanState → Plan
  | .absent => {}
  | state => { state := state, price := w.price, stations := w.stations, essential := w.essential, allow := w.allow }

/-- A PLAN entry is stored. -/
def State.storePlan (s : State) (k : Fin 16) (p : Plan) : State := s.onBook fun b => { b with plans := b.plans.set k p }

/-- A write of the PLAN table (R117); entry 0 takes the station set alone. -/
def State.writePlan (s : State) (w : PlanWrite) : Answer :=
  match place 16 w.index with
  | none => s.refuse .badIndex
  | some k =>
    if k = 0 then
      let p := { s.book.plans[k] with stations := w.stations }
      (s.storePlan k p).stored false p.bytes
    else
      match planStateOf w.state with
      | none => s.refuse .badValue
      | some state =>
        if w.essential &&& ~~~w.stations ≠ 0 then s.refuse .badValue
        else (s.storePlan k (w.entry state)).stored false (w.entry state).bytes

/-- PLAN_WRITE (R117). -/
def execPlanWrite (h : Head) (operands : List Byte) (s : State) : Host.Outcome State Fault Refusal :=
  request s h 0x02 (planOperands operands) State.writePlan

/-- A write of the OPTION table (R118). -/
def State.writeOption (s : State) (w : Nat × OptionEntry) : Answer :=
  match place 8 w.1 with
  | none => s.refuse .badIndex
  | some k => (s.onBook fun b => { b with options := b.options.set k w.2 }).stored false w.2.bytes

/-- OPTION_WRITE (R118). -/
def execOptionWrite (h : Head) (operands : List Byte) (s : State) : Host.Outcome State Fault Refusal :=
  request s h 0x02 (optionOperands operands) State.writeOption

/-- A plan number a window may name (R119). -/
def sellablePlan (n : Nat) : Option (Fin 16) := if n = 0 then none else place 16 n

/-- A write of the CODE table (R119). -/
def State.writeCode (s : State) (w : CodeWrite) : Answer :=
  match place 8 w.index with
  | none => s.refuse .badIndex
  | some k =>
    match sellablePlan w.plan, flagOf w.enabled, flagOf w.grant with
    | some plan, some enabled, some grant =>
      let e : CodeWindow :=
        { enabled := enabled, base := w.base, mask := w.mask, plan := plan, discount := min 100 w.discount, grant := grant }
      (s.onBook fun b => { b with codes := b.codes.set k e }).stored (decide (100 < w.discount)) e.bytes
    | _, _, _ => s.refuse .badValue

/-- CODE_WRITE (R119). -/
def execCodeWrite (h : Head) (operands : List Byte) (s : State) : Host.Outcome State Fault Refusal :=
  request s h 0x02 (codeOperands operands) State.writeCode

/-! ## EYE (R9) -/

/-- Another enabled entry has this node and input (R9). -/
def State.eyeInputTaken (s : State) (k : Fin 10) (node input : Nat) : Bool :=
  (List.finRange 10).any fun j => j != k && s.eyes[j].enabled && s.eyes[j].node == node && s.eyes[j].input == input

/-- A tracking eye's position is below L and strictly between the enabled tracking eyes around it, which themselves stand in
order (R9). -/
def State.positionFits (s : State) (k : Fin 10) (position : Nat) : Bool :=
  decide (position < s.track.length) &&
  trackingEyes.all fun j =>
    !s.eyes[j].enabled || j == k ||
    (if j < k then decide (s.eyes[j].position < position) else decide (position < s.eyes[j].position))

/-- Whether an index is that of a tracking eye (1.4). -/
def isTracking (k : Fin 10) : Bool := decide (4 ≤ k.val)

/-- The entry a taken EYE write stores; an eye that does not track has no position (R8, R9; log 20). -/
def EyeWrite.entry (w : EyeWrite) (k : Fin 10) (enabled : Bool) (polarity : Polarity) : Eye :=
  { enabled := enabled, node := w.node, input := w.input, polarity := polarity,
    position := if isTracking k then clamp 1 29999 w.position else 0 }

/-- The structural tests of an EYE write (R9, steps 4 to 6). -/
def State.eyeFits (s : State) (k : Fin 10) (e : Eye) : Bool :=
  decide (1 ≤ e.node) && decide (e.node ≤ 126) && decide (e.input ≤ 7) &&
  (!e.enabled || (!s.eyeInputTaken k e.node e.input && (!isTracking k || s.positionFits k e.position)))

/-- What an eye that a write sets to OFF means to its readers: the loading eye as an off edge, the exit-zone eye as the zone
clearing (R41, R74). -/
def State.eyeRewritten (s : State) (k : Fin 10) : State :=
  match k.val with
  | 0 => s.loadingEdge false
  | 3 => s.exitZoneClear
  | _ => s

/-- A write that disables the entry eye or the exit eye (R9; log 37). -/
def EyeWrite.disablesEnd (w : EyeWrite) (k : Fin 10) : Bool := w.enabled == 0 && (k == 1 || k == 2)

/-- A write of the EYE table, in the order of R9. -/
def State.writeEye (s : State) (w : EyeWrite) : Answer :=
  match place 10 w.index with
  | none => s.refuse .badIndex
  | some k =>
    if s.cars ≠ [] then s.refuse .occupied
    else if w.disablesEnd k = true ∧ s.pacer.state ≠ .stopped then s.refuse .wrongState
    else
      match flagOf w.enabled, polarityOf w.polarity with
      | some enabled, some polarity =>
        let e := w.entry k enabled polarity
        if s.eyeFits k e then
          ((s.onEyes fun eyes => eyes.set k e).eyeRewritten k).stored (isTracking k && e.position != w.position) e.bytes
        else s.refuse .badValue
      | _, _ => s.refuse .badValue

/-- EYE_WRITE (R9). -/
def execEyeWrite (h : Head) (operands : List Byte) (s : State) : Host.Outcome State Fault Refusal :=
  request s h 0x02 (eyeOperands operands) State.writeEye

/-! ## PASS (R173) -/

/-- A write of the PASS table (R173). -/
def State.writePass (s : State) (w : PassWrite) : Answer :=
  match place 4 w.index with
  | none => s.refuse .badIndex
  | some k =>
    if 127 < w.base ∨ 127 < w.mask then s.refuse .badValue
    else
      match flagOf w.enabled, passModeOf w.mode with
      | some enabled, some mode =>
        let e : PassWindow := { enabled := enabled, base := w.base, mask := w.mask, mode := mode }
        (s.onOffice fun o => { o with windows := o.windows.set k e }).stored false e.bytes
      | _, _ => s.refuse .badValue

/-- PASS_WRITE (R173). -/
def execPassWrite (h : Head) (operands : List Byte) (s : State) : Host.Outcome State Fault Refusal :=
  request s h 0x02 (passOperands operands) State.writePass

/-! ## PACING, GATE, TRACK, TIMING, ARBITER (R79, R53, R7, R38, R80, R171) -/

/-- The PACING parameters of a write, as carried. -/
def PacingWrite.raw (w : PacingWrite) (p : Pacer) : Pacer :=
  { p with accel := w.accel, dec := w.dec, decHard := w.decHard, slip := w.slip, overrun := w.overrun, margin := w.margin,
           approach := w.approach }

/-- The PACING parameters clamped, then DEC_HARD raised to at least DEC (R79). -/
def Pacer.clamped (p : Pacer) : Pacer :=
  { p with
    accel := clamp 1 480 p.accel
    dec := clamp 1 480 p.dec
    decHard := max (clamp 1 480 p.dec) (clamp 1 960 p.decHard)
    slip := clamp 20 2000 p.slip
    overrun := clamp 20 2000 p.overrun
    margin := min 2000 p.margin
    approach := clamp 200 6000 p.approach }

/-- A write of the PACING table (R79). -/
def State.writePacing (s : State) (w : PacingWrite) : Answer :=
  if w.index ≠ 0 then s.refuse .badIndex
  else
    let raw := w.raw s.pacer
    (s.onPacer fun _ => raw.clamped).stored (raw.clamped != raw) raw.clamped.bytes

/-- PACING_WRITE (R79). -/
def execPacingWrite (h : Head) (operands : List Byte) (s : State) : Host.Outcome State Fault Refusal :=
  request s h 0x02 (pacingOperands operands) State.writePacing

/-- The GATE parameters of a write, as carried. -/
def GateWrite.raw (w : GateWrite) (g : Gate) (unsold : Bool) : Gate :=
  { g with pitch := w.pitch, gap := w.gap, reach := w.reach, admitUnsold := unsold }

/-- The GATE parameters clamped (R53). -/
def Gate.clamped (g : Gate) : Gate :=
  { g with pitch := clamp 500 10000 g.pitch, gap := clamp 100 5000 g.gap, reach := clamp 200 4000 g.reach }

/-- A write of the GATE table, followed by an admission check (R53). -/
def State.writeGate (s : State) (w : GateWrite) : Answer :=
  if w.index ≠ 0 then s.refuse .badIndex
  else
    match flagOf w.admitUnsold with
    | none => s.refuse .badValue
    | some unsold =>
      let raw := w.raw s.gate unsold
      (s.onGate fun _ => raw.clamped).admissionCheck.stored (raw.clamped != raw) raw.clamped.bytes

/-- GATE_WRITE (R53). -/
def execGateWrite (h : Head) (operands : List Byte) (s : State) : Host.Outcome State Fault Refusal :=
  request s h 0x02 (gateOperands operands) State.writeGate

/-- The TRACK table clamped, then the drift halt tolerance raised to at least the drift adjust tolerance (R7, R38). -/
def Track.clamped (t : Track) : Track :=
  { length := clamp 1000 30000 t.length
    merge := min 500 t.merge
    minObject := clamp 100 1500 t.minObject
    maxCar := clamp 1500 6000 t.maxCar
    crowd := clamp 50 2000 t.crowd
    driftAdjust := min 200 t.driftAdjust
    driftHalt := max (min 200 t.driftAdjust) (clamp 20 500 t.driftHalt)
    expiry := clamp 500 5000 t.expiry }

/-- Every window is lowered to L (R83). -/
def StationEntry.lowered (e : StationEntry) (length : Nat) : StationEntry :=
  { e with windowStart := min length e.windowStart, windowEnd := min length e.windowEnd }

/-- An enabled tracking eye stands at or beyond a length (R7). -/
def State.eyeBeyond (s : State) (length : Nat) : Bool :=
  trackingEyes.any fun k => s.eyes[k].enabled && decide (length ≤ s.eyes[k].position)

/-- A taken TRACK write: a change of L lowers the station windows (R7, R83). -/
def State.storeTrack (s : State) (t : Track) : State :=
  let s1 := s.onTrack fun _ => t
  if t.length = s.track.length then s1
  else s1.onMap fun m => { m with table := m.table.map fun e => e.lowered t.length }

/-- A write of the TRACK table; the guards on L apply when the stored L changes (R7, R38; log 16). -/
def State.writeTrack (s : State) (w : TrackWrite) : Answer :=
  if w.index ≠ 0 then s.refuse .badIndex
  else
    let t := w.track.clamped
    if t.length ≠ s.track.length ∧ s.cars ≠ [] then s.refuse .occupied
    else if t.length ≠ s.track.length ∧ s.eyeBeyond t.length = true then s.refuse .badValue
    else (s.storeTrack t).stored (t != w.track) t.bytes

/-- TRACK_WRITE (R7, R38). -/
def execTrackWrite (h : Head) (operands : List Byte) (s : State) : Host.Outcome State Fault Refusal :=
  request s h 0x02 (trackOperands operands) State.writeTrack

/-- The TIMING table clamped (R5, R114, R80, R130, R167, R168). -/
def Timing.clamped (t : Timing) : Timing :=
  { encoderSilence := clamp 20 1000 t.encoderSilence
    orderAck := clamp 10 500 t.orderAck
    driveStart := clamp 50 2000 t.driveStart
    driveStop := clamp 500 10000 t.driveStop
    quoteHold := clamp 5 600 t.quoteHold
    ringCheck := clamp 10 200 t.ringCheck
    ringTimeout := clamp 5 100 t.ringTimeout }

/-- A write of the TIMING table (R80). -/
def State.writeTiming (s : State) (w : Nat × Timing) : Answer :=
  if w.1 ≠ 0 then s.refuse .badIndex
  else (s.onTiming fun _ => w.2.clamped).stored (w.2.clamped != w.2) w.2.clamped.bytes

/-- TIMING_WRITE (R80, R114, R130, R167, R168). -/
def execTimingWrite (h : Head) (operands : List Byte) (s : State) : Host.Outcome State Fault Refusal :=
  request s h 0x02 (timingOperands operands) State.writeTiming

/-- The three priorities of a write, as carried. -/
def Ring.withPriorities (r : Ring) (motion order pass : Nat) : Ring :=
  { r with prioMotion := motion, prioOrder := order, prioPass := pass }

/-- A write of the ARBITER table (R171). -/
def State.writeArbiter (s : State) (w : Nat × Nat × Nat × Nat) : Answer :=
  if w.1 ≠ 0 then s.refuse .badIndex
  else
    let raw := s.ring.withPriorities w.2.1 w.2.2.1 w.2.2.2
    let r := s.ring.withPriorities (clamp 1 15 w.2.1) (clamp 1 15 w.2.2.1) (clamp 1 15 w.2.2.2)
    (s.onRing fun _ => r).stored (r != raw) r.arbiterBytes

/-- ARBITER_WRITE (R171). -/
def execArbiterWrite (h : Head) (operands : List Byte) (s : State) : Host.Outcome State Fault Refusal :=
  request s h 0x02 (arbiterOperands operands) State.writeArbiter

/-! ## NODE (R6, R52, R64, R181, R182) -/

/-- The encoder field's checks (R6). -/
def State.encoderRefusal (s : State) (address : Nat) : Option Result :=
  if address = s.belt.encoder then none
  else if 126 < address then some .badValue
  else if s.pacer.state ≠ .stopped then some .wrongState
  else none

/-- The drive field's checks (R64). -/
def State.driveRefusal (s : State) (address : Nat) : Option Result :=
  if 126 < address then some .badValue
  else if s.pacer.state ≠ .stopped then some .wrongState
  else none

/-- The roller field's checks (R52). -/
def State.rollerRefusal (s : State) (address : Nat) : Option Result :=
  if address = s.gate.roller then none
  else if 126 < address then some .badValue
  else if s.gate.phase = .calling ∨ s.gate.phase = .rolling then some .wrongState
  else if address = 0 ∧ s.gate.isOpen = true then some .wrongState
  else none

/-- The office field's check (R181). -/
def officeRefusal (address : Nat) : Option Result := if address < 64 ∨ 126 < address then some .badValue else none

/-- The encoder address is stored; a change makes the last raw value absent (R6). -/
def State.storeEncoder (s : State) (address : Nat) : State :=
  if address = s.belt.encoder then s else s.onBelt fun b => { b with encoder := address, lastRaw := none }

/-- The drive address is stored and the freeze flag set or cleared; a change makes the report absent (R64). -/
def State.storeDrive (s : State) (address : Nat) : State :=
  s.onPacer fun p =>
    { p with
      drive := address
      freeze := address != 0
      report := if address = p.drive then p.report else none }

/-- A field of a NODE write: its check if the mask names it. -/
def named (mask : Byte) (bit : Nat) (refusal : Option Result) : Option Result := if mask.getLsbD bit then refusal else none

/-- The first check that fails, in the order encoder, drive, roller, office (R181). -/
def State.nodeRefusal (s : State) (w : NodeWrite) : Option Result :=
  (named w.mask 0 (s.encoderRefusal w.encoder)).or
    ((named w.mask 1 (s.driveRefusal w.drive)).or
      ((named w.mask 2 (s.rollerRefusal w.roller)).or (named w.mask 3 (officeRefusal w.office))))

/-- The named fields are stored (R181, R182). -/
def State.storeNodes (s : State) (w : NodeWrite) : State :=
  let s1 := if w.mask.getLsbD 0 then s.storeEncoder w.encoder else s
  let s2 := if w.mask.getLsbD 1 then s1.storeDrive w.drive else s1
  let s3 := if w.mask.getLsbD 2 then s2.onGate fun g => { g with roller := w.roller } else s2
  if w.mask.getLsbD 3 then s3.onOffice fun o => { o with address := w.office } else s3

/-- A write of the NODE table, whichever fields its mask names (R181; log 31). -/
def State.writeNodes (s : State) (w : NodeWrite) : Answer :=
  if w.index ≠ 0 then s.refuse .badIndex
  else
    match s.nodeRefusal w with
    | some r => s.refuse r
    | none => (s.storeNodes w).stored false (s.storeNodes w).nodeBytes

/-- NODE_ENCODER_WRITE (R6, R181). -/
def execNodeEncoderWrite (h : Head) (operands : List Byte) (s : State) : Host.Outcome State Fault Refusal :=
  request s h 0x02 (nodeOperands operands) State.writeNodes

/-- NODE_DRIVE_WRITE (R64, R181). -/
def execNodeDriveWrite (h : Head) (operands : List Byte) (s : State) : Host.Outcome State Fault Refusal :=
  request s h 0x02 (nodeOperands operands) State.writeNodes

/-- NODE_ROLLER_WRITE (R52, R181). -/
def execNodeRollerWrite (h : Head) (operands : List Byte) (s : State) : Host.Outcome State Fault Refusal :=
  request s h 0x02 (nodeOperands operands) State.writeNodes

/-- NODE_OFFICE_WRITE (R181, R182). -/
def execNodeOfficeWrite (h : Head) (operands : List Byte) (s : State) : Host.Outcome State Fault Refusal :=
  request s h 0x02 (nodeOperands operands) State.writeNodes

/-! ## TABLE WRITE by identifier (R180) -/

/-- A write of a table with the operand bytes read, if they have the table's form. -/
def writeWith {α : Type} (operands : Option α) (write : State → α → Answer) : Option (State → Answer) :=
  operands.map fun w => fun s => write s w

/-- What a table identifier and the bytes after it ask for: the table's own write, or BAD_TABLE for an identifier that is
unknown or read-only, with an index after it (R180; log 31). -/
def tableWriteOperands : List Byte → Option (State → Answer)
  | [] => none
  | table :: rest =>
    match table.toNat with
    | 1 => writeWith (stationOperands rest) State.writeStation
    | 2 => writeWith (aliasOperands rest) State.writeAlias
    | 3 => writeWith (planOperands rest) State.writePlan
    | 4 => writeWith (optionOperands rest) State.writeOption
    | 5 => writeWith (codeOperands rest) State.writeCode
    | 6 => writeWith (eyeOperands rest) State.writeEye
    | 7 => writeWith (passOperands rest) State.writePass
    | 8 => writeWith (pacingOperands rest) State.writePacing
    | 9 => writeWith (gateOperands rest) State.writeGate
    | 10 => writeWith (trackOperands rest) State.writeTrack
    | 11 => writeWith (timingOperands rest) State.writeTiming
    | 12 => writeWith (arbiterOperands rest) State.writeArbiter
    | 13 => writeWith (nodeOperands rest) State.writeNodes
    | _ => if rest = [] then none else some fun s => s.refuse .badTable

/-- TABLE_WRITE (R180). -/
def execTableWrite (h : Head) (operands : List Byte) (s : State) : Host.Outcome State Fault Refusal :=
  request s h 0x02 (tableWriteOperands operands) fun s write => write s

end Sys2Proof.Machine
end

