-- ==== Sys2Proof/Machine/Dispatch.lean ====
section
/-! DEFINITION. One arm per command, each one call of its meaning. -/

namespace Sys2Proof.Machine

def exec (i : Instr) (s : State) : Host.Outcome State Fault Refusal :=
  match i with
  | .rstAssert => Sys2Proof.Machine.execRstAssert s
  | .rstRelease straps estop => Sys2Proof.Machine.execRstRelease straps estop s
  | .estopAssert => Sys2Proof.Machine.execEstopAssert s
  | .estopRelease => Sys2Proof.Machine.execEstopRelease s
  | .oholdAssert => Sys2Proof.Machine.execOholdAssert s
  | .oholdRelease => Sys2Proof.Machine.execOholdRelease s
  | .enc h payload => Sys2Proof.Machine.execEnc h payload s
  | .eye h payload => Sys2Proof.Machine.execEye h payload s
  | .armState h payload => Sys2Proof.Machine.execArmState h payload s
  | .driveState h payload => Sys2Proof.Machine.execDriveState h payload s
  | .orderAck h payload => Sys2Proof.Machine.execOrderAck h payload s
  | .maintReply h payload => Sys2Proof.Machine.execMaintReply h payload s
  | .returnedOrder h payload => Sys2Proof.Machine.execReturnedOrder h payload s
  | .returnedSetpoint h payload => Sys2Proof.Machine.execReturnedSetpoint h payload s
  | .returnedBrake h payload => Sys2Proof.Machine.execReturnedBrake h payload s
  | .returnedMaint h payload => Sys2Proof.Machine.execReturnedMaint h payload s
  | .broadcastReturn h payload => Sys2Proof.Machine.execBroadcastReturn h payload s
  | .badFrame port => Sys2Proof.Machine.execBadFrame port s
  | .callTransmitted => Sys2Proof.Machine.execCallTransmitted s
  | .startTransmitted => Sys2Proof.Machine.execStartTransmitted s
  | .stationOrderTransmitted => Sys2Proof.Machine.execStationOrderTransmitted s
  | .broadcastTransmitted => Sys2Proof.Machine.execBroadcastTransmitted s
  | .ringFrameTransmitted => Sys2Proof.Machine.execRingFrameTransmitted s
  | .officeFrameSent => Sys2Proof.Machine.execOfficeFrameSent s
  | .quoteReq h payload => Sys2Proof.Machine.execQuoteReq h payload s
  | .closeReq h payload => Sys2Proof.Machine.execCloseReq h payload s
  | .dropReq h payload => Sys2Proof.Machine.execDropReq h payload s
  | .maint h payload => Sys2Proof.Machine.execMaint h payload s
  | .tableRead h operands => Sys2Proof.Machine.execTableRead h operands s
  | .tableWrite h operands => Sys2Proof.Machine.execTableWrite h operands s
  | .stationWrite h operands => Sys2Proof.Machine.execStationWrite h operands s
  | .aliasWrite h operands => Sys2Proof.Machine.execAliasWrite h operands s
  | .planWrite h operands => Sys2Proof.Machine.execPlanWrite h operands s
  | .optionWrite h operands => Sys2Proof.Machine.execOptionWrite h operands s
  | .codeWrite h operands => Sys2Proof.Machine.execCodeWrite h operands s
  | .eyeWrite h operands => Sys2Proof.Machine.execEyeWrite h operands s
  | .passWrite h operands => Sys2Proof.Machine.execPassWrite h operands s
  | .pacingWrite h operands => Sys2Proof.Machine.execPacingWrite h operands s
  | .gateWrite h operands => Sys2Proof.Machine.execGateWrite h operands s
  | .trackWrite h operands => Sys2Proof.Machine.execTrackWrite h operands s
  | .timingWrite h operands => Sys2Proof.Machine.execTimingWrite h operands s
  | .arbiterWrite h operands => Sys2Proof.Machine.execArbiterWrite h operands s
  | .nodeEncoderWrite h operands => Sys2Proof.Machine.execNodeEncoderWrite h operands s
  | .nodeDriveWrite h operands => Sys2Proof.Machine.execNodeDriveWrite h operands s
  | .nodeRollerWrite h operands => Sys2Proof.Machine.execNodeRollerWrite h operands s
  | .nodeOfficeWrite h operands => Sys2Proof.Machine.execNodeOfficeWrite h operands s
  | .gateOpen h operands => Sys2Proof.Machine.execGateOpen h operands s
  | .gateClose h operands => Sys2Proof.Machine.execGateClose h operands s
  | .run h operands => Sys2Proof.Machine.execRun h operands s
  | .stop h operands => Sys2Proof.Machine.execStop h operands s
  | .halt h operands => Sys2Proof.Machine.execHalt h operands s
  | .ack h operands => Sys2Proof.Machine.execAck h operands s
  | .resume h operands => Sys2Proof.Machine.execResume h operands s
  | .stationClear h operands => Sys2Proof.Machine.execStationClear h operands s
  | .eyeRestore h operands => Sys2Proof.Machine.execEyeRestore h operands s
  | .saleVoid h operands => Sys2Proof.Machine.execSaleVoid h operands s
  | .carClear h operands => Sys2Proof.Machine.execCarClear h operands s
  | .tunnelReset h operands => Sys2Proof.Machine.execTunnelReset h operands s
  | .tallyRead h operands => Sys2Proof.Machine.execTallyRead h operands s
  | .tallyReset h operands => Sys2Proof.Machine.execTallyReset h operands s
  | .statusRead h operands => Sys2Proof.Machine.execStatusRead h operands s
  | .encoderSilenceExpiry => Sys2Proof.Machine.execEncoderSilenceExpiry s
  | .rollerAckTimeout => Sys2Proof.Machine.execRollerAckTimeout s
  | .startAckTimeout => Sys2Proof.Machine.execStartAckTimeout s
  | .profileInterval => Sys2Proof.Machine.execProfileInterval s
  | .driveStopTimeout => Sys2Proof.Machine.execDriveStopTimeout s
  | .orderAckTimeout station => Sys2Proof.Machine.execOrderAckTimeout station s
  | .returnWindowExpiry station => Sys2Proof.Machine.execReturnWindowExpiry station s
  | .positionTimeout station => Sys2Proof.Machine.execPositionTimeout station s
  | .quoteHoldExpiry terminal => Sys2Proof.Machine.execQuoteHoldExpiry terminal s
  | .ringCheckExpiry => Sys2Proof.Machine.execRingCheckExpiry s
  | .ringTimeout => Sys2Proof.Machine.execRingTimeout s

end Sys2Proof.Machine
end

