-- ==== Sys2Proof/Machine/Step.lean ====
section
/-! DEFINITION. One step: the command at the front of the queue, or time passing while none waits. -/

namespace Sys2Proof.Machine

/-- The step of the machine. With no command waiting, a timer that has run out or a millisecond is taken (log 1). -/
def step (s : State) : Host.Outcome State Fault Refusal :=
  match s.pending with
  | [] => .next s.tick
  | c :: rest => exec c (s.onPending fun _ => rest)

/-- The state with the command a word spells at the front of its queue; no word spells one (the table gives no bits, log 2). -/
def State.withFetchWord (s : State) (nbits w : Nat) : State :=
  match decodeTableWord nbits w with
  | none => s
  | some c => s.onPending fun q => c :: q

end Sys2Proof.Machine
end

