-- ==== Sys2Proof/Safety.lean ====
section
/-! DEFINITION. The terms the statements use: the fields of the state, what a command leaves alone, the frames waiting for the
office link, and the laws of the device (R16, R19, R67, R96, R102, R123, R125, R137, R148, R150, R151, R170, R175). -/

namespace Sys2Proof.Machine

/-! ## Frames of statements -/

/-- The fields of the state; the clock's two parts count apart. -/
inductive Field where
  | pending
  | pins
  | uptime
  | choices
  | belt
  | eyes
  | track
  | cars
  | nextTag
  | gate
  | pacer
  | timing
  | map
  | seq
  | book
  | tallies
  | halt
  | ring
  | office
  deriving DecidableEq, Repr

/-- A field has the same value in two states. -/
def Field.same : Field → State → State → Prop
  | .pending, s, t => t.pending = s.pending
  | .pins, s, t => t.pins = s.pins
  | .uptime, s, t => t.clock.uptime = s.clock.uptime
  | .choices, s, t => t.clock.choices = s.clock.choices
  | .belt, s, t => t.belt = s.belt
  | .eyes, s, t => t.eyes = s.eyes
  | .track, s, t => t.track = s.track
  | .cars, s, t => t.cars = s.cars
  | .nextTag, s, t => t.nextTag = s.nextTag
  | .gate, s, t => t.gate = s.gate
  | .pacer, s, t => t.pacer = s.pacer
  | .timing, s, t => t.timing = s.timing
  | .map, s, t => t.map = s.map
  | .seq, s, t => t.seq = s.seq
  | .book, s, t => t.book = s.book
  | .tallies, s, t => t.tallies = s.tallies
  | .halt, s, t => t.halt = s.halt
  | .ring, s, t => t.ring = s.ring
  | .office, s, t => t.office = s.office

/-- Between two states only the named fields may differ. -/
def Touches (fields : List Field) (s t : State) : Prop := ∀ f, f ∉ fields → f.same s t

/-- Two states agree but for the office port. -/
def SameButOffice (s t : State) : Prop := ∀ f, f ≠ Field.office → f.same s t

/-- The frames that wait for the office link, in the order sent while no other is queued: the one begun, the replies, the
notices (R175). A frame that is begun does not change this list. -/
def Office.outgoing (o : Office) : List OfficeFrame :=
  o.tx.toList ++ o.replies.map .reply ++ o.notices.map .notice

/-- The office port but for its queues and its transmitter is unchanged. -/
def Office.settingsSame (o p : Office) : Prop :=
  p.address = o.address ∧ p.windows = o.windows ∧ p.replyLost = o.replyLost ∧ p.noticeLost = o.noticeLost ∧
  p.badFrames = o.badFrames

/-- Replies and notices joined their queues, in this order, and the settings are unchanged: the frames wait as R175 orders them,
and at most the first of all is begun. -/
def Office.sends (o p : Office) (rs : List Reply) (ns : List Notice) : Prop :=
  p.outgoing =
    o.tx.toList ++ (o.replies ++ rs).map .reply ++ (o.notices ++ ns.map (QueuedNotice.mk o.address)).map .notice ∧
  o.settingsSame p

/-- A command that changes at most the named fields, and of the office port only what it sends: these replies and notices. -/
def Sends (fields : List Field) (s t : State) (rs : List Reply) (ns : List Notice) : Prop :=
  Touches (.office :: fields) s t ∧ s.office.sends t.office rs ns

/-- A command that changes at most the named fields and sends nothing. -/
def Quiet (fields : List Field) (s t : State) : Prop := Sends fields s t [] []

/-- A command that changes at most the named fields and sends one reply. -/
def Replies (fields : List Field) (s t : State) (r : Reply) : Prop := Sends fields s t [r] []

/-- The notice queue has room for n more (R175). -/
def State.noticeRoom (s : State) (n : Nat) : Prop := s.office.notices.length + n ≤ 32

/-- A cause has been taken, as R144 says in CLEAR and as the first part of R146 says otherwise: it opens an incident at the head
of the log, or it joins the open one. -/
def Raises (s t : State) (c : Cause) : Prop :=
  if s.halt.state = .clear then
    t.halt.log =
      { number := s.freeIncidentNumber, state := .unacked, primary := c, secondary := [], more := 0, opened := c.uptime,
        closed := none } :: logWithRoom s.halt.log ∧
    t.halt.line = .asserted ∧ (t.halt.state = .halting ∨ t.halt.state = .halted)
  else
    t.halt.log = s.halt.log.map (fun r => if r.state ≠ .closed then r.addCause c else r) ∧
    (t.halt.state = s.halt.state ∨ s.halt.state ≠ .halted ∧ (t.halt.state = .halting ∨ t.halt.state = .halted))

/-- The notice of a cause that is taken: INCIDENT_OPEN in CLEAR (R144), INCIDENT_CAUSE while an incident is open (R146). -/
def State.causeNotices (s : State) (c : Cause) : List Notice :=
  if s.halt.state = .clear then [.incidentOpen s.freeIncidentNumber c]
  else s.openIncident.toList.map fun r =>
    .incidentCause r.number c (r.addCause c).secondary.length (r.addCause c).more

/-- The cars that a cause names are marked STRUCK, and no other is (R142). -/
def Strikes (s t : State) (c : Cause) : Prop :=
  t.cars.map (fun k => (k.tag, k.flags.struck)) =
    s.cars.map fun k => (k.tag, k.flags.struck || c.tag == some k.tag || c.tag2 == some k.tag)

/-- Car b stands directly behind car a in a list (R28). -/
def Behind (cars : List Car) (a b : Car) : Prop := ∃ before after, cars = before ++ a :: b :: after

/-- The gap between a car and the one behind it is less than the crowd limit (R28). -/
def State.crowds (s : State) (a b : Car) : Prop :=
  ∃ r, a.rear s.belt.count = some r ∧ (r - b.front s.belt.count).toInt < (s.track.crowd : Int)

/-- A reply that finds no place is discarded, which leaves the reply-lost flag and nothing else (R172, R174). -/
def ReplyLost (s t : State) : Prop :=
  t.office.replyLost = true ∧ t.office.outgoing = s.office.outgoing ∧ t.office.noticeLost = s.office.noticeLost ∧
  t.office.badFrames = s.office.badFrames ∧ t.office.windows = s.office.windows ∧ t.office.address = s.office.address ∧
  Touches [.office] s t

/-- What a car record is but for the two service sets and the flag STRUCK, which other blocks change (R17). -/
def Car.core (c : Car) : Car := { c with served := 0, missed := 0, flags := { c.flags with struck := false } }

/-- The age of a class (R169); SAFETY has none. -/
def Ring.ageOf (r : Ring) : RingClass → Nat
  | .safety => 0
  | .motion => r.ageMotion
  | .order => r.ageOrder
  | .pass => r.agePass

/-- The effective priority of a class (R169). -/
def Ring.effective (r : Ring) : RingClass → Nat
  | .safety => 0
  | .motion => max 1 (r.prioMotion - r.ageMotion)
  | .order => max 1 (r.prioOrder - r.ageOrder)
  | .pass => max 1 (r.prioPass - r.agePass)

/-- The order that resolves equal priorities (R169). -/
def RingClass.rank : RingClass → Nat
  | .safety => 0
  | .motion => 1
  | .order => 2
  | .pass => 3

/-- Class c wins the arbiter's choice (R169). -/
def Ring.winner (r : Ring) (c : RingClass) : Prop :=
  r.queueOf c ≠ [] ∧ ∀ d, d ≠ c → r.queueOf d ≠ [] →
    r.effective c < r.effective d ∨ (r.effective c = r.effective d ∧ c.rank < d.rank)

/-! ## Conditions on commands -/

/-- The part is out of reset. -/
def State.live (s : State) : Prop := s.pins.rst = .released

/-- A management request that is handed on: to the office address, from a management source, with a free place for its reply
(R172). -/
def State.accepts (s : State) (h : Head) : Prop :=
  s.live ∧ h.dst = s.office.address ∧ 32 ≤ h.src ∧ h.src ≤ 63 ∧ s.office.replies.length < 8

/-- A terminal's request that is handed on (R172). -/
def State.acceptsTerminal (s : State) (h : Head) (t : Fin 15) : Prop :=
  s.live ∧ h.dst = s.office.address ∧ h.src = t.val + 1 ∧ s.office.replies.length < 8

/-- The reply of a management request. -/
def mgmtReply (s : State) (h : Head) (code : Nat) (result : Result) (data : List Byte) : Reply :=
  { src := s.office.address, dst := h.src, body := .mgmt code result data }

/-- The commands that act while RST is asserted: RST itself, and the level of the OHOLD pin. -/
def actsInReset : Instr → Bool
  | .rstAssert | .rstRelease _ _ | .oholdAssert | .oholdRelease => true
  | _ => false

/-- A command that raises a cause by itself: ESTOP_ASSERT at the RELEASED level (R152), or a HALT that is handed on (R154); the
cause and the reply. -/
def Halts (c : Instr) (s : State) (kind : CauseKind) (replies : List Reply) : Prop :=
  (c = .estopAssert ∧ s.live ∧ s.halt.estop = .released ∧ kind = .estop ∧ replies = []) ∨
  ∃ h, c = .halt h [] ∧ s.accepts h ∧ kind = .manual ∧ replies = [mgmtReply s h 0x14 .ok []]

/-- An EYE frame forms this edge of this eye (R10). -/
def State.edge (s : State) (h : Head) (payload : List Byte) (e : Fin 10) (on : Bool) : Prop :=
  s.live ∧ fromNode h = true ∧
  ∃ input level, eyePayload payload = some (input, level) ∧ matchingEye s.eyes h.src input = some e ∧
    s.eyes[e].readsOn level = on ∧ s.eyes[e].on = !on

/-- A frame from a node with a payload that its kind reads as x, taken out of reset (R163, R164). -/
def State.hears {α : Type} (s : State) (h : Head) (form : List Byte → Option α) (payload : List Byte) (x : α) : Prop :=
  s.live ∧ fromNode h = true ∧ form payload = some x

/-- The order number of a CALL that fails with this command, and the reason (R45). -/
def CallFails (c : Instr) (s : State) (number : Nat) (reason : Reason) : Prop :=
  (∃ h payload, c = .orderAck h payload ∧ s.hears h ackPayload payload .refused ∧ h.order = number ∧
    s.stationAwaitingAck number = none ∧ h.src = s.gate.roller ∧ s.callAwaits number true = true ∧ reason = .refused) ∨
  (c = .rollerAckTimeout ∧ s.live ∧ s.gate.ackTimer.isSome = true ∧ s.gate.call.map (fun r => r.number) = some number ∧
    reason = .timeout) ∨
  ∃ h payload, c = .returnedOrder h payload ∧ s.live ∧ isReturned h = true ∧ orderForm payload = true ∧ h.order = number ∧
    s.stationAwaitingReturn number = none ∧ s.callAwaits number false = true ∧ reason = .returned

/-- The order number of a START that fails with this command, and the reason (R61). -/
def StartFails (c : Instr) (s : State) (number : Nat) (reason : Reason) : Prop :=
  (∃ h payload, c = .orderAck h payload ∧ s.hears h ackPayload payload .refused ∧ h.order = number ∧
    s.stationAwaitingAck number = none ∧ s.callAwaits number true = false ∧ h.src = s.pacer.drive ∧
    s.startAwaits number = true ∧ reason = .refused) ∨
  (c = .startAckTimeout ∧ s.live ∧ s.pacer.startTimer.isSome = true ∧ s.pacer.start.map (fun r => r.number) = some number ∧
    reason = .timeout) ∨
  ∃ h payload, c = .returnedOrder h payload ∧ s.live ∧ isReturned h = true ∧ orderForm payload = true ∧ h.order = number ∧
    s.stationAwaitingReturn number = none ∧ s.callAwaits number false = false ∧ s.startAwaits number = true ∧
    reason = .returned

/-- A command that completes the current order of a station, but for arm reports: a DONE, for an arm one whose position was seen,
or the end of a POSTED order's return window (R104). -/
def OrderCompletes (c : Instr) (s : State) (i : StationId) (o : StationOrder) : Prop :=
  s.seq.stations[i].current = some o ∧
  ((∃ h payload, c = .orderAck h payload ∧ s.hears h ackPayload payload .done ∧ s.stationAwaitingAck h.order = some i ∧
      (s.map.table[i].kind = .arm → o.positionSeen = true)) ∨
    (c = .returnWindowExpiry i.val ∧ s.live ∧ s.seq.stations[i].timer.isSome = true ∧ o.wait = .ret))

/-- A command that fails the current order of a station, and the reason (R105, R106). -/
def OrderFails (c : Instr) (s : State) (i : StationId) (o : StationOrder) (reason : Reason) : Prop :=
  s.seq.stations[i].current = some o ∧
  ((∃ h payload, c = .orderAck h payload ∧ s.hears h ackPayload payload .refused ∧ s.stationAwaitingAck h.order = some i ∧
      reason = .refused) ∨
    (c = .orderAckTimeout i.val ∧ s.live ∧ s.seq.stations[i].timer.isSome = true ∧ o.wait = .ack ∧ reason = .timeout) ∨
    (c = .positionTimeout i.val ∧ s.live ∧ s.seq.stations[i].timer.isSome = true ∧ o.wait = .position ∧
      reason = .position) ∨
    ∃ h payload, c = .returnedOrder h payload ∧ s.live ∧ isReturned h = true ∧ orderForm payload = true ∧
      s.stationAwaitingReturn h.order = some i ∧ reason = .returned)

/-- A command that closes a car of the list, the closing reason and the replies: a taken CAR CLEAR (R36), or an exit off edge
behind the front-most car, LEAVING with its rear at the exit within the drift halt tolerance (R33). -/
def CarCloses (c : Instr) (s : State) (car : Car) (reason : CloseReason) (rs : List Reply) : Prop :=
  (∃ h ops, c = .carClear h ops ∧ s.accepts h ∧ byteOperand ops = some car.tag ∧ carByTag s.cars car.tag = some car ∧
    (s.pacer.state = .stopped ∨ (s.pacer.state = .pointStop ∧ s.pacer.speed = 0) ∨ s.halt.state = .halted) ∧
    reason = .cleared ∧ rs = [mgmtReply s h 0x23 .ok []]) ∨
  ∃ h payload rear, c = .eye h payload ∧ s.edge h payload 2 false ∧ s.cars.head? = some car ∧ car.phase = .leaving ∧
    car.rear s.belt.count = some rear ∧ (s.track.length : Int) - (s.track.driftHalt : Int) ≤ (rear.toNat : Int) ∧
    reason = .exit ∧ rs = []

/-- The Halt Controller after the open incident is closed in the present way (R157, R159). -/
def State.closedLog (s : State) (way : Way) : List Incident :=
  s.halt.log.map fun x =>
    if x.state ≠ .closed then { x with state := .closed, closed := some (s.clock.uptime, way) } else x

/-- The state after a CALL has been issued (R44). -/
def State.called (s : State) : State :=
  { s with
    gate := { s.gate with phase := .calling, call := some { number := s.freeOrderNumber, transmitted := false } }
    seq := { s.seq with nextNumber := nextInSequence 255 s.freeOrderNumber }
    ring := s.ring.push .order (.order s.gate.roller s.freeOrderNumber .call 0) }

/-- Station i, which was engaged with the car of a tag, has been released (R99, R102, R108): it has no car, and its OFF or OUT is
pending behind the order in flight, or else is its order in flight, with a number that was free and a frame on its way. -/
def Released (s t : State) (i : StationId) (tag : Nat) : Prop :=
  (s.seq.stations[i].current.isSome = true →
    t.seq.stations[i] = { s.seq.stations[i] with
      car := none
      phase := if s.map.table[i].kind = .posted then .idle else .releasing
      queued := some (if s.map.table[i].kind = .arm then .out else .off) }) ∧
  (s.seq.stations[i].current = none → ∃ number, s.orderNumberHeld number = false ∧
    t.seq.stations[i] = { s.seq.stations[i] with
      car := none
      phase := if s.map.table[i].kind = .posted then .idle else .releasing
      current := some {
        action := if s.map.table[i].kind = .arm then .out else .off
        number := some number
        car := some tag
        transmitted := false
        wait := if s.map.table[i].kind = .posted then .ret else .ack
        positionSeen := false } } ∧
    RingFrame.order s.map.aliases[i] number (if s.map.table[i].kind = .arm then .out else .off) i.val ∈
      t.ring.tx.toList ++ t.ring.order)

/-- The sum of the weights of a station set (R135). -/
def State.weight (s : State) (x : StationSet) : Nat :=
  ((List.finRange 32).map fun i => if x.getLsbD i.val then s.map.table[i].weight else 0).sum

/-- The tally row of a close (R137). -/
def TallyRow.closed (r : TallyRow) (amount credit : Nat) : TallyRow :=
  { r with
    washes := min 4294967295 (r.washes + 1)
    gross := min 4294967295 (r.gross + amount)
    credit := min 4294967295 (r.credit + credit) }

/-- The record of a car at the hand-over of its close, where x holds the stations that serve it to the end (R35, R108). -/
def Car.settled (c : Car) (x : StationSet) : Car :=
  { c with served := c.served ||| x, missed := c.missed ||| (c.activity &&& ~~~(c.served ||| x)) }

/-- Outcome and credit of a settled record by its closing reason (R134, R135). -/
def State.settlement (s : State) (c : Car) (reason : CloseReason) : WashOutcome × Nat :=
  if c.flags.foreign = true then (.foreign, 0)
  else if c.flags.struck = true then (.struck, (c.sale.map fun x => x.amount).getD 0)
  else match c.sale with
    | none => (.unsold, 0)
    | some x =>
      match reason with
      | .cleared | .tunnelReset => (.cleared, x.amount)
      | .lost => (.lost, x.amount * s.weight (c.activity &&& ~~~c.served) / s.weight c.activity)
      | .exit => if c.missed = 0 then (.full, 0) else (.partly, x.amount * s.weight c.missed / s.weight c.activity)

/-- The WASH_CLOSE notice of a settled record (R136). -/
def washCloseOf (c : Car) (x : WashOutcome × Nat) : Notice :=
  .washClose c.tag ((c.sale.map fun y => y.number).getD 0) ((c.sale.map fun y => y.terminal).getD 0) c.plan.val
    ((c.sale.map fun y => y.amount).getD 0) x.2 x.1 c.served c.missed

/-- A car of the list has been closed (R35): the stations that served it are released and the others are as they were, its
services are settled, it has left the list, its plan's tally row counts it, WASH_CLOSE is sent, and a READY gate calls the next
car if it may. -/
def Closed (s t : State) (car : Car) (reason : CloseReason) (rs : List Reply) : Prop :=
  ∃ (x : StationSet) (c : Car),
    (∀ i : StationId, x.getLsbD i.val = (reason == .exit && s.seq.stations[i].car == some car.tag &&
      s.seq.stations[i].phase == .engaged && car.unsettled i)) ∧
    c = car.settled x ∧
    t.cars = s.cars.filter (fun k => k.tag != car.tag) ∧
    t.tallies = s.tallies.set car.plan
      (s.tallies[car.plan].closed ((car.sale.map fun y => y.amount).getD 0) (s.settlement c reason).2) ∧
    (∀ i : StationId, (s.seq.stations[i].car = some car.tag → Released s t i car.tag) ∧
      (s.seq.stations[i].car ≠ some car.tag → t.seq.stations[i] = s.seq.stations[i])) ∧
    (s.gate.phase ≠ .ready ∨ ({ s with cars := t.cars } : State).admissible = false → t.gate = s.gate) ∧
    (s.gate.phase = .ready → ({ s with cars := t.cars } : State).admissible = true → ∃ number, s.orderNumberHeld number = false ∧
      t.gate = { s.gate with phase := .calling, call := some { number := number, transmitted := false } } ∧
      RingFrame.order s.gate.roller number .call 0 ∈ t.ring.tx.toList ++ t.ring.order) ∧
    Sends [.eyes, .cars, .tallies, .seq, .gate, .ring] s t rs [washCloseOf c (s.settlement c reason)]

/-- The Ring Port after a periodic broadcast of the state it is asked for (R167). -/
def Ring.afterPeriodic (r : Ring) (h : HaltState) : Ring :=
  ({ r with releasePending := false, nextStamp := r.nextStamp + 1 } : Ring).push .safety (.broadcast
    (if r.releasePending = true then .release else if h = .halting ∨ h = .halted then .allStop else .ringCheck) r.nextStamp)

/-- The values of every block at power-on and after RST but for the HALT line, the pins and the first broadcast (R8, R15, R38,
R39, R54, R81, R93, R115, R132, R141, R161, R176). -/
structure PoweredOn (t : State) : Prop where
  uptime : t.clock.uptime = 0
  belt : t.belt.count = 0 ∧ t.belt.lastRaw = none ∧ t.belt.encoder = 0
  eyes : ∀ e : Fin 10, t.eyes[e] =
    { enabled := false, node := 1, input := 0, polarity := .activeHigh, position := 0, reliable := true, on := false }
  track : t.track =
    { length := 0, merge := 150, minObject := 400, maxCar := 3000, crowd := 200, driftAdjust := 25, driftHalt := 150,
      expiry := 1500 }
  cars : t.cars = [] ∧ t.nextTag = 1
  gate : t.gate =
    { isOpen := false, phase := .closed, lastCall := none, prevRear := none, call := none, ackTimer := none, roller := 0,
      pitch := 2500, gap := 600, reach := 1500, admitUnsold := false }
  pacer : t.pacer =
    { state := .stopped, speed := 0, runSpeed := 0, target := 0, commanded := 0, acc := 0, resume := false,
      pointStop := none, start := none, startTimer := none, profileTimer := none, lastSent := 0, refresh := 0, drive := 0,
      freeze := false, report := none, watch := .idle, stopTimer := none, accel := 16, dec := 32, decHard := 120,
      slip := 100, overrun := 100, margin := 300, approach := 1200 }
  timing : t.timing =
    { encoderSilence := 100, orderAck := 40, driveStart := 200, driveStop := 3000, quoteHold := 120, ringCheck := 25,
      ringTimeout := 20 }
  table : ∀ i : StationId, t.map.table[i] =
    { kind := .posted, windowStart := 0, windowEnd := 0, front := 0, rear := 0, travel := 0, busy := 2000, load := 255,
      cap := 0, weight := 0 }
  aliases : ∀ i : StationId, t.map.aliases[i] = 0
  stations : ∀ i : StationId, t.seq.stations[i] =
    { phase := .idle, car := none, current := none, queued := none, timer := none, position := .unknown, load := 0 }
  orders : t.seq.nextNumber = 1
  plans : ∀ k : Fin 16, t.book.plans[k] = { state := .absent, price := 0, stations := 0, essential := 0, allow := 0 }
  options : ∀ k : Fin 8, t.book.options[k] = { price := 0, added := 0 }
  codes : ∀ k : Fin 8, t.book.codes[k] =
    { enabled := false, base := 0, mask := 0, plan := 1, discount := 0, grant := false }
  sales : (∀ k : Fin 15, t.book.quotes[k] = none) ∧ t.book.queue = [] ∧ t.book.nextNumber = 1
  tallies : ∀ k : Fin 16, t.tallies[k] = { washes := 0, gross := 0, credit := 0, voids := 0, voidAmount := 0 }
  halt : t.halt.state = .clear ∧ t.halt.log = [] ∧ t.halt.nextNumber = 1
  ring : t.ring.state = .down ∧ t.ring.outstanding = none ∧ t.ring.releasePending = false ∧ t.ring.safety = [] ∧
    t.ring.motion = [] ∧ t.ring.order = [] ∧ t.ring.pass = [] ∧ t.ring.ageMotion = 0 ∧ t.ring.ageOrder = 0 ∧
    t.ring.agePass = 0 ∧ t.ring.prioMotion = 2 ∧ t.ring.prioOrder = 3 ∧ t.ring.prioPass = 8 ∧ t.ring.badFrames = 0
  windows : ∀ k : Fin 4, t.office.windows[k] = { enabled := false, base := 0, mask := 0, mode := .idleOnly }
  office : t.office.replies = [] ∧ t.office.notices = [] ∧ t.office.tx = none ∧ t.office.replyLost = false ∧
    t.office.noticeLost = false ∧ t.office.badFrames = 0

/-! ## Laws of the device -/

/-- An incident is open (R149). -/
def Incident.isOpen (r : Incident) : Bool := r.state != .closed

/-- A station that serves no car and is sent nowhere but to its rest (R111). -/
def Station.quiet (st : Station) : Bool :=
  st.phase != .engaging && st.phase != .engaged && st.car.isNone && st.queued.isNone &&
  st.current.all fun o => !o.action.begins

/-- What holds while the halt state is not CLEAR: the first three conditions of R148, and what keeps them: no profile interval
runs, no station has a car or a pending order, and the pacer is HALTED, or STARTING in RESTARTING. -/
def State.atRest (s : State) : Bool :=
  s.pacer.speed == 0 && s.pacer.profileTimer.isNone && s.gate.phase != .calling && s.gate.phase != .rolling &&
  (stationIds.all fun i => s.seq.stations[i].quiet) &&
  s.pacer.state == (if s.halt.state = .restarting then .starting else .halted)

/-- R148. -/
def State.haltLaw (s : State) : Prop :=
  if s.halt.state = .clear then (s.halt.log.filter Incident.isOpen).length = 0
  else (s.halt.log.filter Incident.isOpen).length = 1 ∧ s.atRest = true

/-- What R55, R59, R60, R61 and R75 make of the start record and its timer: the record is there in STARTING alone, and the timer
runs with a record alone. -/
def State.startLaw (s : State) : Prop :=
  (s.pacer.state ≠ .starting → s.pacer.start = none) ∧ (s.pacer.start = none → s.pacer.startTimer = none)

/-- R150: the log is ordered newest first, so that no record but the first is open. -/
def State.newestFirst (s : State) : Prop := ∀ r ∈ s.halt.log.tail, r.state = .closed

/-- R150 and R151: at most 8 records, at most one open, at most 4 secondary causes each, distinct numbers of 1..255. -/
def State.logLaw (s : State) : Prop :=
  s.halt.log.length ≤ 8 ∧
  (∀ r ∈ s.halt.log, r.secondary.length ≤ 4 ∧ r.more ≤ 255 ∧ 1 ≤ r.number ∧ r.number ≤ 255) ∧
  (s.halt.log.map fun r => r.number).Nodup ∧
  1 ≤ s.halt.nextNumber ∧ s.halt.nextNumber ≤ 255

/-- R16, R18 and R19: at most 16 records with distinct tags of 1..255; every record but the last has a length, and a car that is
ENTERING has none. -/
def State.listLaw (s : State) : Prop :=
  s.cars.length ≤ 16 ∧
  (s.cars.map fun c => c.tag).Nodup ∧
  (∀ c ∈ s.cars, 1 ≤ c.tag ∧ c.tag ≤ 255 ∧ (c.phase = .entering → c.length = none)) ∧
  (∀ c ∈ s.cars.dropLast, c.length.isSome = true) ∧
  1 ≤ s.nextTag ∧ s.nextTag ≤ 255

/-- The first law of R96 for one record. -/
def Car.setsLaw (c : Car) : Prop := c.served &&& c.missed = 0 ∧ (c.served ||| c.missed) &&& ~~~c.activity = 0

/-- The first law of R96. -/
def State.setsLaw (s : State) : Prop := ∀ c ∈ s.cars, c.setsLaw

/-- The second law of R96, with what keeps it: a station with a car is ENGAGING, ENGAGED or RELEASING. -/
def State.engagedLaw (s : State) : Prop :=
  ∀ i : StationId, ∀ tag, s.seq.stations[i].car = some tag →
    s.seq.stations[i].phase ≠ .idle ∧ s.seq.stations[i].phase ≠ .fault ∧
    ∃ c ∈ s.cars, c.tag = tag ∧ c.unsettled i = true

/-- R137: in every tally row, credit is at most gross, and each total is a 32-bit number. -/
def TallyRow.law (r : TallyRow) : Prop :=
  r.credit ≤ r.gross ∧ r.washes ≤ 4294967295 ∧ r.gross ≤ 4294967295 ∧ r.voids ≤ 4294967295 ∧ r.voidAmount ≤ 4294967295

/-- R137, for every row. -/
def State.tallyLaw (s : State) : Prop := ∀ p : Fin 16, s.tallies[p].law

/-- R125: the sale queue with the reserve never exceeds 24. -/
def State.roomLaw (s : State) : Prop := s.book.queue.length + s.reserve ≤ 24

/-- The sale numbers of open quotes, of the sale queue and of the cars, in this order (R123). -/
def State.saleNumbers (s : State) : List Nat :=
  (s.book.quotes.toList.filterMap fun q => q.map fun x => x.number) ++ (s.book.queue.map fun q => q.sale.number) ++
  s.cars.filterMap fun c => c.sale.map fun x => x.number

/-- R123 and R127: no sale number is held twice, and all are numbers of 1..65535, as is the next one. -/
def State.saleLaw (s : State) : Prop :=
  s.saleNumbers.Nodup ∧ (∀ n ∈ s.saleNumbers, 1 ≤ n ∧ n ≤ 65535) ∧ 1 ≤ s.book.nextNumber ∧ s.book.nextNumber ≤ 65535

/-- The order target of a frame: a station, or the roller (32) or the drive (33), which no station number names (R102). -/
def RingFrame.target : RingFrame → Nat
  | .order _ _ .call _ => 32
  | .order _ _ .start _ => 33
  | .order _ _ _ station => station
  | _ => 34

/-- A frame of the ORDER queue is that of its target's order in flight, which has not been transmitted (R102). -/
def State.owns (s : State) : RingFrame → Prop
  | .order _ number .call _ => s.gate.call = some { number := number, transmitted := false }
  | .order _ number .start _ => s.pacer.start = some { number := number, transmitted := false }
  | .order _ number action station => ∃ i : StationId, i.val = station ∧ ∃ o, s.seq.stations[i].current = some o ∧
      o.number = some number ∧ o.action = action ∧ o.transmitted = false
  | _ => False

/-- R102: each order target has at most one frame in the ORDER queue, which is that of its order in flight, and so the queue holds
at most 34; with what keeps it: an order timer runs with a transmitted order alone, and the gate has a call in CALLING and
ROLLING alone, in ROLLING a transmitted one. -/
def State.orderLaw (s : State) : Prop :=
  (∀ f ∈ s.ring.order, s.owns f) ∧ (s.ring.order.map RingFrame.target).Nodup ∧ s.ring.order.length ≤ 34 ∧
  (∀ i : StationId, s.seq.stations[i].timer.isSome = true → ∃ o, s.seq.stations[i].current = some o ∧ o.transmitted = true) ∧
  (s.gate.ackTimer.isSome = true → ∃ r, s.gate.call = some r ∧ r.transmitted = true) ∧
  (s.pacer.startTimer.isSome = true → ∃ r, s.pacer.start = some r ∧ r.transmitted = true) ∧
  (s.gate.call.isSome = true → s.gate.phase = .calling ∨ s.gate.phase = .rolling) ∧
  (∀ r, s.gate.phase = .rolling → s.gate.call = some r → r.transmitted = true)

/-- What the ring itself rules out: a frame still in the ORDER queue has not the number of the frame in the transmitter, whose
number would have come round again while it is sent (R95), and is not the frame that the next command returns. -/
def State.frameNumbersApart (s : State) : Prop :=
  ∀ dst number action station, RingFrame.order dst number action station ∈ s.ring.order →
    (∀ d a k, s.ring.tx ≠ some (.order d number a k)) ∧
    ∀ h payload, s.pending.head? = some (.returnedOrder h payload) → h.order ≠ number

/-- The ranges of R55 for the pacer's numbers. -/
def Pacer.speedLaw (p : Pacer) : Prop :=
  p.speed ≤ 4800 ∧ (p.runSpeed = 0 ∨ 160 ≤ p.runSpeed) ∧ p.runSpeed ≤ 4800 ∧ p.target ≤ 4800 ∧ p.acc < 800 ∧
  p.lastSent ≤ 4800 ∧ p.refresh ≤ 9

/-- A frame of its class (R169, R170). -/
def RingFrame.fits : RingClass → RingFrame → Bool
  | .safety, .broadcast .. | .safety, .brake _ | .motion, .setpoint .. | .order, .order .. | .pass, .maint .. => true
  | _, _ => false

/-- R170: each queue holds frames of its class, SAFETY at most one BRAKE and one broadcast, MOTION at most two, PASS at most
eight; with the ages of R169 and the count of R163. -/
def Ring.law (r : Ring) : Prop :=
  (∀ c, ∀ f ∈ r.queueOf c, f.fits c = true) ∧
  (r.safety.filter RingFrame.isBroadcast).length ≤ 1 ∧ (r.safety.filter RingFrame.isBrake).length ≤ 1 ∧
  r.motion.length ≤ 2 ∧ r.pass.length ≤ 8 ∧
  r.ageMotion ≤ 15 ∧ r.ageOrder ≤ 15 ∧ r.agePass ≤ 15 ∧ r.badFrames ≤ 65535

/-- R163 and R175 for the office port: at most 8 replies and 32 notices wait, and the count saturates. -/
def Office.law (o : Office) : Prop := o.replies.length ≤ 8 ∧ o.notices.length ≤ 32 ∧ o.badFrames ≤ 65535

/-- A safe state: every law of the device holds. -/
structure State.Safe (s : State) : Prop where
  halt : s.haltLaw
  start : s.startLaw
  newest : s.newestFirst
  log : s.logLaw
  list : s.listLaw
  sets : s.setsLaw
  engaged : s.engagedLaw
  tally : s.tallyLaw
  room : s.roomLaw
  sales : s.saleLaw
  orders : s.orderLaw
  speed : s.pacer.speedLaw
  ring : s.ring.law
  office : s.office.law

end Sys2Proof.Machine
end

