-- ==== Sys2Proof/Certificates/Slice0/Obligations.lean ====
section
/-! DEFINITION. The statements, in the order of OBLIGATIONS.json. `exec c s = .next t` says that command c, taken in state s, is
taken whole and leaves state t. -/

open Sys2Proof Sys2Proof.Machine

/-! ## The machine -/

/-- The step takes the command at the front of the queue. -/
def Obligations.StepTakesTheFrontCommand : Prop :=
  ∀ (c : Instr) (rest : List Instr) (s : State), s.pending = c :: rest → step s = exec c (s.onPending fun _ => rest)

/-- The model's choice of log 1: while no command waits and no timer stands at 0, a millisecond passes; a single timer that
stands at 0 has its expiry queued. -/
def Obligations.IdleStepPassesTime : Prop :=
  ∀ s : State, s.live → s.pending = [] →
    (s.dueExpiries = [] → ∃ t, step s = .next t ∧
      t.clock.uptime = s.clock.uptime + 1 ∧
      t.belt = { s.belt with silence := s.belt.silence.map (· - 1) } ∧
      t.gate = { s.gate with ackTimer := s.gate.ackTimer.map (· - 1) } ∧
      t.pacer = { s.pacer with
        startTimer := s.pacer.startTimer.map (· - 1)
        profileTimer := s.pacer.profileTimer.map (· - 1)
        stopTimer := s.pacer.stopTimer.map (· - 1) } ∧
      (∀ i : StationId, t.seq.stations[i] = { s.seq.stations[i] with timer := s.seq.stations[i].timer.map (· - 1) }) ∧
      (∀ k : Fin 15, t.book.quotes[k] = s.book.quotes[k].map fun q => { q with hold := q.hold - 1 }) ∧
      t.seq.nextNumber = s.seq.nextNumber ∧ t.book.queue = s.book.queue ∧ t.book.plans = s.book.plans ∧
      t.book.options = s.book.options ∧ t.book.codes = s.book.codes ∧ t.book.nextNumber = s.book.nextNumber ∧
      t.ring = { s.ring with checkTimer := s.ring.checkTimer.map (· - 1), timeout := s.ring.timeout.map (· - 1) } ∧
      Touches [.uptime, .belt, .gate, .pacer, .seq, .book, .ring] s t) ∧
    (∀ c, s.dueExpiries = [c] → ∃ t, step s = .next t ∧ t.pending = [c] ∧
      t.clock.choices = s.clock.choices + 1 ∧ Touches [.pending, .choices] s t)

/-- Every command is taken in every state, and none touches the queue of the others. While RST is asserted only RST itself and
the level of OHOLD are taken note of. That nothing else acts while RST is asserted is the model's reading (log 13). -/
def Obligations.EveryCommandCompletes : Prop :=
  ∀ (c : Instr) (s : State), ∃ t, exec c s = .next t ∧ t.pending = s.pending ∧
    (s.pins.rst = .asserted → actsInReset c = false → t = s)

/-! ## Pins and RST -/

/-- RST_ASSERT, and RST_RELEASE with the ESTOP pin released, leave every block at its power-on state: with the HALT line
asserted and both links idle while RST is held, and with the HALT line released, the silence timer started, the address from
the straps and a RING_CHECK with stamp 0 begun at the release. RST_RELEASE with the ESTOP pin asserted starts the part halted,
in incident 1, and its first broadcast is an ALL_STOP. That the straps read 0 while RST is held and that RST_RELEASE acts from
every state are the model's choice (log 12), and so is the level of OHOLD kept over RST (log 36). -/
def Obligations.ResetLeavesPowerOnValues : Prop :=
  (∀ (s : State) (straps : BitVec 3),
    (∃ t, exec .rstAssert s = .next t ∧ PoweredOn t ∧ t.pins = { rst := .asserted, straps := 0, ohold := s.pins.ohold } ∧
      t.halt.line = .asserted ∧ t.ring.tx = none ∧ t.pending = s.pending) ∧
    (∃ t, exec (.rstRelease straps .released) s = .next t ∧ PoweredOn t ∧
      t.pins = { rst := .released, straps := straps, ohold := s.pins.ohold } ∧
      t.halt.line = .released ∧ t.halt.estop = .released ∧ t.belt.silence = some 100 ∧
      t.office.address = 96 + straps.toNat ∧ t.ring.tx = some (.broadcast .ringCheck 0) ∧ t.ring.nextStamp = 1 ∧
      t.pending = s.pending)) ∧
  (∀ (s : State) (straps : BitVec 3), ∃ t, exec (.rstRelease straps .asserted) s = .next t ∧
    t.halt =
      { state := .halted, nextNumber := 2, estop := .asserted, line := .asserted
        log := [{ number := 1, state := .unacked, primary := { kind := .estop, belt := 0, uptime := 0 }, secondary := [],
                  more := 0, opened := 0, closed := none }] } ∧
    t.ring.tx = some (.broadcast .allStop 0) ∧ t.ring.nextStamp = 1 ∧ t.ring.state = .down ∧
    t.pacer.state = .halted ∧ t.pacer.resume = false ∧ t.pacer.speed = 0 ∧ t.pacer.watch = .met ∧
    (∀ i : StationId, t.seq.stations[i] = {}) ∧ t.cars = [] ∧ t.gate = {} ∧ t.belt.count = 0 ∧
    t.office.address = 96 + straps.toNat ∧
    t.office.outgoing = [.notice { src := 96 + straps.toNat
                                   notice := .incidentOpen 1 { kind := .estop, belt := 0, uptime := 0 } }])

/-- ESTOP_RELEASE, and an ESTOP_ASSERT that finds the level ASSERTED already, raise nothing and send nothing. OHOLD changes its
own level alone, and at its release the head of the reply queue, or else of the notice queue, is begun. No command begins a
frame while OHOLD is asserted, and every command but RST begins one while it is released, no frame is being sent and one waits.
The level of OHOLD is followed while RST is asserted too (the model's choice, log 13). -/
def Obligations.QuietPins : Prop :=
  ∀ s : State,
    (s.live → ∃ t, exec .estopRelease s = .next t ∧ t.halt = { s.halt with estop := .released } ∧ Quiet [.halt] s t) ∧
    (s.live → s.halt.estop = .asserted → ∃ t, exec .estopAssert s = .next t ∧ Quiet [] s t) ∧
    (∃ t, exec .oholdAssert s = .next t ∧ t.pins = { s.pins with ohold := .asserted } ∧ Touches [.pins] s t) ∧
    (∃ t, exec .oholdRelease s = .next t ∧ t.pins = { s.pins with ohold := .released } ∧ Quiet [.pins] s t ∧
      (s.office.tx = none → t.office.tx = s.office.outgoing.head?)) ∧
    (∀ c : Instr, s.office.tx = none → ∃ t, exec c s = .next t ∧
      (s.pins.ohold = .asserted → t.pins.ohold = .asserted → t.office.tx = none) ∧
      (s.live → t.live → t.pins.ohold = .released → t.office.tx = none → t.office.outgoing = []))

/-! ## Halts (R142, R144 to R147, R152, R154) -/

/-- ESTOP_ASSERT and HALT in CLEAR open an incident. Its number is chosen while the oldest record of a full log is still held (the
model's reading, log 25). -/
def Obligations.HaltOpensAnIncident : Prop :=
  ∀ (c : Instr) (s : State) (k : CauseKind) (rs : List Reply), Halts c s k rs → s.halt.state = .clear → s.noticeRoom 1 →
    ∃ t, exec c s = .next t ∧
      t.halt.log =
        { number := s.freeIncidentNumber, state := .unacked, more := 0, secondary := [], opened := s.clock.uptime,
          primary := { kind := k, belt := s.belt.count, uptime := s.clock.uptime }, closed := none } ::
          logWithRoom s.halt.log ∧
      t.halt.nextNumber = nextInSequence 255 s.freeIncidentNumber ∧
      t.halt.line = .asserted ∧
      t.halt.state = (if t.settled = true ∧ t.pacer.watch = .met then .halted else .halting) ∧
      t.halt.estop = (if k = .estop then .asserted else s.halt.estop) ∧
      Sends [.cars, .pacer, .seq, .gate, .ring, .halt] s t rs
        [.incidentOpen s.freeIncidentNumber { kind := k, belt := s.belt.count, uptime := s.clock.uptime }]

/-- The halt actions, taken by ESTOP_ASSERT and HALT in CLEAR and in RESTARTING. The belt is stopped, no order and no speed
remains queued, ALL_STOP and BRAKE are asked for, and a call in flight is abandoned. Every station order and every engagement
is gone, and every ARM station with a node, unless it is in FAULT, waits for its arm to report OUT. Every engaged service is
missed, and nothing else of any car changes. The Ring Port's part comes first (the model's reading, log 7).
The release-pending flag is cleared also where an ALL_STOP is queued already (log 34), and the resume flag of a pacer found
HALTED is kept (log 30). -/
def Obligations.HaltActionsAreTaken : Prop :=
  (∀ (c : Instr) (s : State) (k : CauseKind) (rs : List Reply), Halts c s k rs →
    s.halt.state = .clear ∨ s.halt.state = .restarting →
    ∃ t, exec c s = .next t ∧
      t.pacer =
        { s.pacer with
          state := .halted
          resume := if s.pacer.state = .starting ∨ s.pacer.state = .running ∨ s.pacer.state = .pointStop then true
            else if s.pacer.state = .stopped ∨ s.pacer.state = .stopping then false
            else s.pacer.resume
          start := none
          startTimer := none
          speed := 0
          pointStop := none
          profileTimer := none
          lastSent := 0
          refresh := 0
          watch := if s.pacer.drive = 0 then .met else .watching
          stopTimer := if s.pacer.drive = 0 then none else some s.timing.driveStop } ∧
      t.ring.order = [] ∧ t.ring.motion = [] ∧ t.ring.releasePending = false ∧
      (t.ring.tx.toList ++ t.ring.safety).any RingFrame.isAllStop = true ∧
      (s.pacer.drive ≠ 0 → (t.ring.tx.toList ++ t.ring.safety).any RingFrame.isBrake = true) ∧
      t.gate =
        (if s.gate.phase = .calling ∨ s.gate.phase = .rolling then
          { s.gate with call := none, ackTimer := none, phase := s.gateRest }
        else s.gate)) ∧
  (∀ (c : Instr) (s : State) (k : CauseKind) (rs : List Reply), Halts c s k rs →
    s.halt.state = .clear ∨ s.halt.state = .restarting →
    ∃ t, exec c s = .next t ∧ ∀ i : StationId, t.seq.stations[i] =
      (if s.seq.stations[i].phase = .fault then
        { s.seq.stations[i] with car := none, queued := none, current := none, timer := none }
      else if s.map.table[i].kind ≠ .arm ∨ s.map.aliases[i] = 0 then
        { s.seq.stations[i] with car := none, queued := none, current := none, timer := none, phase := .idle }
      else
        { s.seq.stations[i] with
          car := none
          queued := none
          phase := .releasing
          timer := some s.map.table[i].busy
          current := some { action := .out, number := none, car := s.seq.stations[i].car, transmitted := true,
                            wait := .position, positionSeen := false } })) ∧
  (∀ (c : Instr) (s : State) (k : CauseKind) (rs : List Reply), Halts c s k rs →
    s.halt.state = .clear ∨ s.halt.state = .restarting →
    ∃ (t : State) (dropped : Car → StationSet), exec c s = .next t ∧
      (∀ (x : Car) (i : StationId), (dropped x).getLsbD i.val = (s.seq.stations[i].car == some x.tag && x.activity.getLsbD i.val &&
        !x.served.getLsbD i.val && !x.missed.getLsbD i.val)) ∧
      t.cars = s.cars.map fun x => { x with missed := x.missed ||| dropped x })

/-- ESTOP_ASSERT and HALT while an incident is open add a secondary cause: kept while fewer than 4 are held, counted up to 255
otherwise. The incident is UNACKED again, and INCIDENT_CAUSE carries the counts that result. In HALTING and HALTED nothing else
changes but the level of ESTOP; in RESTARTING the tunnel is halted again. -/
def Obligations.SecondaryCauseJoinsTheIncident : Prop :=
  ∀ (c : Instr) (s : State) (k : CauseKind) (rs : List Reply) (r : Incident) (cause : Cause) (sent : Notice),
    Halts c s k rs → s.halt.state ≠ .clear → s.openIncident = some r → s.noticeRoom 1 →
    cause = { kind := k, belt := s.belt.count, uptime := s.clock.uptime } →
    sent = .incidentCause r.number cause (if r.secondary.length < 4 then r.secondary.length + 1 else r.secondary.length)
      (if r.secondary.length < 4 then r.more else min 255 (r.more + 1)) →
    ∃ t, exec c s = .next t ∧
      t.halt.log = s.halt.log.map (fun x =>
        if x.state = .closed then x
        else if x.secondary.length < 4 then { x with secondary := x.secondary ++ [cause], state := .unacked }
        else { x with more := min 255 (x.more + 1), state := .unacked }) ∧
      t.halt.nextNumber = s.halt.nextNumber ∧
      t.halt.estop = (if k = .estop then .asserted else s.halt.estop) ∧
      (s.halt.state ≠ .restarting → t.halt.state = s.halt.state ∧ t.halt.line = s.halt.line ∧ Sends [.halt] s t rs [sent]) ∧
      (s.halt.state = .restarting → t.halt.line = .asserted ∧
        t.halt.state = (if t.settled = true ∧ t.pacer.watch = .met then .halted else .halting) ∧
        Sends [.cars, .pacer, .seq, .gate, .ring, .halt] s t rs [sent])

/-! ## Encoder samples (R2 to R4) -/

/-- An ENC frame of another source or another form has no effect. A first sample, and one that repeats the last, move nothing.
An implausible sample raises ENCODER and leaves the belt count; the next sample is measured from it. -/
def Obligations.SamplesWithoutMovement : Prop :=
  (∀ (s : State) (h : Head) (payload : List Byte), s.live →
    (fromNode h = false ∨ encPayload payload = none ∨ s.belt.encoder = 0 ∨ h.src ≠ s.belt.encoder →
      ∃ t, exec (.enc h payload) s = .next t ∧ Quiet [] s t) ∧
    (∀ r, s.hears h encPayload payload r → h.src = s.belt.encoder → s.belt.lastRaw = none ∨ s.belt.lastRaw = some r →
      ∃ t, exec (.enc h payload) s = .next t ∧
        t.belt = { s.belt with lastRaw := some r, silence := some s.timing.encoderSilence } ∧ Quiet [.belt] s t)) ∧
  (∀ (s : State) (h : Head) (payload : List Byte) (r last : BitVec 16),
    s.hears h encPayload payload r → h.src = s.belt.encoder → s.belt.lastRaw = some last → 4096 ≤ (r - last).toNat →
    s.noticeRoom 1 →
    ∃ t, exec (.enc h payload) s = .next t ∧
      t.belt = { s.belt with lastRaw := some r, silence := some s.timing.encoderSilence } ∧
      Raises s t { kind := .encoder, belt := s.belt.count, uptime := s.clock.uptime } ∧
      Sends [.belt, .cars, .pacer, .seq, .gate, .ring, .halt] s t []
        (s.causeNotices { kind := .encoder, belt := s.belt.count, uptime := s.clock.uptime }))

/-- A plausible sample moves the belt count by the delta, and the Car Track, the Station Sequencer, the Entry Gate and the Belt
Pacer take the advance in one of the orders the rules leave open (log 3), the Car Track always before the Station Sequencer. The Car
Track's part is its four tests in their order, which EntryFrontMakesACar, TrackingEyeReanchors and CarsClose state; the
sequencer's part is stated by StationTriggersAreTaken and the gate's by CallEnds. The pacer's part begins a point stop in
RUNNING while the exit is blocked, and does nothing else. What the four blocks send is all that is sent. -/
def Obligations.PlausibleSampleAdvances : Prop :=
  (∀ (s : State) (h : Head) (payload : List Byte) (r last : BitVec 16),
    s.hears h encPayload payload r → h.src = s.belt.encoder → s.belt.lastRaw = some last →
    1 ≤ (r - last).toNat → (r - last).toNat ≤ 4095 →
    ∃ t, exec (.enc h payload) s = .next t ∧
      t.belt =
        { s.belt with
          count := s.belt.count + BitVec.ofNat 32 (r - last).toNat
          lastRaw := some r
          silence := some s.timing.encoderSilence } ∧
      (∃ o : AdvanceOrder,
        Quiet [] (((s.onBelt fun _ => t.belt).advanceIn o).onClock fun c => { c with choices := s.clock.choices + 1 }) t) ∧
      Touches [.belt, .choices, .eyes, .cars, .gate, .pacer, .seq, .book, .tallies, .halt, .ring, .office] s t) ∧
  (∀ o : AdvanceOrder, ∃ before between after : List Block, (before ++ between ++ after).Perm [.gate, .pacer] ∧
    ∀ s : State, s.advanceIn o =
      (before ++ [Block.track] ++ between ++ [Block.sequencer] ++ after).foldl State.blockAdvance s) ∧
  (∀ s : State, ∃ u v, u = s.confirmRear.oversizeTest ∧
    v = (u.cars.map fun k => k.tag).foldl (fun x tag => x.missTest tag 6) u ∧
    s.blockAdvance .track = (v.cars.map fun k => k.tag).foldl State.expiryTest v) ∧
  (∀ s : State,
    (∀ c, s.pacer.state = .running → s.eyes[(3 : Fin 10)].on = true → leadCar s.cars = some c →
      s.stopPoint - (s.pacer.approach : Int) ≤ ((c.front s.belt.count).toNat : Int) →
      s.blockAdvance .pacer = { s with pacer := { s.pacer with
        state := .pointStop
        pointStop := some {
          decel := if s.remaining c < (rampDistance s.pacer.speed s.pacer.dec : Int) then .decHard else .dec
          latched := false } } }) ∧
    (s.pacer.state ≠ .running ∨ s.eyes[(3 : Fin 10)].on = false ∨ leadCar s.cars = none ∨
        (∃ c, leadCar s.cars = some c ∧
          ((c.front s.belt.count).toNat : Int) < s.stopPoint - (s.pacer.approach : Int)) →
      s.blockAdvance .pacer = s))

/-! ## Eye reports (R10, R12, R20 to R23, R29, R30, R32, R41, R71, R74) -/

/-- An EYE frame that matches no enabled entry, or reads as the eye stands, has no effect. An off edge of a tracking eye, and
any edge of an unreliable one, changes the eye's state alone. The edges of the entry eye while a car enters: an off edge sets
its tentative rear, an on edge clears it, and either is discarded otherwise. -/
def Obligations.EdgesThatRaiseNothing : Prop :=
  (∀ (s : State) (h : Head) (payload : List Byte), s.live →
    (fromNode h = false ∨ eyePayload payload = none → ∃ t, exec (.eye h payload) s = .next t ∧ Quiet [] s t) ∧
    (∀ r, s.hears h eyePayload payload r → matchingEye s.eyes h.src r.1 = none →
      ∃ t, exec (.eye h payload) s = .next t ∧ Quiet [] s t) ∧
    (∀ r (e : Fin 10), s.hears h eyePayload payload r → matchingEye s.eyes h.src r.1 = some e →
      s.eyes[e].readsOn r.2 = s.eyes[e].on → ∃ t, exec (.eye h payload) s = .next t ∧ Quiet [] s t) ∧
    (∀ (e : Fin 10) (on : Bool), s.edge h payload e on → 4 ≤ e.val → on = false ∨ s.eyes[e].reliable = false →
      ∃ t, exec (.eye h payload) s = .next t ∧ t.eyes = s.eyes.set e { s.eyes[e] with on := on } ∧ Quiet [.eyes] s t)) ∧
  (∀ (s : State) (h : Head) (payload : List Byte),
    (∀ on, s.edge h payload 1 on → ∀ c, enteringCar s.cars = some c →
      ∃ t, exec (.eye h payload) s = .next t ∧
        t.cars =
          (if on = true ∧ c.tentative.isSome = true then
            s.cars.map fun k => if k.tag = c.tag then { k with tentative := none } else k
          else if on = false ∧ c.tentative = none then
            s.cars.map fun k => if k.tag = c.tag then { k with tentative := some s.belt.count } else k
          else s.cars) ∧
        t.eyes = s.eyes.set (1 : Fin 10) { s.eyes[(1 : Fin 10)] with on := on } ∧ Quiet [.eyes, .cars] s t) ∧
    (s.edge h payload 1 false → enteringCar s.cars = none →
      ∃ t, exec (.eye h payload) s = .next t ∧
        t.eyes = s.eyes.set (1 : Fin 10) { s.eyes[(1 : Fin 10)] with on := false } ∧ Quiet [.eyes] s t))

/-- An entry front with room in the list makes a car at the datum, bound to the oldest sale; outside ROLLING it is UNCALLED. Its
rear is confirmed at the belt advance that takes the merge distance past the tentative rear, with CROWDING against the car
ahead. A car shorter than the minimum object length is a foreign object: its sale goes back to the head of the queue, the
stations that serve it miss it, and FOREIGN_OBJECT is raised. A car past the maximum length with no tentative rear becomes
OVERSIZE once, and its ARM stations are settled. -/
def Obligations.EntryFrontMakesACar : Prop :=
  (∀ (s : State) (h : Head) (payload : List Byte), s.edge h payload 1 true → enteringCar s.cars = none → s.cars.length ≤ 15 →
    s.listLaw → s.noticeRoom 1 →
    ∃ t, exec (.eye h payload) s = .next t ∧
      t.eyes = s.eyes.set (1 : Fin 10) { s.eyes[(1 : Fin 10)] with on := true } ∧
      t.cars = s.cars ++ [{
        tag := s.freeTag
        stamp := s.belt.count
        length := none
        tentative := none
        phase := .entering
        flags := { uncalled := s.gate.phase != .rolling, oversize := false, foreign := false, struck := false }
        plan := (s.book.queue.head?.map fun q => q.sale.plan).getD 0
        sale := s.book.queue.head?.map fun q => q.sale
        activity := (s.book.queue.head?.map fun q => q.activity).getD s.book.plans[(0 : Fin 16)].stations
        served := 0
        missed := 0
        nextEye := nextEyeAbove s.eyes 3 }] ∧
      s.tagHeld s.freeTag = false ∧
      t.nextTag = nextInSequence 255 s.freeTag ∧
      t.book = { s.book with queue := s.book.queue.tail } ∧
      t.gate = (if s.gate.phase = .rolling then { s.gate with call := none, ackTimer := none, phase := s.gateRest }
        else s.gate) ∧
      Sends [.eyes, .cars, .nextTag, .book, .gate] s t []
        (if s.gate.phase = .rolling then [] else [.uncalledEntry s.freeTag])) ∧
  (∀ s : State, enteringCar s.cars = none → s.confirmRear = s ∧ s.oversizeTest = s) ∧
  (∀ (s : State) (c k : Car) (rear : Word), s.cars.getLast? = some c → c.length = none → c.tentative = some rear →
    k = { c with
      length := some (rear - c.stamp)
      phase := if c.phase = .entering then .riding else c.phase
      tentative := none } →
    ((s.belt.count - rear).toNat < s.track.merge → s.confirmRear = s) ∧
    (s.track.merge ≤ (s.belt.count - rear).toNat → s.listLaw → s.noticeRoom 2 → ∃ u, u = s.confirmRear ∧
      u.gate.prevRear = some rear ∧
      (s.track.minObject ≤ (rear - c.stamp).toNat →
        ((∀ a, s.cars.dropLast.getLast? = some a → ¬s.crowds a k) →
          u = { s with cars := s.cars.dropLast ++ [k], gate := { s.gate with prevRear := some rear } }) ∧
        (∀ a, s.cars.dropLast.getLast? = some a → s.crowds a k →
          u.cars.map Car.core = (s.cars.dropLast ++ [k]).map Car.core ∧
          Raises s u (s.causeNow .crowding (tag := some c.tag) (tag2 := some a.tag)) ∧
          Strikes s u (s.causeNow .crowding (tag := some c.tag) (tag2 := some a.tag)) ∧
          Sends [.cars, .pacer, .seq, .gate, .ring, .halt] s u []
            (s.causeNotices (s.causeNow .crowding (tag := some c.tag) (tag2 := some a.tag))))) ∧
      ((rear - c.stamp).toNat < s.track.minObject → s.engagedLaw →
        (∃ m : StationSet, (∀ i : StationId, m.getLsbD i.val =
            (c.missed.getLsbD i.val || s.seq.stations[i].car == some c.tag)) ∧
          u.cars.getLast? = some { k with
            sale := none
            plan := 0
            missed := m
            activity := c.served ||| m
            flags := { c.flags with foreign := true, struck := true } }) ∧
        u.cars.dropLast.map Car.core = s.cars.dropLast.map Car.core ∧
        (c.sale = none → u.book = s.book) ∧
        (∀ x, c.sale = some x →
          u.book = { s.book with queue := { sale := x, activity := c.activity } :: s.book.queue }) ∧
        ((∀ a, s.cars.dropLast.getLast? = some a → ¬s.crowds a k) →
          Raises s u (s.causeNow .foreignObject (tag := some c.tag)) ∧
          Strikes s u (s.causeNow .foreignObject (tag := some c.tag)) ∧
          Sends [.cars, .book, .pacer, .seq, .gate, .ring, .halt] s u []
            (s.causeNotices (s.causeNow .foreignObject (tag := some c.tag)))) ∧
        (∀ a, s.cars.dropLast.getLast? = some a → s.crowds a k → ∃ v,
          Raises s v (s.causeNow .foreignObject (tag := some c.tag)) ∧
          Raises v u (s.causeNow .crowding (tag := some c.tag) (tag2 := some a.tag)) ∧
          Strikes s u (s.causeNow .crowding (tag := some c.tag) (tag2 := some a.tag)))))) ∧
  (∀ (s : State) (c : Car), s.cars.getLast? = some c → c.length = none →
    (c.tentative.isSome = true ∨ c.flags.oversize = true ∨ (c.front s.belt.count).toNat ≤ s.track.maxCar →
      s.oversizeTest = s) ∧
    (c.tentative = none → c.flags.oversize = false → s.track.maxCar < (c.front s.belt.count).toNat → s.listLaw →
      s.engagedLaw → s.noticeRoom 1 → ∃ u, u = s.oversizeTest ∧
      (∃ m : StationSet, (∀ i : StationId, m.getLsbD i.val =
          (c.missed.getLsbD i.val || (s.map.table[i].kind == .arm && c.unsettled i))) ∧
        u.cars = s.cars.dropLast ++ [{ c with missed := m, flags := { c.flags with oversize := true } }]) ∧
      (∀ i : StationId,
        (s.map.table[i].kind = .arm → s.seq.stations[i].car = some c.tag → Released s u i c.tag) ∧
        (s.map.table[i].kind ≠ .arm ∨ s.seq.stations[i].car ≠ some c.tag → u.seq.stations[i] = s.seq.stations[i])) ∧
      Sends [.cars, .seq, .ring] s u [] [.oversize c.tag (c.front s.belt.count)]))

/-- An entry front that finds 16 records makes none and raises TRACK_FULL with eye 1. A tracking eye's on edge that finds no
car raises OBJECT; one that finds its car out of tolerance raises CAR_ROLL, and that car no longer waits for the eye. The cars
that the cause names are marked STRUCK, and no other is. -/
def Obligations.EdgesThatHalt : Prop :=
  (∀ (s : State) (h : Head) (payload : List Byte), s.edge h payload 1 true → enteringCar s.cars = none →
    16 ≤ s.cars.length → s.noticeRoom 1 →
    ∃ t, exec (.eye h payload) s = .next t ∧
      t.cars.map Car.core = s.cars.map Car.core ∧
      Raises s t { kind := .trackFull, belt := s.belt.count, uptime := s.clock.uptime, eye := some 1 } ∧
      Strikes s t { kind := .trackFull, belt := s.belt.count, uptime := s.clock.uptime, eye := some 1 } ∧
      Sends [.eyes, .cars, .pacer, .seq, .gate, .ring, .halt] s t []
        (s.causeNotices { kind := .trackFull, belt := s.belt.count, uptime := s.clock.uptime, eye := some 1 })) ∧
  (∀ (s : State) (h : Head) (payload : List Byte) (e : Fin 10), s.edge h payload e true → 4 ≤ e.val →
    s.eyes[e].reliable = true → s.noticeRoom 1 →
    (s.cars.find? (fun k => k.nextEye == some e.val) = none →
      ∃ t, exec (.eye h payload) s = .next t ∧ t.cars.map Car.core = s.cars.map Car.core ∧
        Raises s t { kind := .object, belt := s.belt.count, uptime := s.clock.uptime, eye := some e.val } ∧
        Strikes s t { kind := .object, belt := s.belt.count, uptime := s.clock.uptime, eye := some e.val } ∧
        Sends [.eyes, .cars, .pacer, .seq, .gate, .ring, .halt] s t []
          (s.causeNotices { kind := .object, belt := s.belt.count, uptime := s.clock.uptime, eye := some e.val })) ∧
    (∀ c, s.cars.find? (fun k => k.nextEye == some e.val) = some c →
      s.track.driftHalt < (distance (c.front s.belt.count).toNat s.eyes[e].position).natAbs →
      ∃ t, exec (.eye h payload) s = .next t ∧
        t.cars.map Car.core = s.cars.map (fun k =>
          Car.core (if k.tag = c.tag then { k with nextEye := nextEyeAbove s.eyes e.val } else k)) ∧
        Raises s t
          { kind := .carRoll, belt := s.belt.count, uptime := s.clock.uptime, tag := some c.tag, eye := some e.val } ∧
        Strikes s t
          { kind := .carRoll, belt := s.belt.count, uptime := s.clock.uptime, tag := some c.tag, eye := some e.val } ∧
        Sends [.eyes, .cars, .pacer, .seq, .gate, .ring, .halt] s t []
          (s.causeNotices
            { kind := .carRoll, belt := s.belt.count, uptime := s.clock.uptime, tag := some c.tag, eye := some e.val })))

/-- A tracking eye's on edge within the drift halt tolerance re-anchors the front-most car that waits for it. Nothing else of
any car changes but for what the halt of a CROWDING does to the service sets and STRUCK; with one car in the tunnel nothing is
raised, and DRIFT is sent beyond the drift adjust tolerance. The re-anchored car is checked for CROWDING against the car ahead
and then against the car behind (that order is the model's reading, log 43). The eye-missed test of a belt advance: a car past
its next eye leaves the eye unreliable, sends EYE_MISSED, and moves every car that waits for it on to the next one, and the
test is made again. -/
def Obligations.TrackingEyeReanchors : Prop :=
  (∀ (s : State) (h : Head) (payload : List Byte) (e : Fin 10) (c : Car), s.edge h payload e true → 4 ≤ e.val →
    s.eyes[e].reliable = true → s.cars.find? (fun k => k.nextEye == some e.val) = some c →
    (distance (c.front s.belt.count).toNat s.eyes[e].position).natAbs ≤ s.track.driftHalt →
    ∃ t, exec (.eye h payload) s = .next t ∧
      t.cars.map Car.core = s.cars.map (fun k => Car.core (if k.tag = c.tag then
        { k with
          stamp := s.belt.count - BitVec.ofNat 32 s.eyes[e].position
          tentative := k.tentative.map fun x => x + (s.belt.count - BitVec.ofNat 32 s.eyes[e].position - k.stamp)
          nextEye := nextEyeAbove s.eyes e.val }
        else k)) ∧
      (s.cars = [c] → s.noticeRoom 1 → Sends [.eyes, .cars] s t []
        (if s.track.driftAdjust < (distance s.eyes[e].position (c.front s.belt.count).toNat).natAbs then
          [.drift c.tag e.val (distance s.eyes[e].position (c.front s.belt.count).toNat)] else [])) ∧
      (∀ k cs told, k = { c with
          stamp := s.belt.count - BitVec.ofNat 32 s.eyes[e].position
          tentative := c.tentative.map fun x => x + (s.belt.count - BitVec.ofNat 32 s.eyes[e].position - c.stamp)
          nextEye := nextEyeAbove s.eyes e.val } →
        cs = s.cars.map (fun x => if x.tag = c.tag then k else x) →
        told = (if s.track.driftAdjust < (distance s.eyes[e].position (c.front s.belt.count).toNat).natAbs then
          [Notice.drift c.tag e.val (distance s.eyes[e].position (c.front s.belt.count).toNat)] else []) →
        s.listLaw → s.noticeRoom 3 →
        ((∀ a, Behind cs a k → ¬s.crowds a k) → (∀ b, Behind cs k b → ¬s.crowds k b) →
          t.cars = cs ∧ Sends [.eyes, .cars] s t [] told) ∧
        (∀ a cause, Behind cs a k → s.crowds a k → (∀ b, Behind cs k b → ¬s.crowds k b) →
          cause = s.causeNow .crowding (tag := some c.tag) (tag2 := some a.tag) →
          Raises s t cause ∧ Strikes s t cause ∧
          Sends [.eyes, .cars, .pacer, .seq, .gate, .ring, .halt] s t [] (told ++ s.causeNotices cause)) ∧
        (∀ b cause, Behind cs k b → s.crowds k b → (∀ a, Behind cs a k → ¬s.crowds a k) →
          cause = s.causeNow .crowding (tag := some b.tag) (tag2 := some c.tag) →
          Raises s t cause ∧ Strikes s t cause ∧
          Sends [.eyes, .cars, .pacer, .seq, .gate, .ring, .halt] s t [] (told ++ s.causeNotices cause)) ∧
        (∀ a b, Behind cs a k → s.crowds a k → Behind cs k b → s.crowds k b → ∃ u,
          Raises s u (s.causeNow .crowding (tag := some c.tag) (tag2 := some a.tag)) ∧
          Raises u t (s.causeNow .crowding (tag := some b.tag) (tag2 := some c.tag)) ∧
          t.cars.map (fun x => x.flags.struck) =
            s.cars.map fun x => x.flags.struck || x.tag == a.tag || x.tag == b.tag || x.tag == c.tag))) ∧
  (∀ (eyes : Vector Eye 10) (e : Nat) (k : Fin 10), nextEyeAbove eyes e = some k.val ↔
    4 ≤ k.val ∧ e < k.val ∧ eyes[k].enabled = true ∧ eyes[k].reliable = true ∧
    ∀ j : Fin 10, 4 ≤ j.val → e < j.val → j < k → eyes[j].enabled = false ∨ eyes[j].reliable = false) ∧
  (∀ (s : State) (c : Car) (n : Nat), carByTag s.cars c.tag = some c →
    (c.nextEye = none → s.missTest c.tag n = s) ∧
    (∀ e : Fin 10, c.nextEye = some e.val →
      ((c.front s.belt.count).toNat ≤ s.eyes[e].position + s.track.driftHalt → s.missTest c.tag n = s) ∧
      (s.eyes[e].position + s.track.driftHalt < (c.front s.belt.count).toNat → s.noticeRoom 1 → ∃ u,
        u.eyes = s.eyes.set e { s.eyes[e] with reliable := false } ∧
        u.cars = s.cars.map (fun k =>
          if k.nextEye = some e.val then { k with nextEye := nextEyeAbove u.eyes e.val } else k) ∧
        Sends [.eyes, .cars] s u [] [.eyeMissed e.val c.tag] ∧ s.missTest c.tag (n + 1) = u.missTest c.tag n)))

/-- An on edge of the exit eye. The front-most car that is not LEAVING goes LEAVING when its front stands at the exit within
the drift halt tolerance, with EXIT_CRASH if the exit zone is not clear; otherwise EXIT_STRAY is sent and nothing else changes.
EXIT_CRASH marks that car STRUCK, and no other. -/
def Obligations.ExitFront : Prop :=
  ∀ (s : State) (h : Head) (payload : List Byte), s.edge h payload 2 true → s.noticeRoom 1 →
    (∀ c, s.cars.find? (fun k => k.phase != .leaving) = some c →
      (distance (c.front s.belt.count).toNat s.track.length).natAbs ≤ s.track.driftHalt →
      ∃ t, exec (.eye h payload) s = .next t ∧
        t.cars.map Car.core = s.cars.map (fun k => Car.core (if k.tag = c.tag then { k with phase := .leaving } else k)) ∧
        (s.eyes[(3 : Fin 10)].on = false →
          t.cars = s.cars.map (fun k => if k.tag = c.tag then { k with phase := .leaving } else k) ∧
          Quiet [.eyes, .cars] s t) ∧
        (s.eyes[(3 : Fin 10)].on = true →
          Raises s t
            { kind := .exitCrash, belt := s.belt.count, uptime := s.clock.uptime, tag := some c.tag, eye := some 2 } ∧
          Strikes s t
            { kind := .exitCrash, belt := s.belt.count, uptime := s.clock.uptime, tag := some c.tag, eye := some 2 } ∧
          Sends [.eyes, .cars, .pacer, .seq, .gate, .ring, .halt] s t [] (s.causeNotices
            { kind := .exitCrash, belt := s.belt.count, uptime := s.clock.uptime, tag := some c.tag, eye := some 2 }))) ∧
    ((∀ c, s.cars.find? (fun k => k.phase != .leaving) = some c →
        s.track.driftHalt < (distance (c.front s.belt.count).toNat s.track.length).natAbs) →
      ∃ t, exec (.eye h payload) s = .next t ∧ Sends [.eyes] s t [] [.exitStray s.belt.count])

/-- An edge of the loading eye moves the gate between WAITING and READY, where the seven conditions of R42 issue a CALL at
once; in the other phases only the eye's state changes. The seven conditions are written out. -/
def Obligations.LoadingEyeMovesTheGate : Prop :=
  (∀ s : State, s.admissible = true ↔
    s.gate.isOpen = true ∧ s.halt.state = .clear ∧ s.pacer.state = .running ∧
    (s.cars.length < 16 ∧ ∀ c, s.cars.getLast? = some c → c.length ≠ none) ∧
    (∀ x, s.gate.lastCall = some x → s.gate.pitch ≤ (s.belt.count - x).toNat) ∧
    (∀ x, s.gate.prevRear = some x → s.gate.gap ≤ (s.belt.count - x).toNat) ∧
    (s.book.queue ≠ [] ∨ s.gate.admitUnsold = true)) ∧
  (∀ (s : State) (h : Head) (payload : List Byte) (on : Bool), s.edge h payload 0 on →
    ∃ t, exec (.eye h payload) s = .next t ∧
      t.eyes = s.eyes.set (0 : Fin 10) { s.eyes[(0 : Fin 10)] with on := on } ∧
      (s.gate.phase = .closed ∨ s.gate.phase = .calling ∨ s.gate.phase = .rolling → Quiet [.eyes] s t) ∧
      (s.gate.phase = .ready → on = false → t.gate = { s.gate with phase := .waiting } ∧ Quiet [.eyes, .gate] s t) ∧
      (s.gate.phase = .waiting → on = true → s.admissible = false →
        t.gate = { s.gate with phase := .ready } ∧ Quiet [.eyes, .gate] s t) ∧
      (s.gate.phase = .waiting → on = true → s.admissible = true →
        t.gate = { s.gate with phase := .calling, call := some { number := s.freeOrderNumber, transmitted := false } } ∧
        t.ring = s.ring.push .order (.order s.gate.roller s.freeOrderNumber .call 0) ∧
        t.seq = { s.seq with nextNumber := nextInSequence 255 s.freeOrderNumber } ∧
        Quiet [.eyes, .gate, .ring, .seq] s t))

/-- An edge of the exit-zone eye. In RUNNING an on edge begins a point stop when the lead car has reached the approach of the
stop point, with the deceleration that the remaining distance asks for; in POINT_STOP an off edge returns to RUNNING (the
return shown while the halt state is CLEAR and the gate is not READY). Otherwise only the eye's state changes. -/
def Obligations.ExitZoneEyeStopsAndStarts : Prop :=
  ∀ (s : State) (h : Head) (payload : List Byte) (on : Bool), s.edge h payload 3 on →
    ∃ t, exec (.eye h payload) s = .next t ∧
      t.eyes = s.eyes.set (3 : Fin 10) { s.eyes[(3 : Fin 10)] with on := on } ∧
      (∀ c, on = true → s.pacer.state = .running → leadCar s.cars = some c →
        s.stopPoint - (s.pacer.approach : Int) ≤ ((c.front s.belt.count).toNat : Int) →
        t.pacer =
          { s.pacer with
            state := .pointStop
            pointStop := some {
              decel := if s.remaining c < (rampDistance s.pacer.speed s.pacer.dec : Int) then .decHard else .dec
              latched := false } } ∧
        Quiet [.eyes, .pacer] s t) ∧
      (on = true → s.pacer.state ≠ .running ∨ leadCar s.cars = none ∨
          (∃ c, leadCar s.cars = some c ∧
            ((c.front s.belt.count).toNat : Int) < s.stopPoint - (s.pacer.approach : Int)) →
        Quiet [.eyes] s t) ∧
      (on = false → s.pacer.state ≠ .pointStop → Quiet [.eyes] s t) ∧
      (on = false → s.pacer.state = .pointStop → s.halt.state = .clear → s.gate.phase ≠ .ready →
        t.pacer = { s.pacer with state := .running, pointStop := none } ∧ Quiet [.eyes, .pacer] s t)

/-! ## Reports of arms and of the drive (R62, R63, R76, R101, R110, R112) -/

/-- An arm report from no ARM station's node has no effect. Otherwise position and load are recorded; a report that gives the
position a transmitted order waits for marks it or completes it, and a load that rises above the limit raises ARM_STRIKE (shown
where the report confirms no order). It marks the engaged car STRUCK. The pending
order that a completion leaves is dropped or issued as at a DONE, and a station in FAULT stays there. That
ARM_STRIKE follows the record of the report is the model's reading (log 6). -/
def Obligations.ArmReportsAreTaken : Prop :=
  ∀ (s : State) (h : Head) (payload : List Byte) (position : ArmPosition) (load : Nat),
    s.hears h armPayload payload (position, load) →
    (s.armOfNode h.src = none → ∃ t, exec (.armState h payload) s = .next t ∧ Quiet [] s t) ∧
    (∀ i : StationId, s.armOfNode h.src = some i →
      load ≤ s.map.table[i].load ∨ s.map.table[i].load < s.seq.stations[i].load →
      ∃ t, exec (.armState h payload) s = .next t ∧
        ((∀ o, s.seq.stations[i].current = some o →
            o.action.asks ≠ some position ∨ (o.wait = .ack ∧ o.transmitted = false)) →
          t.seq = { s.seq with stations := s.seq.stations.set i { s.seq.stations[i] with position := position, load := load } } ∧
          Quiet [.seq] s t) ∧
        (∀ o, s.seq.stations[i].current = some o → o.action.asks = some position →
          (o.wait = .ack → o.transmitted = true →
            t.seq = { s.seq with stations := s.seq.stations.set i { s.seq.stations[i] with
              position := position, load := load, current := some { o with positionSeen := true } } } ∧
            Quiet [.seq] s t) ∧
          (o.wait = .position → s.seq.stations[i].queued = none ∨ s.seq.stations[i].queued = some o.action →
            s.seq.stations[i].phase = .fault →
            t.seq = { s.seq with stations := s.seq.stations.set i { s.seq.stations[i] with
              position := position, load := load, current := none, queued := none, timer := none } } ∧ Quiet [.seq] s t) ∧
          (∀ a, o.wait = .position → s.seq.stations[i].queued = some a → a ≠ o.action →
            s.seq.stations[i].phase = .fault ∨ s.halt.state ≠ .halting →
            ∃ number, number = (s.onStation i fun st =>
                { st with position := position, load := load, current := none, queued := none, timer := none }).freeOrderNumber ∧
              t.seq.nextNumber = nextInSequence 255 number ∧
              t.seq.stations = s.seq.stations.set i { s.seq.stations[i] with
                position := position
                load := load
                current := some { action := a, number := some number, car := if a.begins then s.seq.stations[i].car else none
                                  transmitted := false, wait := .ack, positionSeen := false }
                queued := none
                timer := none
                phase := if s.seq.stations[i].phase = .fault then .fault else if a.begins then .engaging else .releasing } ∧
              t.ring = s.ring.push .order (.order s.map.aliases[i] number a i.val) ∧ Quiet [.seq, .ring] s t) ∧
          (o.wait = .position → s.seq.stations[i].queued = some o.action → s.seq.stations[i].phase ≠ .fault →
            s.halt.state ≠ .halting →
            t.seq = { s.seq with stations := s.seq.stations.set i { s.seq.stations[i] with
              position := position, load := load, current := none, queued := none, timer := none
              phase := if s.seq.stations[i].car.isSome then .engaged else .idle } } ∧ Quiet [.seq] s t) ∧
          (o.wait = .position → s.seq.stations[i].queued = none → s.seq.stations[i].phase ≠ .fault →
            t.seq = { s.seq with stations := s.seq.stations.set i { s.seq.stations[i] with
              position := position, load := load, current := none, timer := none
              phase := if s.seq.stations[i].car.isSome then .engaged else .idle } } ∧
            (s.halt.state ≠ .halting → Quiet [.seq] s t) ∧
            (s.halt.state = .halting → s.pacer.watch = .met → t.settled = true → s.seq.stations[i].phase = .releasing →
              t.halt = { s.halt with state := .halted } ∧ Quiet [.seq, .halt] s t)))) ∧
    (∀ i : StationId, s.armOfNode h.src = some i → s.map.table[i].load < load →
      s.seq.stations[i].load ≤ s.map.table[i].load →
      (∀ o, s.seq.stations[i].current = some o →
        o.action.asks ≠ some position ∨ (o.wait = .ack ∧ o.transmitted = false)) →
      s.noticeRoom 1 →
      ∃ t, exec (.armState h payload) s = .next t ∧
        t.seq.stations[i].position = position ∧ t.seq.stations[i].load = load ∧
        Raises s t { kind := .armStrike, belt := s.belt.count, uptime := s.clock.uptime, tag := s.seq.stations[i].car,
                     station := some i.val } ∧
        Strikes s t { kind := .armStrike, belt := s.belt.count, uptime := s.clock.uptime, tag := s.seq.stations[i].car,
                      station := some i.val } ∧
        Sends [.cars, .pacer, .seq, .gate, .ring, .halt] s t [] (s.causeNotices
          { kind := .armStrike, belt := s.belt.count, uptime := s.clock.uptime, tag := s.seq.stations[i].car,
            station := some i.val }))

/-- A DRIVE_STATE frame from the drive becomes the report; a new fault code outside STOPPED raises DRIVE_FAULT. From another
source it sets the drive address, or is discarded. The order of the fault test and the watch is the model's reading (log 5). -/
def Obligations.DriveReportsAreTaken : Prop :=
  ∀ (s : State) (h : Head) (payload : List Byte) (r : DriveReport), s.hears h drivePayload payload r → s.noticeRoom 1 →
    ∃ t, exec (.driveState h payload) s = .next t ∧
      (h.src = s.pacer.drive → r.fault = 0 ∨ s.pacer.state = .stopped ∨
          (∃ old, s.pacer.report = some old ∧ old.fault = r.fault) →
        s.pacer.watch ≠ .watching ∨ r.running = true →
        t.pacer = { s.pacer with report := some r } ∧ Quiet [.pacer] s t) ∧
      (h.src = s.pacer.drive → r.fault ≠ 0 → s.pacer.state ≠ .stopped →
        (∀ old, s.pacer.report = some old → old.fault ≠ r.fault) →
        t.pacer.report = some r ∧
        Raises s t { kind := .driveFault, belt := s.belt.count, uptime := s.clock.uptime } ∧
        Sends [.cars, .pacer, .seq, .gate, .ring, .halt] s t []
          (s.causeNotices { kind := .driveFault, belt := s.belt.count, uptime := s.clock.uptime })) ∧
      (h.src ≠ s.pacer.drive →
        s.pacer.drive = 0 ∨ (s.pacer.freeze = false ∧ s.pacer.state = .stopped) →
        r.fault = 0 ∨ s.pacer.state = .stopped → s.pacer.watch ≠ .watching ∨ r.running = true →
        t.pacer = { s.pacer with drive := h.src, report := some r } ∧ Sends [.pacer] s t [] [.driveLearned h.src]) ∧
      (h.src ≠ s.pacer.drive → s.pacer.drive ≠ 0 → s.pacer.freeze = true ∨ s.pacer.state ≠ .stopped → Quiet [] s t)

/-- The drive-stop watch is met by the drive's report that it does not run, or by the end of its timer, which adds
DRIVE_NO_STOP to the open incident. In HALTING with the stations settled either makes the halt state HALTED. The commands are
DRIVE_STATE and DRIVE_STOP_TIMEOUT. That the latter does nothing while its timer does not run is the model's choice (log 10).
-/
def Obligations.DriveStopIsWatched : Prop :=
  ∀ s : State,
    (∀ h payload r, s.hears h drivePayload payload r → h.src = s.pacer.drive → r.running = false → r.fault = 0 →
      s.pacer.watch = .watching →
      ∃ t, exec (.driveState h payload) s = .next t ∧
        t.pacer = { s.pacer with report := some r, watch := .met, stopTimer := none } ∧
        t.halt = (if s.halt.state = .halting ∧ s.settled = true then { s.halt with state := .halted } else s.halt) ∧
        Quiet [.pacer, .halt] s t) ∧
    (s.live → s.pacer.stopTimer = none → ∃ t, exec .driveStopTimeout s = .next t ∧ Quiet [] s t) ∧
    (s.live → s.pacer.stopTimer.isSome = true → s.halt.state = .clear →
      ∃ t, exec .driveStopTimeout s = .next t ∧
        t.pacer = { s.pacer with watch := .met, stopTimer := none } ∧ Quiet [.pacer] s t) ∧
    (∀ r, s.live → s.pacer.stopTimer.isSome = true → s.halt.state = .halting ∨ s.halt.state = .halted →
      s.openIncident = some r → s.noticeRoom 1 →
      ∃ t, exec .driveStopTimeout s = .next t ∧
        t.pacer = { s.pacer with watch := .met, stopTimer := none } ∧
        t.halt =
          { s.halt with
            state := if s.halt.state = .halting ∧ s.settled = true then .halted else s.halt.state
            log := s.halt.log.map fun x =>
              if x.state ≠ .closed then
                x.addCause { kind := .driveNoStop, belt := s.belt.count, uptime := s.clock.uptime }
              else x } ∧
        Sends [.pacer, .halt] s t [] (s.causeNotices
          { kind := .driveNoStop, belt := s.belt.count, uptime := s.clock.uptime }))

/-! ## Calls, starts and station orders (R45, R61, R104 to R107, R157) -/

/-- The roller's DONE makes the call ROLLING; its REFUSED, the ack timer and the returned CALL are a roller fault, which closes
the gate and finishes the call. The commands are ORDER_ACK, ROLLER_ACK_TIMEOUT and RETURNED_ORDER. A CALL that returns before
its end of transmission was told counts too (the model's choice, log 28). At a belt advance the gate forgets a stamp 2^31 counts
old, gives up a ROLLING call past the roller reach with ROLLER_MISS, and calls the next car if it may. -/
def Obligations.CallEnds : Prop :=
  ∀ s : State,
    (∀ h payload, s.hears h ackPayload payload .done → s.stationAwaitingAck h.order = none → h.src = s.gate.roller →
      s.callAwaits h.order true = true →
      ∃ t, exec (.orderAck h payload) s = .next t ∧
        t.gate = { s.gate with phase := .rolling, ackTimer := none } ∧ Quiet [.gate] s t) ∧
    (∀ c number reason, CallFails c s number reason → s.noticeRoom 1 →
      ∃ t, exec c s = .next t ∧
        t.gate = { s.gate with isOpen := false, phase := .closed, call := none, ackTimer := none } ∧
        Sends [.gate] s t [] [.rollerFault reason number]) ∧
    (∃ (t : State) (g : Gate), t = s.blockAdvance .gate ∧
      g = { s.gate with
        lastCall := s.gate.lastCall.filter fun x => decide ((s.belt.count - x).toNat < 2147483648)
        prevRear := s.gate.prevRear.filter fun x => decide ((s.belt.count - x).toNat < 2147483648) } ∧
      (∀ r stamp u, s.gate.phase = .rolling → s.gate.call = some r → g.lastCall = some stamp →
        s.gate.reach < (s.belt.count - stamp).toNat → s.noticeRoom 1 →
        u = { s with gate := { g with call := none, ackTimer := none, phase := s.gateRest } } →
        (u.gate.phase = .ready ∧ u.admissible = true →
          t.gate = u.called.gate ∧ t.seq = u.called.seq ∧ t.ring = u.called.ring ∧
          Sends [.gate, .seq, .ring] s t [] [.rollerMiss r.number stamp s.belt.count]) ∧
        (u.gate.phase ≠ .ready ∨ u.admissible = false →
          t.gate = u.gate ∧ Sends [.gate] s t [] [.rollerMiss r.number stamp s.belt.count])) ∧
      (∀ u, s.gate.phase ≠ .rolling ∨ s.gate.call = none ∨ g.lastCall = none ∨
          (∃ stamp, g.lastCall = some stamp ∧ (s.belt.count - stamp).toNat ≤ s.gate.reach) → u = { s with gate := g } →
        (u.gate.phase = .ready ∧ u.admissible = true → t = u.called) ∧
        (u.gate.phase ≠ .ready ∨ u.admissible = false → t = u)))

/-- The drive's DONE makes the belt RUNNING, a READY gate calls the next car if it may, a car that blocks the exit makes it
POINT_STOP (shown while the gate is not READY), and a fault that the drive has reported raises DRIVE_FAULT; its REFUSED, the
start ack timer and the returned START make it STOPPED. Either ends RESTARTING. The commands are
ORDER_ACK, START_ACK_TIMEOUT and RETURNED_ORDER. That DRIVE_NO_START follows INCIDENT_CLOSED is the model's choice (log 33). -/
def Obligations.StartEnds : Prop :=
  ∀ s : State,
    (∀ h payload, s.hears h ackPayload payload .done → s.stationAwaitingAck h.order = none →
      s.callAwaits h.order true = false → h.src = s.pacer.drive → s.startAwaits h.order = true →
      (∀ r, s.pacer.report = some r → r.fault = 0) → s.blockedBy = none → s.gate.phase ≠ .ready → s.noticeRoom 1 →
      ∃ t, exec (.orderAck h payload) s = .next t ∧
        t.pacer =
          { s.pacer with
            state := .running
            start := none
            startTimer := none
            commanded := s.belt.count
            acc := 0
            refresh := 0
            profileTimer := some 20 } ∧
        (s.halt.state ≠ .restarting → Quiet [.pacer] s t) ∧
        (∀ r, s.halt.state = .restarting → s.openIncident = some r →
          t.halt =
            { s.halt with
              state := .clear
              log := s.halt.log.map fun x =>
                if x.state ≠ .closed then { x with state := .closed, closed := some (s.clock.uptime, .resumed) } else x } ∧
          Sends [.pacer, .halt] s t []
            [.incidentClosed r.number .resumed s.clock.uptime r.secondary.length r.more])) ∧
    (∀ h payload, s.hears h ackPayload payload .done → s.stationAwaitingAck h.order = none →
      s.callAwaits h.order true = false → h.src = s.pacer.drive → s.startAwaits h.order = true →
      s.halt.state = .clear ∨ s.halt.state = .restarting → s.noticeRoom 2 →
      ∃ t p u, exec (.orderAck h payload) s = .next t ∧
        p = { s.pacer with
          state := .running
          start := none
          startTimer := none
          commanded := s.belt.count
          acc := 0
          refresh := 0
          profileTimer := some 20 } ∧
        u = { s with pacer := p, halt := { s.halt with
          state := .clear, log := if s.halt.state = .restarting then s.closedLog .resumed else s.halt.log } } ∧
        ((∀ r, s.pacer.report = some r → r.fault = 0) → s.gate.phase = .ready → s.blockedBy = none →
          t.pacer = p ∧ t.halt = u.halt ∧
          (u.admissible = true → t.gate = u.called.gate ∧ t.seq = u.called.seq ∧ t.ring = u.called.ring ∧
            Touches [.pacer, .halt, .gate, .seq, .ring, .office] s t) ∧
          (u.admissible = false → Touches [.pacer, .halt, .office] s t)) ∧
        (∀ c, (∀ r, s.pacer.report = some r → r.fault = 0) → s.gate.phase ≠ .ready → s.blockedBy = some c →
          t.pacer = { p with
            state := .pointStop
            pointStop := some {
              decel := if s.remaining c < (rampDistance s.pacer.speed s.pacer.dec : Int) then .decHard else .dec
              latched := false } } ∧
          t.halt = u.halt ∧ Touches [.pacer, .halt, .office] s t) ∧
        (∀ r, s.pacer.report = some r → r.fault ≠ 0 →
          t.pacer.state = .halted ∧ t.pacer.resume = true ∧ t.pacer.speed = 0 ∧ t.pacer.start = none ∧
          Raises u t (s.causeNow .driveFault) ∧
          Sends [.cars, .pacer, .seq, .gate, .ring, .halt] s t []
            ((if s.halt.state = .restarting then s.openIncident.toList.map fun x =>
              .incidentClosed x.number .resumed s.clock.uptime x.secondary.length x.more else []) ++
              u.causeNotices (s.causeNow .driveFault)))) ∧
    (∀ c number reason, StartFails c s number reason →
      ∃ t, exec c s = .next t ∧
        t.pacer = { s.pacer with state := .stopped, start := none, startTimer := none } ∧
        (s.halt.state ≠ .restarting → s.noticeRoom 1 → Sends [.pacer] s t [] [.driveNoStart reason number]) ∧
        (∀ r, s.halt.state = .restarting → s.openIncident = some r → s.noticeRoom 2 →
          t.halt =
            { s.halt with
              state := .clear
              log := s.halt.log.map fun x =>
                if x.state ≠ .closed then { x with state := .closed, closed := some (s.clock.uptime, .resumed) } else x } ∧
          Sends [.pacer, .halt] s t []
            [.incidentClosed r.number .resumed s.clock.uptime r.secondary.length r.more, .driveNoStart reason number]))

/-- A station order completes. The pending order is dropped if it asks for what was done, and issued otherwise; the phase of an
ACKED or ARM station follows what remains. A DONE before an arm's position starts the busy limit. The commands are ORDER_ACK
and RETURN_WINDOW_EXPIRY. -/
def Obligations.StationOrderCompletes : Prop :=
  ∀ s : State,
    (∀ c (i : StationId) o, OrderCompletes c s i o → s.halt.state ≠ .halting →
      ∃ t, exec c s = .next t ∧
        (s.seq.stations[i].queued = none ∨ s.seq.stations[i].queued = some o.action →
          t.seq = { s.seq with stations := s.seq.stations.set i { s.seq.stations[i] with
            current := none, queued := none, timer := none
            phase := if s.map.table[i].kind = .posted ∨ s.seq.stations[i].phase = .fault then s.seq.stations[i].phase
              else if s.seq.stations[i].car.isSome then .engaged else .idle } } ∧
          Quiet [.seq] s t) ∧
        (∀ a, s.seq.stations[i].queued = some a → a ≠ o.action →
          ∃ number, number =
              (s.onStation i fun st => { st with current := none, queued := none, timer := none }).freeOrderNumber ∧
            t.seq.nextNumber = nextInSequence 255 number ∧
            t.seq.stations = s.seq.stations.set i { s.seq.stations[i] with
              current := some { action := a, number := some number, car := if a.begins then s.seq.stations[i].car else none
                                transmitted := false, wait := s.map.table[i].kind.firstWait, positionSeen := false }
              queued := none
              timer := none
              phase := if s.map.table[i].kind = .posted ∨ s.seq.stations[i].phase = .fault then s.seq.stations[i].phase
                else if a.begins then .engaging else .releasing } ∧
            t.ring = s.ring.push .order (.order s.map.aliases[i] number a i.val) ∧ Quiet [.seq, .ring] s t)) ∧
    (∀ h payload (i : StationId) o, s.hears h ackPayload payload .done → s.stationAwaitingAck h.order = some i →
      s.seq.stations[i].current = some o → s.map.table[i].kind = .arm → o.positionSeen = false →
      ∃ t, exec (.orderAck h payload) s = .next t ∧
        t.seq = { s.seq with stations := s.seq.stations.set i { s.seq.stations[i] with
          current := some { o with wait := .position }, timer := some s.map.table[i].busy } } ∧
        Quiet [.seq] s t)

/-- A station order fails: the station goes to FAULT without a car or an order, the engaged car's service is missed, and
STATION_FAULT is sent. A failed IN of an ARM station sends it OUT; a failed OUT raises ARM_STUCK, which marks the car
it names STRUCK.
The commands are ORDER_ACK,
ORDER_ACK_TIMEOUT, POSITION_TIMEOUT and RETURNED_ORDER. -/
def Obligations.StationOrderFails : Prop :=
  ∀ (s : State) (c : Instr) (i : StationId) (o : StationOrder) (reason : Reason), OrderFails c s i o reason →
    ∃ t, exec c s = .next t ∧ t.seq.stations[i].phase = .fault ∧ t.seq.stations[i].car = none ∧
      t.seq.stations[i].queued = none ∧
      (s.map.table[i].kind ≠ .arm ∨ (o.action.begins = true ∧ s.halt.state ≠ .halting) → s.noticeRoom 1 →
        t.cars = (match s.seq.stations[i].car with
          | none => s.cars
          | some tag => s.cars.map fun k =>
              if k.tag = tag then (if k.unsettled i then { k with missed := k.missed ||| stationBit i } else k) else k) ∧
        Sends [.cars, .seq, .ring] s t [] [.stationFault i.val o.action reason s.seq.stations[i].car]) ∧
      (s.map.table[i].kind ≠ .arm → t.seq = { s.seq with stations := s.seq.stations.set i { s.seq.stations[i] with
          phase := .fault, car := none, current := none, queued := none, timer := none } } ∧ t.ring = s.ring) ∧
      (s.map.table[i].kind = .arm → o.action.begins = true →
        ∃ number, number =
            (s.onStation i fun st => { st with car := none, current := none, queued := none, timer := none }).freeOrderNumber ∧
          t.seq.stations[i].current = some { action := .out, number := some number, car := o.car, transmitted := false
                                             wait := .ack, positionSeen := false } ∧
          t.ring = s.ring.push .order (.order s.map.aliases[i] number .out i.val)) ∧
      (s.map.table[i].kind = .arm → o.action.begins = false → s.noticeRoom 2 →
        Raises s t { kind := .armStuck, belt := s.belt.count, uptime := s.clock.uptime
                     tag := stuckTag s.cars s.seq.stations[i].car o.car, station := some i.val } ∧
        Strikes s t { kind := .armStuck, belt := s.belt.count, uptime := s.clock.uptime
                      tag := stuckTag s.cars s.seq.stations[i].car o.car, station := some i.val } ∧
        Sends [.cars, .pacer, .seq, .gate, .ring, .halt] s t [] (.stationFault i.val o.action reason s.seq.stations[i].car ::
          s.causeNotices { kind := .armStuck, belt := s.belt.count, uptime := s.clock.uptime
                           tag := stuckTag s.cars s.seq.stations[i].car o.car, station := some i.val }))

/-! ## Other frames of the ring (R163, R166 to R168, R174) -/

/-- A returned SETPOINT raises DRIVE_FAULT while the pacer follows setpoints and is discarded otherwise; a returned BRAKE is
discarded; a returned MAINT answers NO_NODE, and a MAINT_REPLY is passed on, to the office source in the order byte; with the reply
queue full either reply is lost, and the reply-lost flag says so. BAD_FRAME
is counted by its port, up to 65535. A frame of a kind for the part whose class or form is not its kind's is discarded. -/
def Obligations.OtherArrivalsOfTheRing : Prop :=
  (∀ (s : State) (h : Head) (payload : List Byte), s.live →
    (isReturned h = true → ∀ v, wordOperand payload = some v →
      (s.pacer.state = .running ∨ s.pacer.state = .pointStop ∨ s.pacer.state = .stopping → s.noticeRoom 1 →
        ∃ t, exec (.returnedSetpoint h payload) s = .next t ∧
          Raises s t { kind := .driveFault, belt := s.belt.count, uptime := s.clock.uptime } ∧
          Sends [.cars, .pacer, .seq, .gate, .ring, .halt] s t []
            (s.causeNotices { kind := .driveFault, belt := s.belt.count, uptime := s.clock.uptime })) ∧
      (s.pacer.state = .stopped ∨ s.pacer.state = .starting ∨ s.pacer.state = .halted →
        ∃ t, exec (.returnedSetpoint h payload) s = .next t ∧ Quiet [] s t)) ∧
    (∃ t, exec (.returnedBrake h payload) s = .next t ∧ Quiet [] s t) ∧
    (isReturned h = true → payload.length ≤ 39 → s.office.replies.length < 8 →
      ∃ t, exec (.returnedMaint h payload) s = .next t ∧
        Replies [] s t { src := s.office.address, dst := h.order, body := .maint .noNode h.dst [] }) ∧
    (isReturned h = true → payload.length ≤ 39 → 8 ≤ s.office.replies.length →
      ∃ t, exec (.returnedMaint h payload) s = .next t ∧ ReplyLost s t) ∧
    (fromNode h = true → 32 ≤ h.order → h.order ≤ 63 → 8 ≤ s.office.replies.length →
      ∃ t, exec (.maintReply h payload) s = .next t ∧ ReplyLost s t) ∧
    (fromNode h = true → 32 ≤ h.order → h.order ≤ 63 → s.office.replies.length < 8 →
      ∃ t, exec (.maintReply h payload) s = .next t ∧
        Replies [] s t { src := s.office.address, dst := h.order, body := .maint .ok h.src (payload.take 38) }) ∧
    (h.order < 32 ∨ 63 < h.order → ∃ t, exec (.maintReply h payload) s = .next t ∧ Quiet [] s t)) ∧
  (∀ s : State, s.live →
    (∃ t, exec (.badFrame .ring) s = .next t ∧ t.ring = { s.ring with badFrames := min 65535 (s.ring.badFrames + 1) } ∧
      Quiet [.ring] s t) ∧
    (∃ t, exec (.badFrame .office) s = .next t ∧ t.office.badFrames = min 65535 (s.office.badFrames + 1) ∧
      t.office.outgoing = s.office.outgoing ∧ t.office.windows = s.office.windows ∧ t.office.address = s.office.address ∧
      t.office.replyLost = s.office.replyLost ∧ t.office.noticeLost = s.office.noticeLost ∧ Touches [.office] s t) ∧
    (∀ (h : Head) (payload : List Byte),
      (∀ c, (c = Instr.armState h payload ∧ (fromNode h = false ∨ armPayload payload = none)) ∨
          (c = .driveState h payload ∧ (fromNode h = false ∨ drivePayload payload = none)) ∨
          (c = .orderAck h payload ∧ (fromNode h = false ∨ ackPayload payload = none)) ∨
          (c = .maintReply h payload ∧ fromNode h = false) ∨
          (c = .returnedOrder h payload ∧ (isReturned h = false ∨ orderForm payload = false)) ∨
          (c = .returnedSetpoint h payload ∧ (isReturned h = false ∨ wordOperand payload = none)) ∨
          (c = .returnedMaint h payload ∧ (isReturned h = false ∨ 40 ≤ payload.length)) ∨
          (c = .broadcastReturn h payload ∧ (isBroadcastReturn h = false ∨ stampPayload payload = none)) →
        ∃ t, exec c s = .next t ∧ Quiet [] s t)))

/-- The supervision of the ring: the return of the outstanding broadcast makes the ring UP; the ring timeout makes it DOWN,
with RING_LOSS if it was UP; the check timer, or the end of the outstanding broadcast after it, queues the next broadcast. What
a queued broadcast does to a periodic one is left out (log 24). That RING_TIMEOUT and RING_CHECK_EXPIRY do nothing while their
timers do not run is the model's choice (log 10). -/
def Obligations.RingIsSupervised : Prop :=
  ∀ s : State, s.live → s.ring.safety.any RingFrame.isBroadcast = false →
    (∀ h payload stamp, isBroadcastReturn h = true → stampPayload payload = some stamp →
      ∃ t, exec (.broadcastReturn h payload) s = .next t ∧
        (s.ring.outstanding ≠ some stamp → Quiet [] s t) ∧
        (s.ring.outstanding = some stamp →
          t.ring = (if s.ring.checkTimer = none then
              ({ s.ring with state := .up, outstanding := none, timeout := none } : Ring).afterPeriodic s.halt.state
            else { s.ring with state := .up, outstanding := none, timeout := none }) ∧
          Quiet [.ring] s t)) ∧
    (∃ t, exec .ringTimeout s = .next t ∧
      (s.ring.timeout = none → Quiet [] s t) ∧
      (s.ring.timeout.isSome = true → s.ring.state = .down →
        t.ring = (if s.ring.checkTimer = none then
            ({ s.ring with outstanding := none, timeout := none } : Ring).afterPeriodic s.halt.state
          else { s.ring with outstanding := none, timeout := none }) ∧
        Quiet [.ring] s t) ∧
      (s.ring.timeout.isSome = true → s.ring.state = .up → s.noticeRoom 1 →
        t.ring.state = .down ∧ t.ring.outstanding = none ∧ t.ring.timeout = none ∧
        Raises s t { kind := .ringLoss, belt := s.belt.count, uptime := s.clock.uptime } ∧
        Sends [.cars, .pacer, .seq, .gate, .ring, .halt] s t []
          (s.causeNotices { kind := .ringLoss, belt := s.belt.count, uptime := s.clock.uptime }))) ∧
    (∃ t, exec .ringCheckExpiry s = .next t ∧ Quiet [.ring] s t ∧
      t.ring = (if s.ring.checkTimer = none then s.ring
        else if s.ring.outstanding.isSome then { s.ring with checkTimer := none }
        else ({ s.ring with checkTimer := none } : Ring).afterPeriodic s.halt.state))

/-! ## Ends of transmission and the arbiter (R44, R60, R103, R167 to R170, R175) -/

/-- The end of an ORDER frame starts its owner's timer, unless the owner has given the order up, and frees the transmitter;
with the transmitter idle the command does nothing (the model's choice, log 11). The end of a broadcast makes it the
outstanding one and starts the ring timeout and the check timer; the end of a SETPOINT, BRAKE or MAINT frees the transmitter;
the end of an office frame begins the next one while OHOLD is released. The commands are CALL_TRANSMITTED, START_TRANSMITTED,
STATION_ORDER_TRANSMITTED, BROADCAST_TRANSMITTED, RING_FRAME_TRANSMITTED and OFFICE_FRAME_SENT. -/
def Obligations.FramesAreTransmitted : Prop :=
  (∀ s : State, s.live →
    (∀ dst number station, s.ring.tx = some (.order dst number .call station) →
      ∃ t, exec .callTransmitted s = .next t ∧ t.ring = ({ s.ring with tx := none } : Ring).choose ∧
        t.gate = (if s.gate.phase = .calling ∧ s.gate.call.map (fun r => r.number) = some number then
            { s.gate with
              lastCall := some s.belt.count
              call := some { number := number, transmitted := true }
              ackTimer := some s.timing.orderAck }
          else s.gate) ∧
        Quiet [.ring, .gate] s t) ∧
    (∀ dst number station, s.ring.tx = some (.order dst number .start station) →
      ∃ t, exec .startTransmitted s = .next t ∧ t.ring = ({ s.ring with tx := none } : Ring).choose ∧
        t.pacer = (if s.pacer.start.map (fun r => r.number) = some number then
            { s.pacer with
              start := some { number := number, transmitted := true }
              startTimer := some s.timing.driveStart }
          else s.pacer) ∧
        Quiet [.ring, .pacer] s t) ∧
    (∀ dst number action station, s.ring.tx = some (.order dst number action station) → action ≠ .call → action ≠ .start →
      ∃ t, exec .stationOrderTransmitted s = .next t ∧ t.ring = ({ s.ring with tx := none } : Ring).choose ∧
        (s.stationOfOrder number = none → Quiet [.ring] s t) ∧
        (∀ (i : StationId) o, s.stationOfOrder number = some i → s.seq.stations[i].current = some o →
          t.seq = { s.seq with stations := s.seq.stations.set i { s.seq.stations[i] with
            current := some { o with transmitted := true }, timer := some s.timing.orderAck } } ∧
          Quiet [.ring, .seq] s t)) ∧
    (s.ring.tx = none → ∀ c, c ∈ [Instr.callTransmitted, .startTransmitted, .stationOrderTransmitted] →
      ∃ t, exec c s = .next t ∧ Quiet [] s t)) ∧
  (∀ s : State, s.live →
    (∀ kind stamp, s.ring.tx = some (.broadcast kind stamp) →
      ∃ t, exec .broadcastTransmitted s = .next t ∧ Quiet [.ring] s t ∧
        t.ring =
          ({ s.ring with
            tx := none
            outstanding := some stamp
            timeout := some s.timing.ringTimeout
            checkTimer := some s.timing.ringCheck } : Ring).choose) ∧
    ((∃ dst, s.ring.tx = some (.brake dst)) ∨ (∃ dst speed, s.ring.tx = some (.setpoint dst speed)) ∨
        (∃ dst party data, s.ring.tx = some (.maint dst party data)) →
      ∃ t, exec .ringFrameTransmitted s = .next t ∧ t.ring = ({ s.ring with tx := none } : Ring).choose ∧
        Quiet [.ring] s t) ∧
    (∃ t, exec .officeFrameSent s = .next t ∧
      t.office.outgoing = s.office.replies.map OfficeFrame.reply ++ s.office.notices.map OfficeFrame.notice ∧
      t.office.tx = (if s.pins.ohold = .released then
          (s.office.replies.map OfficeFrame.reply ++ s.office.notices.map OfficeFrame.notice).head?
        else none) ∧
      s.office.settingsSame t.office ∧ Touches [.office] s t))

/-- The arbiter: when the transmitter is free, the head of the class with the lowest effective priority is taken, and the ages
move. A frame that is queued joins the tail of its class; the choice is made at once while nothing is being sent. That a choice
is made at once is the model's reading (log 7). -/
def Obligations.ArbiterTakesTheLowest : Prop :=
  ∀ r : Ring,
    ((∀ c, r.queueOf c = []) → r.choose = r) ∧
    (∀ c, r.winner c →
      r.choose.tx = (r.queueOf c).head? ∧ r.choose.queueOf c = (r.queueOf c).tail ∧
      (∀ d, d ≠ c → r.choose.queueOf d = r.queueOf d) ∧ r.choose.ageOf c = 0 ∧
      (∀ d, d ≠ c → d ≠ .safety → r.choose.ageOf d = if r.queueOf d = [] then r.ageOf d else min 15 (r.ageOf d + 1)) ∧
      r.choose.state = r.state ∧ r.choose.outstanding = r.outstanding ∧ r.choose.nextStamp = r.nextStamp ∧
      r.choose.timeout = r.timeout ∧ r.choose.checkTimer = r.checkTimer ∧ r.choose.releasePending = r.releasePending ∧
      r.choose.badFrames = r.badFrames ∧ r.choose.prioMotion = r.prioMotion ∧ r.choose.prioOrder = r.prioOrder ∧
      r.choose.prioPass = r.prioPass) ∧
    (∀ c f, ∃ q : Ring, q.tx = r.tx ∧ q.queueOf c = r.queueOf c ++ [f] ∧ (∀ d, d ≠ c → q.queueOf d = r.queueOf d) ∧
      (∀ d, q.ageOf d = r.ageOf d) ∧ (∀ d, q.effective d = r.effective d) ∧
      r.push c f = if r.tx = none then q.choose else q)

/-! ## Pay terminals and maintenance frames (R120 to R126, R173) -/

/-- QUOTE_REQ: the first check that fails names the refusal; otherwise the terminal's quote is replaced by one of the plan, the
options, the amount and the activity set the request resolves to, with a free sale number and the whole hold time.
What a plan or a code
resolves to, the gross and the activity set are written out. -/
def Obligations.QuotesAreMade : Prop :=
  (∀ (s : State) (sel : Selection),
    (∀ n, s.resolve (.plan n) = some sel ↔ sel = { plan := n, discount := 0, granted := 0 }) ∧
    (∀ code : BitVec 16, s.resolve (.code code) = some sel ↔ ∃ k : Fin 8,
      (s.book.codes[k].enabled = true ∧ code &&& s.book.codes[k].mask = s.book.codes[k].base &&& s.book.codes[k].mask) ∧
      (∀ j : Fin 8, j < k → s.book.codes[j].enabled = false ∨
        code &&& s.book.codes[j].mask ≠ s.book.codes[j].base &&& s.book.codes[j].mask) ∧
      sel = { plan := s.book.codes[k].plan.val
              discount := s.book.codes[k].discount
              granted := if s.book.codes[k].grant = true then (code &&& ~~~s.book.codes[k].mask).setWidth 8 else 0 })) ∧
  (∀ (s : State) (n : Nat) (p : Fin 16), s.offeredPlan n = some p ↔
    n = p.val ∧ 1 ≤ n ∧ s.book.plans[p].state = .offered) ∧
  (∀ (b : SaleBook) (p : Fin 16) (requested granted : OptionSet),
    b.gross p requested granted = b.plans[p].price + ((List.finRange 8).map fun k =>
      if requested.getLsbD k.val = true ∧ granted.getLsbD k.val = false then b.options[k].price else 0).sum ∧
    ∀ i : StationId, (b.activity p requested).getLsbD i.val = (b.plans[p].stations.getLsbD i.val ||
      (List.finRange 8).any fun k => requested.getLsbD k.val && b.options[k].added.getLsbD i.val)) ∧
  (∀ (s : State) (h : Head) (payload : List Byte) (k : Fin 15) (choice : QuoteChoice) (options : OptionSet),
    s.acceptsTerminal h k → quotePayload payload = some (choice, options) →
    ∃ t, exec (.quoteReq h payload) s = .next t ∧
      (s.resolve choice = none →
        Replies [] s t { src := s.office.address, dst := h.src, body := .quote .unknownCode 0 0 0 0 }) ∧
      (∀ sel, s.resolve choice = some sel → s.offeredPlan sel.plan = none →
        Replies [] s t { src := s.office.address, dst := h.src, body := .quote .noPlan 0 0 0 0 }) ∧
      (∀ sel (p : Fin 16), s.resolve choice = some sel → s.offeredPlan sel.plan = some p →
        (options &&& ~~~s.book.plans[p].allow ≠ 0 →
          Replies [] s t { src := s.office.address, dst := h.src, body := .quote .badOption 0 0 0 0 }) ∧
        (options &&& ~~~s.book.plans[p].allow = 0 →
          (∃ i : StationId, hasStation s.book.plans[p].essential i = true ∧
            (s.map.aliases[i] = 0 ∨ s.seq.stations[i].phase = .fault)) →
          Replies [] s t { src := s.office.address, dst := h.src, body := .quote .planUnavailable 0 0 0 0 }) ∧
        (options &&& ~~~s.book.plans[p].allow = 0 →
          (∀ i : StationId, hasStation s.book.plans[p].essential i = true →
            s.map.aliases[i] ≠ 0 ∧ s.seq.stations[i].phase ≠ .fault) →
          ∃ number amount, number = (s.clearQuote k).freeSaleNumber ∧
            amount = min 65535
              (s.book.gross p options (sel.granted &&& s.book.plans[p].allow) -
                s.book.gross p options (sel.granted &&& s.book.plans[p].allow) * sel.discount / 100) ∧
            t.book = { s.book with
              nextNumber := nextInSequence 65535 number
              quotes := s.book.quotes.set k (some {
                number := number
                plan := p
                options := options ||| (sel.granted &&& s.book.plans[p].allow)
                amount := amount
                activity := s.book.activity p (options ||| (sel.granted &&& s.book.plans[p].allow))
                hold := 1000 * s.timing.quoteHold }) } ∧
            Replies [.book] s t {
              src := s.office.address
              dst := h.src
              body := .quote .ok number p.val (options ||| (sel.granted &&& s.book.plans[p].allow)) amount })))

/-- CLOSE_REQ: NO_QUOTE without the terminal's open quote of that number, QUEUE_FULL while the queue and the reserve hold 24;
otherwise the quote becomes a sale at the tail of the queue, and the reply gives its place. -/
def Obligations.ClosesQueueTheSale : Prop :=
  ∀ (s : State) (h : Head) (payload : List Byte) (k : Fin 15) (number : Nat) (tender : Tender),
    s.acceptsTerminal h k → closePayload payload = some (number, tender) →
    ∃ t, exec (.closeReq h payload) s = .next t ∧
      ((∀ q, s.book.quotes[k] = some q → q.number ≠ number) →
        Replies [] s t { src := s.office.address, dst := h.src, body := .close .noQuote number 0 }) ∧
      (∀ q, s.book.quotes[k] = some q → q.number = number → 24 ≤ s.book.queue.length + s.reserve →
        Replies [] s t { src := s.office.address, dst := h.src, body := .close .queueFull number 0 }) ∧
      (∀ q, s.book.quotes[k] = some q → q.number = number → s.book.queue.length + s.reserve < 24 →
        t.book = { s.book with
          quotes := s.book.quotes.set k none
          queue := s.book.queue ++ [{
            sale := { number := number, terminal := k.val + 1, plan := q.plan, options := q.options, amount := q.amount
                      tender := tender }
            activity := q.activity }] } ∧
        Replies [.book, .seq, .gate, .ring] s t
          { src := s.office.address, dst := h.src, body := .close .ok number (s.book.queue.length + 1) } ∧
        (s.gate.phase ≠ .ready → Replies [.book] s t
          { src := s.office.address, dst := h.src, body := .close .ok number (s.book.queue.length + 1) }))

/-- DROP_REQ removes the terminal's open quote of that number, with its hold timer and without a tally, and answers DROPPED; it
answers NO_QUOTE otherwise, also for the number of a queued sale. A payload of another form is discarded. -/
def Obligations.DropsRemoveTheQuote : Prop :=
  ∀ (s : State) (h : Head) (payload : List Byte) (k : Fin 15), s.acceptsTerminal h k →
    (dropPayload payload = none → ∃ t, exec (.dropReq h payload) s = .next t ∧ Quiet [] s t) ∧
    (∀ number, dropPayload payload = some number →
      ∃ t, exec (.dropReq h payload) s = .next t ∧
        (∀ q, s.book.quotes[k] = some q → q.number = number →
          t.book = { s.book with quotes := s.book.quotes.set k none } ∧
          Replies [.book] s t { src := s.office.address, dst := h.src, body := .drop .dropped number } ∧
          ((∀ j : Fin 15, j ≠ k → ∀ x, s.book.quotes[j] = some x → x.number ≠ number) →
            (∀ x ∈ s.book.queue, x.sale.number ≠ number) →
            (∀ c ∈ s.cars, ∀ x, c.sale = some x → x.number ≠ number) → t.saleNumberHeld number = false)) ∧
        ((∀ q, s.book.quotes[k] = some q → q.number ≠ number) →
          Replies [] s t { src := s.office.address, dst := h.src, body := .drop .noQuote number }))

/-- MAINT: the first pass window that hits the ring destination decides; the frame joins the PASS class with the office source
in its order byte, or is refused. That a window whose mode does not hold answers WRONG_STATE also while PASS is full, before
BUSY, is the model's choice (log 41). -/
def Obligations.MaintenanceIsForwarded : Prop :=
  ∀ (s : State) (h : Head) (dst : Byte) (data : List Byte), s.accepts h →
    ∃ t, exec (.maint h (dst :: data)) s = .next t ∧
      (dst.toNat = 0 ∨ dst.toNat ≥ 127 ∨ s.office.decides dst.toNat = none →
        Replies [] s t { src := s.office.address, dst := h.src, body := .maint .notPassable dst.toNat [] }) ∧
      (∀ w, 1 ≤ dst.toNat → dst.toNat ≤ 126 → s.office.decides dst.toNat = some w →
        ((w.mode = .idleOnly ∧ (s.cars ≠ [] ∨ s.pacer.state ≠ .stopped)) ∨ (w.mode = .haltedOnly ∧ s.halt.state ≠ .halted) →
          Replies [] s t { src := s.office.address, dst := h.src, body := .maint .wrongState dst.toNat [] }) ∧
        (w.mode = .always ∨ (w.mode = .idleOnly ∧ s.cars = [] ∧ s.pacer.state = .stopped) ∨
            (w.mode = .haltedOnly ∧ s.halt.state = .halted) →
          (8 ≤ s.ring.pass.length →
            Replies [] s t { src := s.office.address, dst := h.src, body := .maint .busy dst.toNat [] }) ∧
          (s.ring.pass.length < 8 →
            t.ring = s.ring.push .pass (.maint dst.toNat h.src data) ∧ Quiet [.ring] s t)))

/-! ## What every request has in common (R172, R177) -/

/-- The requests with a header h and bytes ops. From elsewhere than their source, or to another address, they have no effect;
one that finds the reply queue full leaves only the reply-lost flag; with operands of a length its code does not have, or a
payload that is not of its kind's form, it is discarded (the order of the tests is the model's, log 23).
A write of PACING, GATE, ARBITER or EYE whose bytes behind the writable fields no choice of the table's runtime fields fills is
discarded too (the model's choice of their layout, log 21). -/
def Obligations.RequestsNotTaken : Prop :=
  ∀ (s : State) (h : Head) (ops : List Byte), s.live →
    (∀ c, c ∈ [Instr.tableRead h ops, .tableWrite h ops, .stationWrite h ops, .aliasWrite h ops, .planWrite h ops,
        .optionWrite h ops, .codeWrite h ops, .eyeWrite h ops, .passWrite h ops, .pacingWrite h ops, .gateWrite h ops,
        .trackWrite h ops, .timingWrite h ops, .arbiterWrite h ops, .nodeEncoderWrite h ops, .nodeDriveWrite h ops,
        .nodeRollerWrite h ops, .nodeOfficeWrite h ops, .gateOpen h ops, .gateClose h ops, .run h ops, .stop h ops,
        .halt h ops, .ack h ops, .resume h ops, .stationClear h ops, .eyeRestore h ops, .saleVoid h ops, .carClear h ops,
        .tunnelReset h ops, .tallyRead h ops, .tallyReset h ops, .statusRead h ops] →
      ∃ t, exec c s = .next t ∧
        (h.dst ≠ s.office.address ∨ h.src ≤ 31 ∨ 64 ≤ h.src → Quiet [] s t) ∧
        (h.dst = s.office.address → 32 ≤ h.src → h.src ≤ 63 → 8 ≤ s.office.replies.length →
          t.office.replyLost = true ∧ t.office.outgoing = s.office.outgoing ∧
          t.office.noticeLost = s.office.noticeLost ∧ t.office.badFrames = s.office.badFrames ∧
          t.office.windows = s.office.windows ∧ t.office.address = s.office.address ∧ Touches [.office] s t)) ∧
    (∀ c n, (c, n) ∈ [(Instr.tableRead h ops, 3), (.stationWrite h ops, 18), (.aliasWrite h ops, 2), (.planWrite h ops, 13),
        (.optionWrite h ops, 7), (.codeWrite h ops, 9), (.passWrite h ops, 5), (.trackWrite h ops, 16), (.timingWrite h ops, 13),
        (.nodeEncoderWrite h ops, 6), (.nodeDriveWrite h ops, 6), (.nodeRollerWrite h ops, 6), (.nodeOfficeWrite h ops, 6),
        (.gateOpen h ops, 0), (.gateClose h ops, 0), (.run h ops, 2), (.stop h ops, 0), (.halt h ops, 0), (.ack h ops, 0),
        (.resume h ops, 0), (.stationClear h ops, 1), (.eyeRestore h ops, 1), (.saleVoid h ops, 2), (.carClear h ops, 1),
        (.tunnelReset h ops, 0), (.tallyRead h ops, 1), (.tallyReset h ops, 0), (.statusRead h ops, 0)] →
      s.accepts h → ops.length ≠ n → ∃ t, exec c s = .next t ∧ Quiet [] s t) ∧
    (∀ c n runtime, (c, n, runtime) ∈ [(Instr.eyeWrite h ops, 7, [0, 1, 2]), (.arbiterWrite h ops, 4, List.range 15),
        (.gateWrite h ops, 8, [0, 1, 2, 3, 5, 6, 7, 8, 10, 11, 12, 13]), (.pacingWrite h ops, 15, List.range 30)] →
      s.accepts h → (∀ k ∈ runtime, ops.length ≠ n + k) → ∃ t, exec c s = .next t ∧ Quiet [] s t) ∧
    (∀ c lo hi (formed : Bool), (c, lo, hi, formed) ∈ [(Instr.quoteReq h ops, 1, 15, (quotePayload ops).isSome),
        (.closeReq h ops, 1, 15, (closePayload ops).isSome), (.dropReq h ops, 1, 15, (dropPayload ops).isSome),
        (.maint h ops, 32, 63, !ops.isEmpty)] →
      ∃ t, exec c s = .next t ∧
        (h.dst ≠ s.office.address ∨ h.src < lo ∨ hi < h.src ∨ formed = false → Quiet [] s t) ∧
        (h.dst = s.office.address → lo ≤ h.src → h.src ≤ hi → formed = true → 8 ≤ s.office.replies.length →
          t.office.replyLost = true ∧ t.office.outgoing = s.office.outgoing ∧
          t.office.noticeLost = s.office.noticeLost ∧ t.office.badFrames = s.office.badFrames ∧
          t.office.windows = s.office.windows ∧ t.office.address = s.office.address ∧ Touches [.office] s t))

/-! ## Tables (R7, R9, R38, R53, R79, R80, R83, R88, R89, R91, R117 to R119, R171, R173, R179 to R182) -/

/-- TABLE READ changes nothing: BAD_TABLE for an unknown table, BAD_INDEX outside its index or part range, and otherwise the
table's data, written out for every table, with the codes of names and the encoding of numbers and of absent fields. TABLE
WRITE of a table that is unknown or read-only answers BAD_TABLE; of any
other table it is that table's own write (log 31), shown whole for an OPTION entry. The layout of the data of the reads is the
model's reading where R178 leaves it (log 18, log 19), as are the position field of SALES (log 40) and the reliable byte of
eyes 0 to 3 (log 44). -/
def Obligations.TablesAreReadAndNamed : Prop :=
  (∀ (s : State) (h : Head) (table index part : Byte), s.accepts h →
    ∃ t result data, exec (.tableRead h [table, index, part]) s = .next t ∧
      Replies [] s t (mgmtReply s h 0x01 result data) ∧
      (table.toNat ∉ [1, 2, 3, 4, 5, 6, 7, 8, 9, 10, 11, 12, 13, 20, 21, 22, 23, 24] → result = .badTable ∧ data = []) ∧
      (∀ lo hi parts, (table.toNat, lo, hi, parts) ∈ [(1, 0, 31, 0), (2, 0, 0, 0), (3, 0, 15, 0), (4, 0, 7, 0), (5, 0, 7, 0),
          (6, 0, 9, 0), (7, 0, 3, 0), (8, 0, 0, 1), (9, 0, 0, 0), (10, 0, 0, 0), (11, 0, 0, 0), (12, 0, 0, 0), (13, 0, 0, 0),
          (20, 0, 15, 1), (21, 0, 23, 0), (22, 1, 15, 0), (23, 0, 7, 4), (24, 0, 31, 0)] →
        if index.toNat < lo ∨ hi < index.toNat ∨ parts < part.toNat then result = .badIndex ∧ data = []
        else result = .ok) ∧
      (∀ (i : StationId) (e : StationEntry), table = 1 → part = 0 → index.toNat = i.val → e = s.map.table[i] →
        data = one e.kind.code ++ two e.windowStart ++ two e.windowEnd ++ two e.front ++ twoBits (BitVec.ofInt 16 e.rear) ++
          two e.travel ++ two e.busy ++ one e.load ++ two e.cap ++ one e.weight) ∧
      (table = 2 → part = 0 → index = 0 → ∃ x : StationSet,
        (∀ i : StationId, x.getLsbD i.val = (s.map.aliases[i] != 0 && s.seq.stations[i].phase != .fault)) ∧
        data = (stationIds.flatMap fun i => one s.map.aliases[i]) ++ four x) ∧
      (∀ (k : Fin 16) (e : Plan), table = 3 → part = 0 → index.toNat = k.val → e = s.book.plans[k] →
        data = one e.state.code ++ two e.price ++ four e.stations ++ four e.essential ++ [e.allow]) ∧
      (∀ k : Fin 8, table = 4 → part = 0 → index.toNat = k.val →
        data = two s.book.options[k].price ++ four s.book.options[k].added) ∧
      (∀ (k : Fin 8) (e : CodeWindow), table = 5 → part = 0 → index.toNat = k.val → e = s.book.codes[k] →
        data = flag e.enabled ++ twoBits e.base ++ twoBits e.mask ++ one e.plan.val ++ one e.discount ++ flag e.grant) ∧
      (∀ (k : Fin 10) (e : Eye), table = 6 → part = 0 → index.toNat = k.val → e = s.eyes[k] →
        data = flag e.enabled ++ one e.node ++ one e.input ++ one e.polarity.code ++ two e.position ++ flag e.reliable ++
          one (if e.on then 0 else 1)) ∧
      (∀ (k : Fin 4) (e : PassWindow), table = 7 → part = 0 → index.toNat = k.val → e = s.office.windows[k] →
        data = flag e.enabled ++ one e.base ++ one e.mask ++ one e.mode.code) ∧
      (∀ p : Pacer, p = s.pacer → table = 8 → index = 0 →
        (part = 0 → data = two p.accel ++ two p.dec ++ two p.decHard ++ two p.slip ++ two p.overrun ++ two p.margin ++
          two p.approach) ∧
        (part = 1 → data = one p.state.code ++ two p.speed ++ two p.target ++ two p.runSpeed ++ four p.commanded ++
          two p.acc ++ flag p.resume ++ optional 2 (fun r : PointStop => one r.decel.code ++ flag r.latched) p.pointStop ++
          optional 2 (fun r : OrderRecord => one r.number ++ flag r.transmitted) p.start ++ two p.lastSent ++ one p.drive ++
          flag p.freeze ++ optional 3 (fun r : DriveReport => flag r.ready ++ flag r.running ++ one r.fault) p.report ++
          one p.watch.code)) ∧
      (∀ g : Gate, g = s.gate → table = 9 → index = 0 → part = 0 →
        data = two g.pitch ++ two g.gap ++ two g.reach ++ flag g.admitUnsold ++ flag g.isOpen ++ one g.phase.code ++
          optional 4 four g.lastCall ++ optional 4 four g.prevRear ++ orZero (g.call.map fun r => r.number)) ∧
      (table = 10 → index = 0 → part = 0 → data = two s.track.length ++ two s.track.merge ++ two s.track.minObject ++
        two s.track.maxCar ++ two s.track.crowd ++ one s.track.driftAdjust ++ two s.track.driftHalt ++ two s.track.expiry) ∧
      (table = 11 → index = 0 → part = 0 → data = two s.timing.encoderSilence ++ two s.timing.orderAck ++
        two s.timing.driveStart ++ two s.timing.driveStop ++ two s.timing.quoteHold ++ one s.timing.ringCheck ++
        one s.timing.ringTimeout) ∧
      (∀ r : Ring, r = s.ring → table = 12 → index = 0 → part = 0 →
        data = one r.prioMotion ++ one r.prioOrder ++ one r.prioPass ++ one 0 ++ one r.ageMotion ++ one r.ageOrder ++
          one r.agePass ++ one r.safety.length ++ one r.motion.length ++ one r.order.length ++ one r.pass.length ++
          one r.state.code ++ optional 2 twoBits r.outstanding ++ twoBits r.nextStamp) ∧
      (table = 13 → index = 0 → part = 0 → data = one s.belt.encoder ++ one s.pacer.drive ++ one s.gate.roller ++
        one s.office.address ++ flag s.pacer.freeze ++ one s.pins.straps.toNat) ∧
      (table = 20 → index.toNat ≤ 15 →
        (s.cars[index.toNat]? = none → part.toNat ≤ 1 → data = one s.cars.length ++ one s.nextTag) ∧
        (∀ c, s.cars[index.toNat]? = some c →
          (part = 0 → data = one c.tag ++ four c.stamp ++ optional 4 four c.length ++ optional 4 four c.tentative ++
            one c.phase.code ++ one (c.flags.uncalled.toNat + 2 * c.flags.oversize.toNat + 4 * c.flags.foreign.toNat +
              8 * c.flags.struck.toNat) ++ orFF c.nextEye ++ four (s.belt.count - c.stamp) ++
            optional 4 four (c.length.map fun l => s.belt.count - c.stamp - l) ++ one s.cars.length ++ one s.nextTag) ∧
          (part = 1 → data = one c.tag ++ one c.plan.val ++
            optional 8 (fun x : Sale => two x.number ++ one x.terminal ++ one x.plan.val ++ [x.options] ++ two x.amount ++
              one x.tender.code) c.sale ++ four c.activity ++ four c.served ++ four c.missed ++ one s.cars.length ++
            one s.nextTag))) ∧
      (∀ tail, table = 21 → index.toNat ≤ 23 → part = 0 →
        tail = one s.book.queue.length ++ one s.book.queue.length ++ one s.reserve ++ two s.book.nextNumber →
        (s.book.queue[index.toNat]? = none → data = tail) ∧
        (∀ q, s.book.queue[index.toNat]? = some q → data = one (index.toNat + 1) ++ two q.sale.number ++
          one q.sale.terminal ++ one q.sale.plan.val ++ [q.sale.options] ++ two q.sale.amount ++ one q.sale.tender.code ++
          four q.activity ++ tail)) ∧
      (∀ (k : Fin 15) tail, table = 22 → index.toNat = k.val + 1 → part = 0 →
        tail = one s.book.openQuotes ++ one s.book.queue.length ++ one s.reserve ++ two s.book.nextNumber →
        (s.book.quotes[k] = none → data = tail) ∧
        (∀ q, s.book.quotes[k] = some q → data = two q.number ++ one q.plan.val ++ [q.options] ++ two q.amount ++
          four q.activity ++ four (BitVec.ofNat 32 q.hold) ++ tail)) ∧
      (∀ (cause : Cause → List Byte) tail, table = 23 → index.toNat ≤ 7 →
        (∀ x, cause x = one x.kind.code ++ four x.belt ++ four x.uptime ++ orZero x.tag ++ orZero x.tag2 ++
          orFF x.station ++ orFF x.eye) →
        tail = one s.halt.log.length ++ one s.halt.state.code ++ one (levelCode s.halt.estop) ++
          one (levelCode s.halt.line) ++ one s.halt.nextNumber →
        (s.halt.log[index.toNat]? = none → part.toNat ≤ 4 → data = tail) ∧
        (∀ r, s.halt.log[index.toNat]? = some r →
          (part = 0 → data = one r.number ++ one r.state.code ++ cause r.primary ++ one r.more ++ four r.opened ++
            optional 5 (fun x : Word × Way => four x.1 ++ one x.2.code) r.closed ++ tail) ∧
          (1 ≤ part.toNat → part.toNat ≤ 4 → r.secondary.length < part.toNat → data = tail) ∧
          (∀ x, 1 ≤ part.toNat → part.toNat ≤ 4 → r.secondary[part.toNat - 1]? = some x → data = cause x ++ tail))) ∧
      (∀ (i : StationId) (st : Station), table = 24 → part = 0 → index.toNat = i.val → st = s.seq.stations[i] →
        data = one st.phase.code ++ orZero st.car ++
          optional 5 (fun o : StationOrder => one o.action.code ++ orZero o.number ++ orZero o.car ++ flag o.transmitted ++
            one o.wait.code) st.current ++
          optional 1 (fun a : Action => one a.code) st.queued ++ one st.position.code ++ one st.load ++ one 32 ++
          one s.seq.nextNumber)) ∧
  ((∀ n : Nat, one n = [BitVec.ofNat 8 n] ∧ two n = [BitVec.ofNat 8 (n / 256), BitVec.ofNat 8 n] ∧
      orZero (some n) = [BitVec.ofNat 8 n] ∧ orFF (some n) = [BitVec.ofNat 8 n]) ∧
    (∀ x : Word, four x = [BitVec.ofNat 8 (x.toNat / 16777216), BitVec.ofNat 8 (x.toNat / 65536),
      BitVec.ofNat 8 (x.toNat / 256), BitVec.ofNat 8 x.toNat]) ∧
    (∀ x : BitVec 16, twoBits x = two x.toNat) ∧ flag true = [1] ∧ flag false = [0] ∧ orZero none = [0] ∧
    orFF none = [255] ∧
    (∀ (n : Nat) (write : Nat → List Byte), optional n write none = 0 :: List.replicate n 0 ∧
      ∀ x, optional n write (some x) = 1 :: write x) ∧
    levelCode .released = 0 ∧ levelCode .asserted = 1 ∧
    [StationKind.posted, .acked, .arm].map StationKind.code = [0, 1, 2] ∧
    [PlanState.absent, .offered, .withdrawn].map PlanState.code = [0, 1, 2] ∧
    [Polarity.activeHigh, .activeLow].map Polarity.code = [0, 1] ∧
    [PassMode.always, .idleOnly, .haltedOnly].map PassMode.code = [0, 1, 2] ∧
    [PacerState.stopped, .starting, .running, .pointStop, .stopping, .halted].map PacerState.code = [0, 1, 2, 3, 4, 5] ∧
    [Decel.dec, .decHard].map Decel.code = [0, 1] ∧ [StopWatch.idle, .watching, .met].map StopWatch.code = [0, 1, 2] ∧
    [GatePhase.closed, .waiting, .ready, .calling, .rolling].map GatePhase.code = [0, 1, 2, 3, 4] ∧
    [RingState.up, .down].map RingState.code = [0, 1] ∧
    [CarPhase.entering, .riding, .leaving].map CarPhase.code = [0, 1, 2] ∧
    [Tender.cash, .card, .account, .free].map Tender.code = [0, 1, 2, 3] ∧
    [HaltState.clear, .halting, .halted, .restarting].map HaltState.code = [0, 1, 2, 3] ∧
    [IncidentState.unacked, .acked, .closed].map IncidentState.code = [0, 1, 2] ∧
    [CauseKind.estop, .manual, .armStrike, .armStuck, .carRoll, .object, .crowding, .foreignObject, .trackFull, .exitCrash,
      .stall, .overrun, .driveFault, .encoder, .ringLoss, .driveNoStop].map CauseKind.code = List.range 16 ∧
    [Way.resumed, .reset].map Way.code = [0, 1] ∧
    [StationPhase.idle, .engaging, .engaged, .releasing, .fault].map StationPhase.code = [0, 1, 2, 3, 4] ∧
    [Action.on, .off, .inn, .out, .call, .start].map Action.code = [1, 2, 3, 4, 5, 6] ∧
    [Wait.ack, .ret, .position].map Wait.code = [0, 1, 2] ∧
    [ArmPosition.unknown, .out, .moving, .inn].map ArmPosition.code = [0, 1, 2, 3]) ∧
  (∀ (s : State) (h : Head) (table : Byte) (rest : List Byte),
    (∀ k c, (k, c) ∈ [(1, Instr.stationWrite h rest), (2, .aliasWrite h rest), (3, .planWrite h rest), (4, .optionWrite h rest),
        (5, .codeWrite h rest), (6, .eyeWrite h rest), (7, .passWrite h rest), (8, .pacingWrite h rest), (9, .gateWrite h rest),
        (10, .trackWrite h rest), (11, .timingWrite h rest), (12, .arbiterWrite h rest), (13, .nodeEncoderWrite h rest)] →
      table.toNat = k → exec (.tableWrite h (table :: rest)) s = exec c s) ∧
    (∀ index e (k : Fin 8), table = 4 → s.accepts h → optionOperands rest = some (index, e) → index = k.val →
      ∃ t, exec (.tableWrite h (table :: rest)) s = .next t ∧
        t.book = { s.book with options := s.book.options.set k e } ∧
        Replies [.book] s t (mgmtReply s h 0x02 .ok (two e.price ++ four e.added))) ∧
    (table.toNat = 0 ∨ 14 ≤ table.toNat → s.accepts h → rest ≠ [] →
      ∃ t, exec (.tableWrite h (table :: rest)) s = .next t ∧ Replies [] s t (mgmtReply s h 0x02 .badTable [])))

/-- A STATION write: the first check that fails names the refusal; otherwise the entry is stored, clamped field by field, a
change of kind forgets the arm's report, and the reply carries the entry as stored. An ALIAS write: BAD_INDEX, BAD_VALUE for an
address above 126 or one that another ARM station holds, BUSY while the station serves or has an order in flight; otherwise the
alias is stored, and a new alias of an ARM station forgets the arm's report. -/
def Obligations.StationsAndAliasesAreWritten : Prop :=
  (∀ (s : State) (h : Head) (ops : List Byte) (w : StationWrite), s.accepts h → stationOperands ops = some w →
    (∀ r, r ≠ .ok →
      r = (if 32 ≤ w.index then .badIndex
        else if s.cars ≠ [] then .occupied
        else if s.track.length = 0 then .notConfigured
        else if 3 ≤ w.kind ∨ w.windowEnd < w.windowStart then .badValue
        else .ok) →
      ∃ t, exec (.stationWrite h ops) s = .next t ∧ Replies [] s t (mgmtReply s h 0x02 r [])) ∧
    (∀ (i : StationId) (kind : StationKind), w.index = i.val → s.cars = [] → s.track.length ≠ 0 → kindOf w.kind = some kind →
      w.windowStart ≤ w.windowEnd →
      (kind = .arm → s.map.aliases[i] ≠ 0 →
          (∃ j : StationId, j ≠ i ∧ s.map.table[j].kind = .arm ∧ s.map.aliases[j] = s.map.aliases[i]) →
        ∃ t, exec (.stationWrite h ops) s = .next t ∧ Replies [] s t (mgmtReply s h 0x02 .badValue [])) ∧
      (kind ≠ .arm ∨ s.map.aliases[i] = 0 ∨
          (∀ j : StationId, j ≠ i → s.map.table[j].kind = .arm → s.map.aliases[j] ≠ s.map.aliases[i]) →
        (kind ≠ s.map.table[i].kind → (s.seq.stations[i].phase ≠ .idle ∧ s.seq.stations[i].phase ≠ .fault) ∨
            s.seq.stations[i].current.isSome = true →
          ∃ t, exec (.stationWrite h ops) s = .next t ∧ Replies [] s t (mgmtReply s h 0x02 .busy [])) ∧
        (kind = s.map.table[i].kind ∨ ((s.seq.stations[i].phase = .idle ∨ s.seq.stations[i].phase = .fault) ∧
            s.seq.stations[i].current = none) →
          ∃ t e, exec (.stationWrite h ops) s = .next t ∧
            e = { kind := kind
                  windowStart := min s.track.length w.windowStart
                  windowEnd := min s.track.length w.windowEnd
                  front := min 2000 w.front
                  rear := max (-1000) (min 2000 w.rear)
                  travel := min 5000 w.travel
                  busy := max 100 (min 10000 w.busy)
                  load := max 1 (min 255 w.load)
                  cap := if w.cap = 0 then 0 else max 160 (min 4800 w.cap)
                  weight := min 255 w.weight } ∧
            t.map = { s.map with table := s.map.table.set i e } ∧
            t.seq = (if kind = s.map.table[i].kind then s.seq
              else { s.seq with
                stations := s.seq.stations.set i { s.seq.stations[i] with position := .unknown, load := 0 } }) ∧
            Replies [.map, .seq] s t (mgmtReply s h 0x02 (if e = w.entry kind then .ok else .okClamped) e.bytes))))) ∧
  (∀ (s : State) (h : Head) (index node : Byte), s.accepts h →
    (32 ≤ index.toNat →
      ∃ t, exec (.aliasWrite h [index, node]) s = .next t ∧ Replies [] s t (mgmtReply s h 0x02 .badIndex [])) ∧
    (∀ i : StationId, index.toNat = i.val →
      (127 ≤ node.toNat ∨ (s.map.table[i].kind = .arm ∧ node.toNat ≠ 0 ∧
          ∃ j : StationId, j ≠ i ∧ s.map.table[j].kind = .arm ∧ s.map.aliases[j] = node.toNat) →
        ∃ t, exec (.aliasWrite h [index, node]) s = .next t ∧ Replies [] s t (mgmtReply s h 0x02 .badValue [])) ∧
      (node.toNat ≤ 126 → s.map.table[i].kind ≠ .arm ∨ node.toNat = 0 ∨
          (∀ j : StationId, j ≠ i → s.map.table[j].kind = .arm → s.map.aliases[j] ≠ node.toNat) →
        ((s.seq.stations[i].phase ≠ .idle ∧ s.seq.stations[i].phase ≠ .fault) ∨ s.seq.stations[i].current.isSome = true →
          ∃ t, exec (.aliasWrite h [index, node]) s = .next t ∧ Replies [] s t (mgmtReply s h 0x02 .busy [])) ∧
        (s.seq.stations[i].phase = .idle ∨ s.seq.stations[i].phase = .fault → s.seq.stations[i].current = none →
          ∃ t, exec (.aliasWrite h [index, node]) s = .next t ∧
            t.map = { s.map with aliases := s.map.aliases.set i node.toNat } ∧
            t.seq = (if s.map.table[i].kind = .arm ∧ s.map.aliases[i] ≠ node.toNat then
                { s.seq with stations := s.seq.stations.set i { s.seq.stations[i] with position := .unknown, load := 0 } }
              else s.seq) ∧
            Replies [.map, .seq] s t (mgmtReply s h 0x02 .ok [node])))))

/-- PLAN, OPTION, CODE and PASS writes: BAD_INDEX and BAD_VALUE as their rules say, and otherwise the entry, with a discount
above 100 stored as 100 and an ABSENT plan at its power-on values. PLAN entry 0 carries every field and uses the station set
alone; a flag byte other than 0 and 1 is answered BAD_VALUE, and nothing is stored (the model's choices, log 20 and log 22). -/
def Obligations.SaleAndPassTablesAreWritten : Prop :=
  ∀ (s : State) (h : Head) (ops : List Byte), s.accepts h →
    (∀ w, planOperands ops = some w → ∃ t, exec (.planWrite h ops) s = .next t ∧
      (16 ≤ w.index ∨ (1 ≤ w.index ∧ w.index ≤ 15 ∧ (3 ≤ w.state ∨ w.essential &&& ~~~w.stations ≠ 0)) →
        Replies [] s t (mgmtReply s h 0x02 (if 16 ≤ w.index then .badIndex else .badValue) [])) ∧
      (w.index = 0 →
        t.book = { s.book with plans := s.book.plans.set 0 { s.book.plans[(0 : Fin 16)] with stations := w.stations } } ∧
        Replies [.book] s t (mgmtReply s h 0x02 .ok
          (Plan.bytes { s.book.plans[(0 : Fin 16)] with stations := w.stations }))) ∧
      (∀ (k : Fin 16) state, 1 ≤ k.val → w.index = k.val → planStateOf w.state = some state →
        w.essential &&& ~~~w.stations = 0 →
        ∃ p : Plan, p = (if state = .absent then
            { state := .absent, price := 0, stations := 0, essential := 0, allow := 0 }
          else { state := state, price := w.price, stations := w.stations, essential := w.essential, allow := w.allow }) ∧
          t.book = { s.book with plans := s.book.plans.set k p } ∧ Replies [.book] s t (mgmtReply s h 0x02 .ok p.bytes))) ∧
    (∀ index e, optionOperands ops = some (index, e) → ∃ t, exec (.optionWrite h ops) s = .next t ∧
      (8 ≤ index → Replies [] s t (mgmtReply s h 0x02 .badIndex [])) ∧
      (∀ k : Fin 8, index = k.val → t.book = { s.book with options := s.book.options.set k e } ∧
        Replies [.book] s t (mgmtReply s h 0x02 .ok (two e.price ++ four e.added)))) ∧
    (∀ w, codeOperands ops = some w → ∃ t, exec (.codeWrite h ops) s = .next t ∧
      (8 ≤ w.index → Replies [] s t (mgmtReply s h 0x02 .badIndex [])) ∧
      (w.index ≤ 7 → w.plan = 0 ∨ 16 ≤ w.plan ∨ 2 ≤ w.enabled ∨ 2 ≤ w.grant →
        Replies [] s t (mgmtReply s h 0x02 .badValue [])) ∧
      (∀ (k : Fin 8) (plan : Fin 16) enabled grant, w.index = k.val → 1 ≤ plan.val → w.plan = plan.val →
        flagOf w.enabled = some enabled → flagOf w.grant = some grant →
        ∃ e : CodeWindow, e = { enabled := enabled, base := w.base, mask := w.mask, plan := plan
                                discount := min 100 w.discount, grant := grant } ∧
          t.book = { s.book with codes := s.book.codes.set k e } ∧
          Replies [.book] s t (mgmtReply s h 0x02 (if 100 < w.discount then .okClamped else .ok) e.bytes))) ∧
    (∀ w, passOperands ops = some w → ∃ t, exec (.passWrite h ops) s = .next t ∧
      (4 ≤ w.index → Replies [] s t (mgmtReply s h 0x02 .badIndex [])) ∧
      (w.index ≤ 3 → 128 ≤ w.base ∨ 128 ≤ w.mask ∨ 2 ≤ w.enabled ∨ 3 ≤ w.mode →
        Replies [] s t (mgmtReply s h 0x02 .badValue [])) ∧
      (∀ (k : Fin 4) enabled mode, w.index = k.val → w.base ≤ 127 → w.mask ≤ 127 → flagOf w.enabled = some enabled →
        passModeOf w.mode = some mode →
        ∃ e : PassWindow, e = { enabled := enabled, base := w.base, mask := w.mask, mode := mode } ∧
          t.office.windows = s.office.windows.set k e ∧ t.office.address = s.office.address ∧
          t.office.replyLost = s.office.replyLost ∧ t.office.noticeLost = s.office.noticeLost ∧
          t.office.badFrames = s.office.badFrames ∧
          t.office.outgoing = s.office.tx.toList ++
            (s.office.replies ++ [mgmtReply s h 0x02 .ok e.bytes]).map .reply ++ s.office.notices.map .notice ∧
          Touches [.office] s t))

/-- PACING, TIMING and ARBITER writes are taken in every state, each value clamped into its range and DEC_HARD raised to DEC.
A PACING or ARBITER write that carries runtime fields behind its writable fields is taken as one without them (their layout is the
model's choice, log 21). -/
def Obligations.PacingTimingAndArbiterAreWritten : Prop :=
  ∀ (s : State) (h : Head) (ops : List Byte), s.accepts h →
    (∀ runtime : List Byte,
      (ops.length = 15 → runtime.length ≤ 29 → exec (.pacingWrite h (ops ++ runtime)) s = exec (.pacingWrite h ops) s) ∧
      (ops.length = 4 → runtime.length ≤ 14 → exec (.arbiterWrite h (ops ++ runtime)) s = exec (.arbiterWrite h ops) s)) ∧
    (∀ w, pacingOperands ops = some w → ∃ t, exec (.pacingWrite h ops) s = .next t ∧
      (w.index ≠ 0 → Replies [] s t (mgmtReply s h 0x02 .badIndex [])) ∧
      (w.index = 0 → ∃ p : Pacer, p = { s.pacer with
          accel := max 1 (min 480 w.accel)
          dec := max 1 (min 480 w.dec)
          decHard := max (max 1 (min 480 w.dec)) (max 1 (min 960 w.decHard))
          slip := max 20 (min 2000 w.slip)
          overrun := max 20 (min 2000 w.overrun)
          margin := min 2000 w.margin
          approach := max 200 (min 6000 w.approach) } ∧
        t.pacer = p ∧ Replies [.pacer] s t (mgmtReply s h 0x02 (if p = { s.pacer with
          accel := w.accel, dec := w.dec, decHard := w.decHard, slip := w.slip, overrun := w.overrun, margin := w.margin
          approach := w.approach } then .ok else .okClamped)
          (two p.accel ++ two p.dec ++ two p.decHard ++ two p.slip ++ two p.overrun ++ two p.margin ++ two p.approach)))) ∧
    (∀ index w, timingOperands ops = some (index, w) → ∃ t, exec (.timingWrite h ops) s = .next t ∧
      (index ≠ 0 → Replies [] s t (mgmtReply s h 0x02 .badIndex [])) ∧
      (index = 0 → ∃ e : Timing, e =
          { encoderSilence := max 20 (min 1000 w.encoderSilence)
            orderAck := max 10 (min 500 w.orderAck)
            driveStart := max 50 (min 2000 w.driveStart)
            driveStop := max 500 (min 10000 w.driveStop)
            quoteHold := max 5 (min 600 w.quoteHold)
            ringCheck := max 10 (min 200 w.ringCheck)
            ringTimeout := max 5 (min 100 w.ringTimeout) } ∧
        t.timing = e ∧ Replies [.timing] s t (mgmtReply s h 0x02 (if e = w then .ok else .okClamped)
          (two e.encoderSilence ++ two e.orderAck ++ two e.driveStart ++ two e.driveStop ++ two e.quoteHold ++
            one e.ringCheck ++ one e.ringTimeout)))) ∧
    (∀ index motion order pass, arbiterOperands ops = some (index, motion, order, pass) →
      ∃ t, exec (.arbiterWrite h ops) s = .next t ∧
      (index ≠ 0 → Replies [] s t (mgmtReply s h 0x02 .badIndex [])) ∧
      (index = 0 →
        t.ring = { s.ring with prioMotion := max 1 (min 15 motion), prioOrder := max 1 (min 15 order)
                               prioPass := max 1 (min 15 pass) } ∧
        Replies [.ring] s t (mgmtReply s h 0x02
          (if 1 ≤ motion ∧ motion ≤ 15 ∧ 1 ≤ order ∧ order ≤ 15 ∧ 1 ≤ pass ∧ pass ≤ 15 then .ok else .okClamped)
          (one (max 1 (min 15 motion)) ++ one (max 1 (min 15 order)) ++ one (max 1 (min 15 pass))))))

/-- A GATE write stores the clamped parameters and is followed by an admission check, which in READY calls the next car if the
conditions hold with the stored parameters. A TRACK write that changes L is refused with cars in the tunnel or an enabled
tracking eye beyond the new L, and lowers every station window to it; the drift halt tolerance is raised to the drift adjust
tolerance. A write changes L when the clamped value differs (the model's reading, log 16); a flag byte other than 0 and 1 is
BAD_VALUE (log 22). A GATE write that carries runtime fields behind its writable fields is taken as one without them (their
layout is the model's choice, log 21). -/
def Obligations.GateAndTrackAreWritten : Prop :=
  ∀ (s : State) (h : Head) (ops : List Byte), s.accepts h →
    (∀ runtime : List Byte, ops.length = 8 → runtime.length ≤ 13 → runtime.length ≠ 4 → runtime.length ≠ 9 →
      exec (.gateWrite h (ops ++ runtime)) s = exec (.gateWrite h ops) s) ∧
    (∀ w, gateOperands ops = some w → ∃ t, exec (.gateWrite h ops) s = .next t ∧
      (w.index ≠ 0 → Replies [] s t (mgmtReply s h 0x02 .badIndex [])) ∧
      (w.index = 0 → 2 ≤ w.admitUnsold → Replies [] s t (mgmtReply s h 0x02 .badValue [])) ∧
      (∀ u reply, w.index = 0 → w.admitUnsold ≤ 1 →
        u = { s with gate := { s.gate with
          pitch := max 500 (min 10000 w.pitch)
          gap := max 100 (min 5000 w.gap)
          reach := max 200 (min 4000 w.reach)
          admitUnsold := decide (w.admitUnsold = 1) } } →
        reply = mgmtReply s h 0x02
          (if 500 ≤ w.pitch ∧ w.pitch ≤ 10000 ∧ 100 ≤ w.gap ∧ w.gap ≤ 5000 ∧ 200 ≤ w.reach ∧ w.reach ≤ 4000 then .ok
            else .okClamped)
          (two (max 500 (min 10000 w.pitch)) ++ two (max 100 (min 5000 w.gap)) ++ two (max 200 (min 4000 w.reach)) ++
            one w.admitUnsold) →
        (s.gate.phase = .ready → u.admissible = true →
          t.gate = { u.gate with phase := .calling, call := some { number := s.freeOrderNumber, transmitted := false } } ∧
          t.ring = s.ring.push .order (.order s.gate.roller s.freeOrderNumber .call 0) ∧
          t.seq = { s.seq with nextNumber := nextInSequence 255 s.freeOrderNumber } ∧
          Replies [.gate, .ring, .seq] s t reply) ∧
        (s.gate.phase ≠ .ready ∨ u.admissible = false → t.gate = u.gate ∧ Replies [.gate] s t reply))) ∧
    (∀ w, trackOperands ops = some w → ∃ (t : State) (e : Track), exec (.trackWrite h ops) s = .next t ∧
      e = { length := max 1000 (min 30000 w.track.length)
            merge := min 500 w.track.merge
            minObject := max 100 (min 1500 w.track.minObject)
            maxCar := max 1500 (min 6000 w.track.maxCar)
            crowd := max 50 (min 2000 w.track.crowd)
            driftAdjust := min 200 w.track.driftAdjust
            driftHalt := max (min 200 w.track.driftAdjust) (max 20 (min 500 w.track.driftHalt))
            expiry := max 500 (min 5000 w.track.expiry) } ∧
      (w.index ≠ 0 → Replies [] s t (mgmtReply s h 0x02 .badIndex [])) ∧
      (w.index = 0 → e.length ≠ s.track.length → s.cars ≠ [] → Replies [] s t (mgmtReply s h 0x02 .occupied [])) ∧
      (w.index = 0 → e.length ≠ s.track.length → s.cars = [] →
        (∃ k ∈ trackingEyes, s.eyes[k].enabled = true ∧ e.length ≤ s.eyes[k].position) →
        Replies [] s t (mgmtReply s h 0x02 .badValue [])) ∧
      (w.index = 0 → e.length = s.track.length ∨
          (s.cars = [] ∧ ∀ k ∈ trackingEyes, s.eyes[k].enabled = true → s.eyes[k].position < e.length) →
        t.track = e ∧
        t.map = (if e.length = s.track.length then s.map
          else { s.map with table := s.map.table.map fun x =>
            { x with windowStart := min e.length x.windowStart, windowEnd := min e.length x.windowEnd } }) ∧
        Replies [.track, .map] s t (mgmtReply s h 0x02 (if e = w.track then .ok else .okClamped) e.bytes)))

/-- An EYE write: the first check that fails names the refusal; otherwise the entry is stored OFF and reliable. Writing the
loading eye or the exit-zone eye is an off edge to the gate or the pacer (shown where neither acts on it). An eye that does not
track keeps position 0 and is stored and shown reliable, a flag byte above 1 is BAD_VALUE, and disabling an entry or exit eye that
is disabled already is tested too (the model's choices, log 20, log 44, log 22 and log 37). A write that carries reliable, state or
both behind its writable fields is taken as one without them (their layout is the model's choice, log 21). -/
def Obligations.EyesAreWritten : Prop :=
  ∀ (s : State) (h : Head) (ops : List Byte) (w : EyeWrite), s.accepts h → eyeOperands ops = some w →
    (∀ runtime : List Byte, ops.length = 7 → runtime.length ≤ 2 →
      exec (.eyeWrite h (ops ++ runtime)) s = exec (.eyeWrite h ops) s) ∧
    (∀ r, r ≠ .ok →
      r = (if 10 ≤ w.index then .badIndex
        else if s.cars ≠ [] then .occupied
        else if w.enabled = 0 ∧ (w.index = 1 ∨ w.index = 2) ∧ s.pacer.state ≠ .stopped then .wrongState
        else if w.node = 0 ∨ 127 ≤ w.node ∨ 8 ≤ w.input ∨ 2 ≤ w.polarity ∨ 2 ≤ w.enabled then .badValue
        else .ok) →
      ∃ t, exec (.eyeWrite h ops) s = .next t ∧ Replies [] s t (mgmtReply s h 0x02 r [])) ∧
    (∀ (k : Fin 10) enabled polarity, w.index = k.val → s.cars = [] →
      enabled = true ∨ (k ≠ 1 ∧ k ≠ 2) ∨ s.pacer.state = .stopped → flagOf w.enabled = some enabled →
      polarityOf w.polarity = some polarity → 1 ≤ w.node → w.node ≤ 126 → w.input ≤ 7 →
      ∃ (t : State) (e : Eye), exec (.eyeWrite h ops) s = .next t ∧
        e = { enabled := enabled, node := w.node, input := w.input, polarity := polarity
              position := if 4 ≤ k.val then max 1 (min 29999 w.position) else 0, reliable := true, on := false } ∧
        (enabled = true → ((∃ j : Fin 10, j ≠ k ∧ s.eyes[j].enabled = true ∧ s.eyes[j].node = w.node ∧
            s.eyes[j].input = w.input) ∨
            (4 ≤ k.val ∧ (s.track.length ≤ e.position ∨ (∃ j : Fin 10, 4 ≤ j.val ∧ s.eyes[j].enabled = true ∧
              ((j < k ∧ e.position ≤ s.eyes[j].position) ∨ (k < j ∧ s.eyes[j].position ≤ e.position)))))) →
          Replies [] s t (mgmtReply s h 0x02 .badValue [])) ∧
        (enabled = false ∨ ((∀ j : Fin 10, j ≠ k → s.eyes[j].enabled = true → s.eyes[j].node = w.node →
            s.eyes[j].input ≠ w.input) ∧
            (4 ≤ k.val → e.position < s.track.length ∧ (∀ j : Fin 10, 4 ≤ j.val → s.eyes[j].enabled = true →
              (j < k → s.eyes[j].position < e.position) ∧ (k < j → e.position < s.eyes[j].position)))) →
          (k = 0 → s.gate.phase ≠ .ready) → (k = 3 → s.pacer.state ≠ .pointStop) →
          t.eyes = s.eyes.set k e ∧
          Replies [.eyes] s t (mgmtReply s h 0x02
            (if 4 ≤ k.val ∧ e.position ≠ w.position then .okClamped else .ok) e.bytes)))

/-- NODE writes, in whichever of the four rows: the named fields are checked in the order encoder, drive, roller, office, and
all are stored or none; a new encoder forgets the last sample, a written drive address is frozen unless it is 0, and the reply
leaves from the new office address. One write may name several fields, in whichever row it stands, and mask bits 4 to 7 are
ignored (the model's choices, log 22 and log 31). -/
def Obligations.NodesAreWritten : Prop :=
  ∀ (s : State) (h : Head) (ops : List Byte) (w : NodeWrite) (c : Instr), s.accepts h → nodeOperands ops = some w →
    c ∈ [Instr.nodeEncoderWrite h ops, .nodeDriveWrite h ops, .nodeRollerWrite h ops, .nodeOfficeWrite h ops] →
    ∃ t, exec c s = .next t ∧
      (w.index ≠ 0 → Replies [] s t (mgmtReply s h 0x02 .badIndex [])) ∧
      (∀ r, w.index = 0 → r ≠ .ok →
        r = (if w.mask.getLsbD 0 = true ∧ w.encoder ≠ s.belt.encoder ∧ 127 ≤ w.encoder then .badValue
          else if w.mask.getLsbD 0 = true ∧ w.encoder ≠ s.belt.encoder ∧ s.pacer.state ≠ .stopped then .wrongState
          else if w.mask.getLsbD 1 = true ∧ 127 ≤ w.drive then .badValue
          else if w.mask.getLsbD 1 = true ∧ s.pacer.state ≠ .stopped then .wrongState
          else if w.mask.getLsbD 2 = true ∧ w.roller ≠ s.gate.roller ∧ 127 ≤ w.roller then .badValue
          else if w.mask.getLsbD 2 = true ∧ w.roller ≠ s.gate.roller ∧ (s.gate.phase = .calling ∨ s.gate.phase = .rolling ∨
              (w.roller = 0 ∧ s.gate.isOpen = true)) then .wrongState
          else if w.mask.getLsbD 3 = true ∧ (w.office ≤ 63 ∨ 127 ≤ w.office) then .badValue
          else .ok) →
        Replies [] s t (mgmtReply s h 0x02 r [])) ∧
      (w.index = 0 →
        (w.mask.getLsbD 0 = true → w.encoder = s.belt.encoder ∨ (w.encoder ≤ 126 ∧ s.pacer.state = .stopped)) →
        (w.mask.getLsbD 1 = true → w.drive ≤ 126 ∧ s.pacer.state = .stopped) →
        (w.mask.getLsbD 2 = true → w.roller = s.gate.roller ∨ (w.roller ≤ 126 ∧ s.gate.phase ≠ .calling ∧
          s.gate.phase ≠ .rolling ∧ (w.roller ≠ 0 ∨ s.gate.isOpen = false))) →
        (w.mask.getLsbD 3 = true → 64 ≤ w.office ∧ w.office ≤ 126) →
        t.belt = (if w.mask.getLsbD 0 = true ∧ w.encoder ≠ s.belt.encoder then
            { s.belt with encoder := w.encoder, lastRaw := none }
          else s.belt) ∧
        t.pacer = (if w.mask.getLsbD 1 = true then
            { s.pacer with
              drive := w.drive
              freeze := w.drive != 0
              report := if w.drive = s.pacer.drive then s.pacer.report else none }
          else s.pacer) ∧
        t.gate = (if w.mask.getLsbD 2 = true then { s.gate with roller := w.roller } else s.gate) ∧
        t.office.address = (if w.mask.getLsbD 3 = true then w.office else s.office.address) ∧
        t.office.outgoing = s.office.tx.toList ++
          (s.office.replies ++ [Reply.mk t.office.address h.src (.mgmt 0x02 .ok
            (one t.belt.encoder ++ one t.pacer.drive ++ one t.gate.roller ++ one t.office.address))]).map .reply ++
          s.office.notices.map .notice ∧
        t.office.windows = s.office.windows ∧ t.office.replyLost = s.office.replyLost ∧
        t.office.noticeLost = s.office.noticeLost ∧ t.office.badFrames = s.office.badFrames ∧
        Touches [.belt, .pacer, .gate, .office] s t)

/-! ## The gate and the belt (R48, R49, R57 to R59, R65 to R70, R73) -/

/-- GATE OPEN needs a roller, sets the open flag and calls a car at once if it may; GATE CLOSE clears the flag and leaves a
call in flight alone. -/
def Obligations.GateOpensAndCloses : Prop :=
  ∀ (s : State) (h : Head), s.accepts h →
    (∃ t, exec (.gateOpen h []) s = .next t ∧
      (s.gate.roller = 0 → Replies [] s t (mgmtReply s h 0x10 .notConfigured [])) ∧
      (s.gate.roller ≠ 0 → ∃ p : GatePhase,
        p = (if s.gate.phase = .closed then (if s.eyes[(0 : Fin 10)].on then .ready else .waiting) else s.gate.phase) ∧
        (p ≠ .ready ∨ (s.onGate fun g => { g with isOpen := true }).admissible = false →
          t.gate = { s.gate with isOpen := true, phase := p } ∧ Replies [.gate] s t (mgmtReply s h 0x10 .ok [])) ∧
        (p = .ready → (s.onGate fun g => { g with isOpen := true }).admissible = true →
          t.gate = { s.gate with
            isOpen := true, phase := .calling, call := some { number := s.freeOrderNumber, transmitted := false } } ∧
          t.ring = s.ring.push .order (.order s.gate.roller s.freeOrderNumber .call 0) ∧
          t.seq = { s.seq with nextNumber := nextInSequence 255 s.freeOrderNumber } ∧
          Replies [.gate, .ring, .seq] s t (mgmtReply s h 0x10 .ok [])))) ∧
    (∃ t, exec (.gateClose h []) s = .next t ∧
      t.gate = { s.gate with
        isOpen := false
        phase := if s.gate.phase = .waiting ∨ s.gate.phase = .ready then .closed else s.gate.phase } ∧
      Replies [.gate] s t (mgmtReply s h 0x11 .ok []))

/-- RUN, by the pacer state: in STOPPED it checks the configuration and the ring and issues a START; elsewhere but in HALTED it
replaces the run speed, and in STOPPING returns to RUNNING (shown where no car blocks the exit, the gate is not READY and no
restart is under way). The speed is clamped into 160..4800. The data of its reply is the model's reading (log 17). -/
def Obligations.RunIsTaken : Prop :=
  ∀ (s : State) (h : Head) (ops : List Byte) (v : Nat), s.accepts h → wordOperand ops = some v →
    ∃ t speed reply, exec (.run h ops) s = .next t ∧ speed = max 160 (min 4800 v) ∧
      reply = (if speed = v then mgmtReply s h 0x12 .ok [] else mgmtReply s h 0x12 .okClamped (two speed)) ∧
      (s.pacer.state = .stopped →
        s.track.length = 0 ∨ s.eyes[(1 : Fin 10)].enabled = false ∨ s.eyes[(2 : Fin 10)].enabled = false ∨
          s.belt.encoder = 0 ∨ s.pacer.drive = 0 →
        Replies [] s t (mgmtReply s h 0x12 .notConfigured [])) ∧
      (s.pacer.state = .stopped → s.track.length ≠ 0 → s.eyes[(1 : Fin 10)].enabled = true →
        s.eyes[(2 : Fin 10)].enabled = true → s.belt.encoder ≠ 0 → s.pacer.drive ≠ 0 →
        (s.ring.state = .down → Replies [] s t (mgmtReply s h 0x12 .ringDown [])) ∧
        (s.ring.state = .up →
          t.pacer = { s.pacer with
            state := .starting, runSpeed := speed, start := some { number := s.freeOrderNumber, transmitted := false } } ∧
          t.belt = { s.belt with silence := some s.timing.encoderSilence } ∧
          t.ring = s.ring.push .order (.order s.pacer.drive s.freeOrderNumber .start 0) ∧
          t.seq = { s.seq with nextNumber := nextInSequence 255 s.freeOrderNumber } ∧
          Replies [.pacer, .belt, .ring, .seq] s t reply)) ∧
      (s.pacer.state = .starting ∨ s.pacer.state = .running ∨ s.pacer.state = .pointStop →
        t.pacer = { s.pacer with runSpeed := speed } ∧ Replies [.pacer] s t reply) ∧
      (s.pacer.state = .stopping → s.halt.state ≠ .restarting → s.gate.phase ≠ .ready → s.blockedBy = none →
        t.pacer = { s.pacer with state := .running, runSpeed := speed } ∧ Replies [.pacer] s t reply) ∧
      (s.pacer.state = .halted → Replies [] s t (mgmtReply s h 0x12 .wrongState []))

/-- STOP is answered OK in every state: it ends RUNNING and POINT_STOP in STOPPING, abandons a START (with a SETPOINT 0 if the
START was sent), and takes the resume flag away in HALTED. A START that is being transmitted is neither withdrawn nor followed
by a SETPOINT (the model's reading, log 14). -/
def Obligations.StopIsTaken : Prop :=
  ∀ (s : State) (h : Head), s.accepts h →
    ∃ t, exec (.stop h []) s = .next t ∧
      (s.pacer.state = .running ∨ s.pacer.state = .pointStop →
        t.pacer = { s.pacer with state := .stopping, pointStop := none } ∧
        Replies [.pacer] s t (mgmtReply s h 0x13 .ok [])) ∧
      (∀ r, s.pacer.state = .starting → s.pacer.start = some r →
        t.pacer = { s.pacer with
          state := .stopped
          start := none
          startTimer := none
          lastSent := if r.transmitted then 0 else s.pacer.lastSent
          refresh := if r.transmitted then 0 else s.pacer.refresh } ∧
        (∃ q : Ring, q = { s.ring with order := s.ring.order.filter fun f =>
            match f with
            | .order _ n .start _ => n != r.number
            | _ => true } ∧
          t.ring = if r.transmitted then q.pushSetpoint s.pacer.drive 0 else q) ∧
        (s.halt.state ≠ .restarting → Replies [.pacer, .ring] s t (mgmtReply s h 0x13 .ok [])) ∧
        (∀ x, s.halt.state = .restarting → s.openIncident = some x → s.noticeRoom 1 →
          t.halt = { s.halt with state := .clear, log := s.closedLog .resumed } ∧
          Sends [.pacer, .ring, .halt] s t [mgmtReply s h 0x13 .ok []]
            [.incidentClosed x.number .resumed s.clock.uptime x.secondary.length x.more])) ∧
      (s.pacer.state = .halted →
        t.pacer = { s.pacer with resume := false } ∧ Replies [.pacer] s t (mgmtReply s h 0x13 .ok [])) ∧
      (s.pacer.state = .stopped ∨ s.pacer.state = .stopping → Replies [] s t (mgmtReply s h 0x13 .ok []))

/-- A profile interval outside POINT_STOP: the target from the run speed and the caps in force, the step of V, the integrator,
the deviation check, and the SETPOINT when V changed or ten intervals have passed. STOPPING ends in STOPPED at V = 0, with a
SETPOINT 0 whatever was sent last (shown while no restart is under way). That it follows the
SETPOINT of the interval is the model's reading (log 15). -/
def Obligations.ProfileIntervalStepsTheBelt : Prop :=
  ∀ (s : State) (target v acc : Nat) (c : Word), s.live → s.pacer.profileTimer.isSome = true → s.pacer.state ≠ .pointStop →
    target = (if s.pacer.state = .stopping then 0 else s.capsInForce.foldl min s.pacer.runSpeed) →
    v = (if s.pacer.speed < target then min target (s.pacer.speed + s.pacer.accel)
      else if target < s.pacer.speed then max target (s.pacer.speed - s.pacer.dec)
      else s.pacer.speed) →
    c = s.pacer.commanded + BitVec.ofNat 32 ((s.pacer.acc + v) / 800) → acc = (s.pacer.acc + v) % 800 →
    ∃ t, exec .profileInterval s = .next t ∧
      (-(s.pacer.overrun : Int) ≤ (c - s.belt.count).toInt → (c - s.belt.count).toInt ≤ (s.pacer.slip : Int) →
        (s.pacer.state ≠ .stopping ∨ v ≠ 0 →
          t.pacer = { s.pacer with
            target := target
            speed := v
            commanded := c
            acc := acc
            profileTimer := some 20
            lastSent := if v ≠ s.pacer.lastSent ∨ 9 ≤ s.pacer.refresh then v else s.pacer.lastSent
            refresh := if v ≠ s.pacer.lastSent ∨ 9 ≤ s.pacer.refresh then 0 else s.pacer.refresh + 1 } ∧
          t.ring = (if v ≠ s.pacer.lastSent ∨ 9 ≤ s.pacer.refresh then s.ring.pushSetpoint s.pacer.drive v else s.ring) ∧
          Quiet [.pacer, .ring] s t) ∧
        (s.pacer.state = .stopping → v = 0 → s.halt.state ≠ .restarting →
          t.pacer = { s.pacer with
            state := .stopped
            target := target
            speed := 0
            commanded := c
            acc := acc
            profileTimer := none
            lastSent := 0
            refresh := 0 } ∧
          t.ring = (if v ≠ s.pacer.lastSent ∨ 9 ≤ s.pacer.refresh then s.ring.pushSetpoint s.pacer.drive v
            else s.ring).pushSetpoint s.pacer.drive 0 ∧
          Quiet [.pacer, .ring] s t)) ∧
      ((s.pacer.slip : Int) < (c - s.belt.count).toInt → s.noticeRoom 1 →
        Raises s t { kind := .stall, belt := s.belt.count, uptime := s.clock.uptime } ∧ t.pacer.commanded = c ∧
        Sends [.cars, .pacer, .seq, .gate, .ring, .halt] s t []
          (s.causeNotices { kind := .stall, belt := s.belt.count, uptime := s.clock.uptime })) ∧
      ((c - s.belt.count).toInt < -(s.pacer.overrun : Int) → (c - s.belt.count).toInt ≤ (s.pacer.slip : Int) → s.noticeRoom 1 →
        Raises s t { kind := .overrun, belt := s.belt.count, uptime := s.clock.uptime } ∧ t.pacer.commanded = c ∧
        Sends [.cars, .pacer, .seq, .gate, .ring, .halt] s t []
          (s.causeNotices { kind := .overrun, belt := s.belt.count, uptime := s.clock.uptime }))

/-- A profile interval in POINT_STOP with a car: the ramp is latched once the remaining distance is no longer than the ramp-
down distance, a latched ramp sheds the chosen deceleration, and a car at or past the stop point with the belt still moving
stops it at once, with OVERSHOOT. -/
def Obligations.PointStopRampsDown : Prop :=
  ∀ (s : State) (p : PointStop) (car : Car) (d v : Nat) (latched past : Bool), s.live → s.pacer.profileTimer.isSome = true →
    s.pacer.state = .pointStop → s.pacer.pointStop = some p → leadCar s.cars = some car → s.noticeRoom 1 →
    d = (match p.decel with | .dec => s.pacer.dec | .decHard => s.pacer.decHard) →
    latched = (p.latched || decide (s.remaining car ≤ (rampDistance s.pacer.speed d : Int))) →
    v = (if latched then s.pacer.speed - d
      else stepToward s.pacer.accel s.pacer.dec (s.capsInForce.foldl min s.pacer.runSpeed) s.pacer.speed) →
    past = (decide (s.remaining car ≤ 0) && decide (0 < v)) →
    ∃ t w, exec .profileInterval s = .next t ∧ w = (if past then 0 else v) ∧
      t.pacer.commanded = s.pacer.commanded + BitVec.ofNat 32 ((s.pacer.acc + w) / 800) ∧
      (-(s.pacer.overrun : Int) ≤ (t.pacer.commanded - s.belt.count).toInt →
        (t.pacer.commanded - s.belt.count).toInt ≤ (s.pacer.slip : Int) →
        t.pacer.state = .pointStop ∧ t.pacer.speed = w ∧ t.pacer.acc = (s.pacer.acc + w) % 800 ∧
        t.pacer.pointStop = some { decel := p.decel, latched := latched || past } ∧
        Sends [.pacer, .ring] s t [] (if past then [.overshoot car.tag (s.remaining car)] else []))

/-! ## Requests about an incident, a station, an eye, a sale (R14, R113, R129, R138, R154 to R157) -/

/-- ACK acknowledges the open incident. RESUME is checked in the order of its rule; taken, it releases the HALT line and asks
for RELEASE, and restarts the belt if it was running, or else closes the incident at once. The place of the RELEASE in its
queue is the model's choice (log 24). -/
def Obligations.AckAndResume : Prop :=
  ∀ (s : State) (h : Head), s.accepts h →
    (∃ t, exec (.ack h []) s = .next t ∧
      ((∃ r, s.openIncident = some r ∧ r.state = .unacked) →
        t.halt = { s.halt with log := s.halt.log.map fun x => if x.state ≠ .closed then { x with state := .acked } else x } ∧
        Replies [.halt] s t (mgmtReply s h 0x15 .ok [])) ∧
      ((∀ r, s.openIncident = some r → r.state ≠ .unacked) → Replies [] s t (mgmtReply s h 0x15 .nothingToAck []))) ∧
    (∀ refusal, refusal =
        (if s.halt.state ≠ .halted then .wrongState
        else if (s.openIncident.map fun r => r.state) ≠ some .acked then .notAcked
        else if s.halt.estop = .asserted then .estopActive
        else if s.ring.state = .down then .ringDown
        else if s.armUnsafe = true then .armUnsafe
        else Result.ok) →
      ∃ t, exec (.resume h []) s = .next t ∧
        (refusal ≠ .ok → Replies [] s t (mgmtReply s h 0x16 refusal [])) ∧
        (refusal = .ok → s.pacer.resume = true →
          t.halt = { s.halt with state := .restarting, line := .released } ∧
          t.pacer = { s.pacer with
            state := .starting
            resume := false
            watch := .idle
            stopTimer := none
            start := some { number := s.freeOrderNumber, transmitted := false } } ∧
          t.belt = { s.belt with silence := some s.timing.encoderSilence } ∧
          t.ring = s.ring.requestRelease.push .order (.order s.pacer.drive s.freeOrderNumber .start 0) ∧
          t.seq = { s.seq with nextNumber := nextInSequence 255 s.freeOrderNumber } ∧
          Replies [.halt, .pacer, .belt, .ring, .seq] s t (mgmtReply s h 0x16 .ok [])) ∧
        (∀ r, refusal = .ok → s.pacer.resume = false → s.openIncident = some r → s.noticeRoom 1 →
          t.halt = { s.halt with state := .clear, line := .released, log := s.closedLog .resumed } ∧
          t.pacer = { s.pacer with state := .stopped, watch := .idle, stopTimer := none } ∧
          t.ring = s.ring.requestRelease ∧
          Sends [.halt, .pacer, .ring] s t [mgmtReply s h 0x16 .ok []]
            [.incidentClosed r.number .resumed s.clock.uptime r.secondary.length r.more]))

/-- STATION CLEAR returns a station in FAULT without an order to IDLE (shown where that is not the event that makes the halt
state HALTED), EYE RESTORE makes an enabled tracking eye reliable, and SALE VOID takes a sale out of the queue and into the
tally. -/
def Obligations.StationEyeAndSaleRequests : Prop :=
  ∀ (s : State) (h : Head) (ops : List Byte), s.accepts h →
    (∀ index, byteOperand ops = some index →
      (∃ t, exec (.stationClear h ops) s = .next t ∧
        (32 ≤ index → Replies [] s t (mgmtReply s h 0x20 .badIndex [])) ∧
        (∀ i : StationId, index = i.val →
          (s.seq.stations[i].phase ≠ .fault → Replies [] s t (mgmtReply s h 0x20 .wrongState [])) ∧
          (s.seq.stations[i].phase = .fault → s.seq.stations[i].current.isSome = true →
            Replies [] s t (mgmtReply s h 0x20 .busy [])) ∧
          (s.seq.stations[i].phase = .fault → s.seq.stations[i].current = none →
            s.map.table[i].kind ≠ .arm ∨ s.halt.state ≠ .halting ∨ s.settled = false ∨ s.pacer.watch ≠ .met →
            t.seq = { s.seq with stations := s.seq.stations.set i { s.seq.stations[i] with phase := .idle } } ∧
            Replies [.seq] s t (mgmtReply s h 0x20 .ok [])))) ∧
      (∃ t, exec (.eyeRestore h ops) s = .next t ∧
        (index ≤ 3 ∨ 10 ≤ index → Replies [] s t (mgmtReply s h 0x21 .badIndex [])) ∧
        (∀ e : Fin 10, index = e.val → 4 ≤ e.val →
          (s.eyes[e].enabled = false → Replies [] s t (mgmtReply s h 0x21 .wrongState [])) ∧
          (s.eyes[e].enabled = true → t.eyes = s.eyes.set e { s.eyes[e] with reliable := true } ∧
            Replies [.eyes] s t (mgmtReply s h 0x21 .ok []))))) ∧
    (∀ number, wordOperand ops = some number →
      ∃ t, exec (.saleVoid h ops) s = .next t ∧
        ((∀ q ∈ s.book.queue, q.sale.number ≠ number) → Replies [] s t (mgmtReply s h 0x22 .notFound [])) ∧
        (∀ before q after, s.book.queue = before ++ q :: after → q.sale.number = number →
          (∀ x ∈ before ++ after, x.sale.number ≠ number) →
          t.book = { s.book with queue := before ++ after } ∧
          t.tallies = s.tallies.set q.sale.plan { s.tallies[q.sale.plan] with
            voids := min 4294967295 (s.tallies[q.sale.plan].voids + 1)
            voidAmount := min 4294967295 (s.tallies[q.sale.plan].voidAmount + q.sale.amount) } ∧
          Replies [.book, .tallies, .seq, .gate, .ring] s t (mgmtReply s h 0x22 .ok []) ∧
          (s.gate.phase ≠ .ready → Replies [.book, .tallies] s t (mgmtReply s h 0x22 .ok []))))

/-! ## Closes, TUNNEL RESET, tallies, status (R33, R35 to R37, R134 to R140, R158, R159, R183) -/

/-- A car is closed: the stations that serve it are released, its unsettled services are missed, it leaves the list, its plan's
tally row counts it, WASH_CLOSE carries outcome and credit, and a READY gate calls the next car if it may. The tracking expiry
test closes a car with reason LOST and the credit of the services not delivered. CAR CLEAR is refused while the belt may move and for a tag not in the list. The
commands are EYE and CAR_CLEAR. -/
def Obligations.CarsClose : Prop :=
  ∀ s : State,
    (∀ c car reason rs, CarCloses c s car reason rs → (∀ i : StationId, s.seq.stations[i].car ≠ some car.tag) →
      s.gate.phase ≠ .ready → s.noticeRoom 1 →
      ∃ t settled outcome credit, exec c s = .next t ∧
        settled = { car with missed := car.missed ||| (car.activity &&& ~~~car.served) } ∧
        outcome = (if car.flags.foreign = true then .foreign
          else if car.flags.struck = true then .struck
          else if car.sale = none then .unsold
          else if reason = .cleared then .cleared
          else if settled.missed ≠ 0 then .partly
          else WashOutcome.full) ∧
        credit = (match outcome with
          | .struck | .cleared => (car.sale.map fun x => x.amount).getD 0
          | .partly => creditShare ((car.sale.map fun x => x.amount).getD 0) (weightSum s.map.table settled.missed)
              (weightSum s.map.table car.activity)
          | _ => 0) ∧
        t.cars = s.cars.filter (fun k => k.tag != car.tag) ∧
        t.tallies = s.tallies.set car.plan { s.tallies[car.plan] with
          washes := min 4294967295 (s.tallies[car.plan].washes + 1)
          gross := min 4294967295 (s.tallies[car.plan].gross + (car.sale.map fun x => x.amount).getD 0)
          credit := min 4294967295 (s.tallies[car.plan].credit + credit) } ∧
        Sends [.eyes, .cars, .tallies] s t rs [.washClose car.tag ((car.sale.map fun x => x.number).getD 0)
          ((car.sale.map fun x => x.terminal).getD 0) car.plan.val ((car.sale.map fun x => x.amount).getD 0) credit outcome
          car.served settled.missed] ∧
        (reason = .cleared → t.eyes = s.eyes)) ∧
    (∀ c car reason rs, CarCloses c s car reason rs → s.engagedLaw → s.noticeRoom 1 →
      ∃ t, exec c s = .next t ∧ Closed s t car reason rs ∧ (reason = .cleared → t.eyes = s.eyes)) ∧
    (∀ car : Car, carByTag s.cars car.tag = some car →
      ((∀ rear, car.rear s.belt.count = some rear → rear.toNat ≤ s.track.length + s.track.expiry) →
        (car.length = none → (car.front s.belt.count).toNat ≤ s.track.length + s.track.maxCar + s.track.expiry) →
        s.expiryTest car.tag = s) ∧
      ((∃ rear, car.rear s.belt.count = some rear ∧ s.track.length + s.track.expiry < rear.toNat) ∨
          (car.length = none ∧ s.track.length + s.track.maxCar + s.track.expiry < (car.front s.belt.count).toNat) →
        s.engagedLaw → s.noticeRoom 1 → Closed s (s.expiryTest car.tag) car .lost [])) ∧
    (∀ h tag, s.accepts h → ∃ t, exec (.carClear h [tag]) s = .next t ∧
      (s.halt.state ≠ .halted → s.pacer.state ≠ .stopped → s.pacer.state ≠ .pointStop ∨ s.pacer.speed ≠ 0 →
        Replies [] s t (mgmtReply s h 0x23 .wrongState [])) ∧
      (s.halt.state = .halted ∨ s.pacer.state = .stopped → (∀ k ∈ s.cars, k.tag ≠ tag.toNat) →
        Replies [] s t (mgmtReply s h 0x23 .notFound [])))

/-- TUNNEL RESET is refused as its table says. Taken, it closes every car of the list, front-most
first, with its unsettled services missed and no order sent, idles every station but those in FAULT, stops the
belt, closes the gate and the incident, releases the HALT line and asks for RELEASE. The place of the RELEASE in its queue is
the model's choice (log 24). -/
def Obligations.TunnelResets : Prop :=
  ∀ (s : State) (h : Head) (refusal : Result), s.accepts h →
    refusal = (if s.halt.state = .halted then (if s.halt.estop = .asserted then .estopActive else .ok)
      else if s.halt.state = .clear ∧ s.pacer.state = .stopped then .ok
      else .wrongState) →
    ∃ t, exec (.tunnelReset h []) s = .next t ∧
      (refusal ≠ .ok → Replies [] s t (mgmtReply s h 0x24 refusal [])) ∧
      (refusal = .ok →
        t.cars = [] ∧
        (∀ i : StationId, t.seq.stations[i] = { s.seq.stations[i] with
          phase := if s.seq.stations[i].phase = .fault then .fault else .idle
          car := none, current := none, queued := none, timer := none }) ∧
        t.seq.nextNumber = s.seq.nextNumber ∧
        t.pacer = { s.pacer with
          state := .stopped
          resume := false
          speed := 0
          pointStop := none
          start := none
          profileTimer := none
          startTimer := none
          stopTimer := none
          watch := .idle } ∧
        t.gate = { s.gate with isOpen := false, phase := .closed, call := none, ackTimer := none } ∧
        t.ring = ({ s.ring with order := [] } : Ring).requestRelease ∧
        t.halt = { s.halt with
          state := .clear
          line := .released
          log := if s.halt.state = .halted then s.closedLog .reset else s.halt.log } ∧
        Touches [.cars, .seq, .pacer, .gate, .ring, .halt, .tallies, .office] s t ∧
        (s.cars = [] → s.noticeRoom 1 →
          Sends [.seq, .pacer, .gate, .ring, .halt] s t [mgmtReply s h 0x24 .ok []]
            (if s.halt.state = .halted then s.openIncident.toList.map fun r =>
              .incidentClosed r.number .reset s.clock.uptime r.secondary.length r.more else [])) ∧
        (s.listLaw → s.engagedLaw → s.noticeRoom (s.cars.length + 1) →
          t.tallies = s.cars.foldl (fun rows k => rows.set k.plan (rows[k.plan].closed
            ((k.sale.map fun x => x.amount).getD 0) (s.settlement (k.settled 0) .tunnelReset).2)) s.tallies ∧
          Sends [.cars, .seq, .pacer, .gate, .ring, .halt, .tallies] s t [mgmtReply s h 0x24 .ok []]
            ((s.cars.map fun k => washCloseOf (k.settled 0) (s.settlement (k.settled 0) .tunnelReset)) ++
              (if s.halt.state = .halted then s.openIncident.toList.map fun r =>
                .incidentClosed r.number .reset s.clock.uptime r.secondary.length r.more else []))))

/-- TALLY READ answers the row's five totals, or BAD_INDEX, and changes nothing; TALLY RESET sets every total to 0. -/
def Obligations.TalliesAreReadAndReset : Prop :=
  ∀ (s : State) (h : Head), s.accepts h →
    (∀ plan : Byte, ∃ t, exec (.tallyRead h [plan]) s = .next t ∧
      (16 ≤ plan.toNat → Replies [] s t (mgmtReply s h 0x30 .badIndex [])) ∧
      (∀ p : Fin 16, plan.toNat = p.val → Replies [] s t (mgmtReply s h 0x30 .ok
        (fourNat s.tallies[p].washes ++ fourNat s.tallies[p].gross ++ fourNat s.tallies[p].credit ++
          fourNat s.tallies[p].voids ++ fourNat s.tallies[p].voidAmount)))) ∧
    (∃ t, exec (.tallyReset h []) s = .next t ∧
      (∀ p : Fin 16, t.tallies[p] = { washes := 0, gross := 0, credit := 0, voids := 0, voidAmount := 0 }) ∧
      Replies [.tallies] s t (mgmtReply s h 0x31 .ok []))

/-- STATUS READ answers the flags, counts and states, and clears both lost flags and both bad-frame counts. -/
def Obligations.StatusIsReadAndCleared : Prop :=
  ∀ (s : State) (h : Head), s.accepts h →
    ∃ t, exec (.statusRead h []) s = .next t ∧
      t.office.outgoing = s.office.tx.toList ++ (s.office.replies ++ [mgmtReply s h 0x32 .ok
        (flag s.office.replyLost ++ flag s.office.noticeLost ++ two s.ring.badFrames ++ two s.office.badFrames ++
          one s.halt.state.code ++ one s.pacer.state.code ++ one s.ring.state.code ++ one s.gate.phase.code ++
          one s.cars.length ++ one s.book.queue.length ++ one s.book.openQuotes ++ one s.office.notices.length ++
          one (levelCode s.halt.estop) ++ four s.clock.uptime ++ four s.belt.count)]).map .reply ++
        s.office.notices.map .notice ∧
      t.office.replyLost = false ∧ t.office.noticeLost = false ∧ t.office.badFrames = 0 ∧
      t.office.address = s.office.address ∧ t.office.windows = s.office.windows ∧
      t.ring = { s.ring with badFrames := 0 } ∧ Touches [.office, .ring] s t

/-! ## The remaining expiries (R5, R124) -/

/-- The encoder silence timer stands expired after its expiry, which raises ENCODER outside STOPPED; a quote whose hold timer
expires is removed. That ENCODER_SILENCE_EXPIRY does nothing while the timer stands expired is the model's choice (log 10).
-/
def Obligations.SilenceAndHoldExpire : Prop :=
  ∀ s : State, s.live →
    (∃ t, exec .encoderSilenceExpiry s = .next t ∧
      (s.belt.silence = none → Quiet [] s t) ∧
      (s.belt.silence.isSome = true → t.belt = { s.belt with silence := none } ∧
        (s.pacer.state = .stopped → Quiet [.belt] s t) ∧
        (s.pacer.state ≠ .stopped → s.noticeRoom 1 →
          Raises s t { kind := .encoder, belt := s.belt.count, uptime := s.clock.uptime } ∧
          Sends [.belt, .cars, .pacer, .seq, .gate, .ring, .halt] s t []
            (s.causeNotices { kind := .encoder, belt := s.belt.count, uptime := s.clock.uptime })))) ∧
    (∀ k : Fin 15, ∃ t, exec (.quoteHoldExpiry (k.val + 1)) s = .next t ∧
      t.book = { s.book with quotes := s.book.quotes.set k none } ∧ Quiet [.book] s t)

/-! ## Triggers of the stations (R97 to R100) -/

/-- The on trigger test of a station for a car of the list, while the halt state is CLEAR: below the on point nothing happens; at
it, a bypassed or failed station, or one whose window lies behind the car, misses the service, an IDLE one, or one in RELEASING
without a car, takes the car and requests its ON or IN, a POSTED one that serves another car hands over without a frame, and
any other that has a car is crowded: it requests OFF or OUT, both cars miss the service and CROWDED is sent. The off trigger
counts the service as served in ENGAGED and as missed otherwise, and requests OFF or OUT. A request finds an order in flight
and stays pending, or sends its frame. At a belt advance each station makes its off test and then its on tests, front-most car
first; that the order of a crowding concerns the car ahead and that the stations are taken in index order are the model's
choices (log 39, log 38). -/
def Obligations.StationTriggersAreTaken : Prop :=
  (∀ (s : State) (i : StationId) (c : Car) (lead : Nat), s.halt.state = .clear → carByTag s.cars c.tag = some c →
    lead = (if s.map.table[i].kind = .arm then (s.pacer.speed * s.map.table[i].travel + 15999) / 16000 else 0) →
    (((c.front s.belt.count).toNat : Int) < s.map.table[i].windowStart - s.map.table[i].front - lead →
      s.onTest i c.tag = s) ∧
    (c.unsettled i = false ∨ s.seq.stations[i].car = some c.tag → s.onTest i c.tag = s) ∧
    ((s.map.table[i].windowStart : Int) - s.map.table[i].front - lead ≤ (c.front s.belt.count).toNat →
      c.unsettled i = true → s.seq.stations[i].car ≠ some c.tag →
      (s.map.aliases[i] = 0 ∨ s.seq.stations[i].phase = .fault ∨
          (∃ rear, c.rear s.belt.count = some rear ∧ s.map.table[i].windowEnd + s.map.table[i].rear ≤ (rear.toNat : Int)) →
        s.onTest i c.tag = { s with cars := s.cars.map fun k =>
          if k.tag = c.tag ∧ k.unsettled i = true then { k with missed := k.missed ||| stationBit i } else k }) ∧
      (s.map.aliases[i] ≠ 0 →
        (∀ rear, c.rear s.belt.count = some rear → (rear.toNat : Int) < s.map.table[i].windowEnd + s.map.table[i].rear) →
        (s.seq.stations[i].phase = .idle ∨ (s.seq.stations[i].phase = .releasing ∧ s.seq.stations[i].car = none) →
          ∃ phase, phase = (if s.seq.stations[i].phase = .releasing then .releasing
            else if s.map.table[i].kind = .posted then .engaged else StationPhase.engaging) ∧
          (s.seq.stations[i].current = none →
            s.onTest i c.tag = { s with
              seq := {
                nextNumber := nextInSequence 255 s.freeOrderNumber
                stations := s.seq.stations.set i { s.seq.stations[i] with
                  phase := phase
                  car := some c.tag
                  current := some {
                    action := if s.map.table[i].kind = .arm then .inn else .on
                    number := some s.freeOrderNumber
                    car := some c.tag
                    transmitted := false
                    wait := if s.map.table[i].kind = .posted then .ret else .ack
                    positionSeen := false } } }
              ring := s.ring.push .order (.order s.map.aliases[i] s.freeOrderNumber
                (if s.map.table[i].kind = .arm then .inn else .on) i.val) }) ∧
          (s.seq.stations[i].current.isSome = true →
            s.onTest i c.tag = { s with seq := { s.seq with stations := s.seq.stations.set i { s.seq.stations[i] with
              phase := phase
              car := some c.tag
              queued := some (if s.map.table[i].kind = .arm then .inn else .on) } } })) ∧
        (∀ tag, s.seq.stations[i].phase = .engaged → s.map.table[i].kind = .posted → s.seq.stations[i].car = some tag →
          s.onTest i c.tag = { s with
            cars := s.cars.map fun k =>
              if k.tag = tag ∧ k.unsettled i = true then { k with served := k.served ||| stationBit i } else k
            seq := { s.seq with stations := s.seq.stations.set i { s.seq.stations[i] with car := some c.tag } } }) ∧
        (∀ tag, s.seq.stations[i].phase ≠ .idle → s.map.table[i].kind ≠ .posted → s.seq.stations[i].car = some tag →
          s.seq.stations[i].phase ≠ .fault → s.noticeRoom 1 → ∃ t, t = s.onTest i c.tag ∧
          t.cars = s.cars.map (fun k => if (k.tag = tag ∨ k.tag = c.tag) ∧ k.unsettled i = true then
            { k with missed := k.missed ||| stationBit i } else k) ∧
          Sends [.cars, .seq, .ring] s t [] [.crowded i.val tag c.tag] ∧
          (s.seq.stations[i].current.isSome = true →
            t.seq = { s.seq with stations := s.seq.stations.set i { s.seq.stations[i] with
              phase := .releasing, car := none
              queued := some (if s.map.table[i].kind = .arm then .out else .off) } } ∧ t.ring = s.ring) ∧
          (s.seq.stations[i].current = none →
            t.seq = {
              nextNumber := nextInSequence 255 s.freeOrderNumber
              stations := s.seq.stations.set i { s.seq.stations[i] with
                phase := .releasing
                car := none
                current := some {
                  action := if s.map.table[i].kind = .arm then .out else .off
                  number := some s.freeOrderNumber
                  car := some tag
                  transmitted := false
                  wait := .ack
                  positionSeen := false } } } ∧
            t.ring = s.ring.push .order (.order s.map.aliases[i] s.freeOrderNumber
              (if s.map.table[i].kind = .arm then .out else .off) i.val))))) ∧
    (∀ rear, s.seq.stations[i].car = some c.tag → c.rear s.belt.count = some rear →
      ((rear.toNat : Int) < s.map.table[i].windowEnd + s.map.table[i].rear → s.offTest i = s) ∧
      (s.map.table[i].windowEnd + s.map.table[i].rear ≤ (rear.toNat : Int) → s.seq.stations[i].phase ≠ .idle →
        s.seq.stations[i].phase ≠ .fault → ∃ cars, cars = s.cars.map (fun k =>
          if k.tag = c.tag ∧ k.unsettled i = true then
            (if s.seq.stations[i].phase = .engaged then { k with served := k.served ||| stationBit i }
            else { k with missed := k.missed ||| stationBit i })
          else k) ∧
        (s.seq.stations[i].current = none →
          s.offTest i = { s with
            cars := cars
            seq := {
              nextNumber := nextInSequence 255 s.freeOrderNumber
              stations := s.seq.stations.set i { s.seq.stations[i] with
                phase := if s.map.table[i].kind = .posted then .idle else .releasing
                car := none
                current := some {
                  action := if s.map.table[i].kind = .arm then .out else .off
                  number := some s.freeOrderNumber
                  car := some c.tag
                  transmitted := false
                  wait := if s.map.table[i].kind = .posted then .ret else .ack
                  positionSeen := false } } }
            ring := s.ring.push .order (.order s.map.aliases[i] s.freeOrderNumber
              (if s.map.table[i].kind = .arm then .out else .off) i.val) }) ∧
        (s.seq.stations[i].current.isSome = true →
          s.offTest i = { s with
            cars := cars
            seq := { s.seq with stations := s.seq.stations.set i { s.seq.stations[i] with
              phase := if s.map.table[i].kind = .posted then .idle else .releasing
              car := none
              queued := some (if s.map.table[i].kind = .arm then .out else .off) } } })))) ∧
  (∀ (s : State) (i : StationId), (∀ tag c, s.seq.stations[i].car = some tag → carByTag s.cars tag = some c → c.length = none) →
    s.offTest i = s) ∧
  (∀ s : State, (s.halt.state ≠ .clear → s.blockAdvance .sequencer = s) ∧
    (s.halt.state = .clear → s.blockAdvance .sequencer = (List.finRange 32).foldl (fun u i =>
      (u.cars.map fun k => k.tag).foldl (fun v tag => v.onTest i tag) (u.offTest i)) s))

/-! ## Ramps and frames (R72, R162, R163) -/

/-- The ramp-down distance: 0 for a speed the first step takes to 0, and otherwise the area under the stepped speeds, in whole
counts rounded up. A fraction held in the accumulator adds at most one count. -/
def Obligations.RampDownDistance : Prop :=
  ∀ v d n p : Nat, 1 ≤ d →
    (v ≤ d → rampDistance v d = 0) ∧
    (d < v → n = (v + d - 1) / d - 1 → 2 * p = 2 * n * v - d * n * (n + 1) →
      (∀ k, 1 ≤ k → (k ≤ n ↔ 0 < v - k * d)) ∧
      p = ((List.range n).map fun k => v - (k + 1) * d).sum ∧
      rampDistance v d = (p + 799) / 800 ∧
      ∀ a, a < 800 → (a + p) / 800 ≤ p / 800 + 1)

/-- The bytes that a port takes as a frame are those the frame is sent as, with whatever follows it before the line is idle; every
other run of bytes counts as a bad frame. That a run of bytes between two idle times of the line is one arrival, that what follows
a frame in it is dropped, and that an arrival without a byte, which begins no frame, counts too, is the model's reading (log 9).
-/
def Obligations.FramesAreReadAsTheyAreSent : Prop :=
  (∀ (bytes : List Byte) (f : Frame), readFrame bytes = some f ↔
    (f.dst ≤ 127 ∧ f.src ≤ 255 ∧ f.kind ≤ 255 ∧ f.order ≤ 255 ∧ f.payload.length ≤ 40) ∧
      ∃ tail, bytes = f.wire ++ tail) ∧
  (∀ (port : Port) (bytes : List Byte), (∀ (f : Frame) (tail : List Byte), f.dst ≤ 127 → f.payload.length ≤ 40 →
    bytes ≠ f.wire ++ tail) → arrival port bytes = some (.badFrame port))

/-! ## Laws of the device (R16, R18, R19, R55, R67, R96, R125, R137, R148, R150, R151, R163, R169, R170, R175) -/

/-- Every law of the device holds in the state after reset that the model starts from, with the straps at 0 and the pins released
(log 2), and after an RST_RELEASE with any straps and any ESTOP level from any state. -/
def Obligations.ResetIsSafe : Prop :=
  State.reset.Safe ∧
  ∀ (s : State) (straps : BitVec 3) (estop : Level), ∃ t, exec (.rstRelease straps estop) s = .next t ∧ t.Safe

/-- While the halt state is not CLEAR the belt is commanded still, no car is called, no station serves a car and exactly one
incident is open; in CLEAR none is. The law carries what keeps it: no profile interval runs, and the pacer is HALTED, or STARTING
in RESTARTING; a start record is held in STARTING alone, and its timer runs with it alone. -/
def Obligations.HaltLawIsKept : Prop :=
  ∀ s t : State, s.haltLaw → s.startLaw → step s = .next t → t.haltLaw ∧ t.startLaw

/-- The incident log keeps its bound, its distinct numbers and its order, newest first; the car list its bound, its order of entry
and its distinct tags; the sale queue its bound. No sale number is held twice among the quotes, the queue and the cars. -/
def Obligations.ListsAreKept : Prop :=
  ∀ s t : State, step s = .next t →
    (s.logLaw → t.logLaw) ∧ (s.haltLaw → s.newestFirst → t.newestFirst) ∧ (s.listLaw → t.listLaw) ∧
    (s.listLaw → s.roomLaw → t.roomLaw) ∧ (s.listLaw → s.roomLaw → s.saleLaw → t.saleLaw)

/-- The service sets of every car stay disjoint and within its activity set, a station stays engaged only with a car of the list
that it has yet to serve, and in every tally row the credit stays at most the gross. -/
def Obligations.ServicesAreSettledOnce : Prop :=
  ∀ s t : State, step s = .next t →
    (s.setsLaw → t.setsLaw) ∧ (s.listLaw → s.engagedLaw → t.engagedLaw) ∧ (s.setsLaw → s.tallyLaw → t.tallyLaw)

/-- The pacer's numbers, the queues of both links, the ages and the counts stay in their ranges. Each order target keeps at most
one frame in the ORDER queue, that of its order in flight, so the queue holds at most 34; this is shown where no number of a
frame still queued has come round again to the frame in the transmitter or to one that returns. -/
def Obligations.RangesAreKept : Prop :=
  ∀ s t : State, step s = .next t →
    (s.pacer.speedLaw → t.pacer.speedLaw) ∧ (s.ring.law → t.ring.law) ∧ (s.office.law → t.office.law) ∧
    (s.haltLaw → s.startLaw → s.frameNumbersApart → s.orderLaw → t.orderLaw)
end

