-- ==== Sys2Proof/Laws/State.lean ====
section
/-! SUPPORT. One lemma per field per named update of State: the updated field is the function of the old one, every other field is
unchanged. -/

set_option Elab.async false

namespace Sys2Proof.Machine

variable (s : State)

/-! ### State.onPending -/

@[simp] theorem State.onPending_pending (f) : (s.onPending f).pending = f s.pending := rfl
@[simp] theorem State.onPending_pins (f) : (s.onPending f).pins = s.pins := rfl
@[simp] theorem State.onPending_clock (f) : (s.onPending f).clock = s.clock := rfl
@[simp] theorem State.onPending_belt (f) : (s.onPending f).belt = s.belt := rfl
@[simp] theorem State.onPending_eyes (f) : (s.onPending f).eyes = s.eyes := rfl
@[simp] theorem State.onPending_track (f) : (s.onPending f).track = s.track := rfl
@[simp] theorem State.onPending_cars (f) : (s.onPending f).cars = s.cars := rfl
@[simp] theorem State.onPending_nextTag (f) : (s.onPending f).nextTag = s.nextTag := rfl
@[simp] theorem State.onPending_gate (f) : (s.onPending f).gate = s.gate := rfl
@[simp] theorem State.onPending_pacer (f) : (s.onPending f).pacer = s.pacer := rfl
@[simp] theorem State.onPending_timing (f) : (s.onPending f).timing = s.timing := rfl
@[simp] theorem State.onPending_map (f) : (s.onPending f).map = s.map := rfl
@[simp] theorem State.onPending_seq (f) : (s.onPending f).seq = s.seq := rfl
@[simp] theorem State.onPending_book (f) : (s.onPending f).book = s.book := rfl
@[simp] theorem State.onPending_tallies (f) : (s.onPending f).tallies = s.tallies := rfl
@[simp] theorem State.onPending_halt (f) : (s.onPending f).halt = s.halt := rfl
@[simp] theorem State.onPending_ring (f) : (s.onPending f).ring = s.ring := rfl
@[simp] theorem State.onPending_office (f) : (s.onPending f).office = s.office := rfl

/-! ### State.onPins -/

@[simp] theorem State.onPins_pending (f) : (s.onPins f).pending = s.pending := rfl
@[simp] theorem State.onPins_pins (f) : (s.onPins f).pins = f s.pins := rfl
@[simp] theorem State.onPins_clock (f) : (s.onPins f).clock = s.clock := rfl
@[simp] theorem State.onPins_belt (f) : (s.onPins f).belt = s.belt := rfl
@[simp] theorem State.onPins_eyes (f) : (s.onPins f).eyes = s.eyes := rfl
@[simp] theorem State.onPins_track (f) : (s.onPins f).track = s.track := rfl
@[simp] theorem State.onPins_cars (f) : (s.onPins f).cars = s.cars := rfl
@[simp] theorem State.onPins_nextTag (f) : (s.onPins f).nextTag = s.nextTag := rfl
@[simp] theorem State.onPins_gate (f) : (s.onPins f).gate = s.gate := rfl
@[simp] theorem State.onPins_pacer (f) : (s.onPins f).pacer = s.pacer := rfl
@[simp] theorem State.onPins_timing (f) : (s.onPins f).timing = s.timing := rfl
@[simp] theorem State.onPins_map (f) : (s.onPins f).map = s.map := rfl
@[simp] theorem State.onPins_seq (f) : (s.onPins f).seq = s.seq := rfl
@[simp] theorem State.onPins_book (f) : (s.onPins f).book = s.book := rfl
@[simp] theorem State.onPins_tallies (f) : (s.onPins f).tallies = s.tallies := rfl
@[simp] theorem State.onPins_halt (f) : (s.onPins f).halt = s.halt := rfl
@[simp] theorem State.onPins_ring (f) : (s.onPins f).ring = s.ring := rfl
@[simp] theorem State.onPins_office (f) : (s.onPins f).office = s.office := rfl

/-! ### State.onClock -/

@[simp] theorem State.onClock_pending (f) : (s.onClock f).pending = s.pending := rfl
@[simp] theorem State.onClock_pins (f) : (s.onClock f).pins = s.pins := rfl
@[simp] theorem State.onClock_clock (f) : (s.onClock f).clock = f s.clock := rfl
@[simp] theorem State.onClock_belt (f) : (s.onClock f).belt = s.belt := rfl
@[simp] theorem State.onClock_eyes (f) : (s.onClock f).eyes = s.eyes := rfl
@[simp] theorem State.onClock_track (f) : (s.onClock f).track = s.track := rfl
@[simp] theorem State.onClock_cars (f) : (s.onClock f).cars = s.cars := rfl
@[simp] theorem State.onClock_nextTag (f) : (s.onClock f).nextTag = s.nextTag := rfl
@[simp] theorem State.onClock_gate (f) : (s.onClock f).gate = s.gate := rfl
@[simp] theorem State.onClock_pacer (f) : (s.onClock f).pacer = s.pacer := rfl
@[simp] theorem State.onClock_timing (f) : (s.onClock f).timing = s.timing := rfl
@[simp] theorem State.onClock_map (f) : (s.onClock f).map = s.map := rfl
@[simp] theorem State.onClock_seq (f) : (s.onClock f).seq = s.seq := rfl
@[simp] theorem State.onClock_book (f) : (s.onClock f).book = s.book := rfl
@[simp] theorem State.onClock_tallies (f) : (s.onClock f).tallies = s.tallies := rfl
@[simp] theorem State.onClock_halt (f) : (s.onClock f).halt = s.halt := rfl
@[simp] theorem State.onClock_ring (f) : (s.onClock f).ring = s.ring := rfl
@[simp] theorem State.onClock_office (f) : (s.onClock f).office = s.office := rfl

/-! ### State.onBelt -/

@[simp] theorem State.onBelt_pending (f) : (s.onBelt f).pending = s.pending := rfl
@[simp] theorem State.onBelt_pins (f) : (s.onBelt f).pins = s.pins := rfl
@[simp] theorem State.onBelt_clock (f) : (s.onBelt f).clock = s.clock := rfl
@[simp] theorem State.onBelt_belt (f) : (s.onBelt f).belt = f s.belt := rfl
@[simp] theorem State.onBelt_eyes (f) : (s.onBelt f).eyes = s.eyes := rfl
@[simp] theorem State.onBelt_track (f) : (s.onBelt f).track = s.track := rfl
@[simp] theorem State.onBelt_cars (f) : (s.onBelt f).cars = s.cars := rfl
@[simp] theorem State.onBelt_nextTag (f) : (s.onBelt f).nextTag = s.nextTag := rfl
@[simp] theorem State.onBelt_gate (f) : (s.onBelt f).gate = s.gate := rfl
@[simp] theorem State.onBelt_pacer (f) : (s.onBelt f).pacer = s.pacer := rfl
@[simp] theorem State.onBelt_timing (f) : (s.onBelt f).timing = s.timing := rfl
@[simp] theorem State.onBelt_map (f) : (s.onBelt f).map = s.map := rfl
@[simp] theorem State.onBelt_seq (f) : (s.onBelt f).seq = s.seq := rfl
@[simp] theorem State.onBelt_book (f) : (s.onBelt f).book = s.book := rfl
@[simp] theorem State.onBelt_tallies (f) : (s.onBelt f).tallies = s.tallies := rfl
@[simp] theorem State.onBelt_halt (f) : (s.onBelt f).halt = s.halt := rfl
@[simp] theorem State.onBelt_ring (f) : (s.onBelt f).ring = s.ring := rfl
@[simp] theorem State.onBelt_office (f) : (s.onBelt f).office = s.office := rfl

/-! ### State.onEyes -/

@[simp] theorem State.onEyes_pending (f) : (s.onEyes f).pending = s.pending := rfl
@[simp] theorem State.onEyes_pins (f) : (s.onEyes f).pins = s.pins := rfl
@[simp] theorem State.onEyes_clock (f) : (s.onEyes f).clock = s.clock := rfl
@[simp] theorem State.onEyes_belt (f) : (s.onEyes f).belt = s.belt := rfl
@[simp] theorem State.onEyes_eyes (f) : (s.onEyes f).eyes = f s.eyes := rfl
@[simp] theorem State.onEyes_track (f) : (s.onEyes f).track = s.track := rfl
@[simp] theorem State.onEyes_cars (f) : (s.onEyes f).cars = s.cars := rfl
@[simp] theorem State.onEyes_nextTag (f) : (s.onEyes f).nextTag = s.nextTag := rfl
@[simp] theorem State.onEyes_gate (f) : (s.onEyes f).gate = s.gate := rfl
@[simp] theorem State.onEyes_pacer (f) : (s.onEyes f).pacer = s.pacer := rfl
@[simp] theorem State.onEyes_timing (f) : (s.onEyes f).timing = s.timing := rfl
@[simp] theorem State.onEyes_map (f) : (s.onEyes f).map = s.map := rfl
@[simp] theorem State.onEyes_seq (f) : (s.onEyes f).seq = s.seq := rfl
@[simp] theorem State.onEyes_book (f) : (s.onEyes f).book = s.book := rfl
@[simp] theorem State.onEyes_tallies (f) : (s.onEyes f).tallies = s.tallies := rfl
@[simp] theorem State.onEyes_halt (f) : (s.onEyes f).halt = s.halt := rfl
@[simp] theorem State.onEyes_ring (f) : (s.onEyes f).ring = s.ring := rfl
@[simp] theorem State.onEyes_office (f) : (s.onEyes f).office = s.office := rfl

/-! ### State.onTrack -/

@[simp] theorem State.onTrack_pending (f) : (s.onTrack f).pending = s.pending := rfl
@[simp] theorem State.onTrack_pins (f) : (s.onTrack f).pins = s.pins := rfl
@[simp] theorem State.onTrack_clock (f) : (s.onTrack f).clock = s.clock := rfl
@[simp] theorem State.onTrack_belt (f) : (s.onTrack f).belt = s.belt := rfl
@[simp] theorem State.onTrack_eyes (f) : (s.onTrack f).eyes = s.eyes := rfl
@[simp] theorem State.onTrack_track (f) : (s.onTrack f).track = f s.track := rfl
@[simp] theorem State.onTrack_cars (f) : (s.onTrack f).cars = s.cars := rfl
@[simp] theorem State.onTrack_nextTag (f) : (s.onTrack f).nextTag = s.nextTag := rfl
@[simp] theorem State.onTrack_gate (f) : (s.onTrack f).gate = s.gate := rfl
@[simp] theorem State.onTrack_pacer (f) : (s.onTrack f).pacer = s.pacer := rfl
@[simp] theorem State.onTrack_timing (f) : (s.onTrack f).timing = s.timing := rfl
@[simp] theorem State.onTrack_map (f) : (s.onTrack f).map = s.map := rfl
@[simp] theorem State.onTrack_seq (f) : (s.onTrack f).seq = s.seq := rfl
@[simp] theorem State.onTrack_book (f) : (s.onTrack f).book = s.book := rfl
@[simp] theorem State.onTrack_tallies (f) : (s.onTrack f).tallies = s.tallies := rfl
@[simp] theorem State.onTrack_halt (f) : (s.onTrack f).halt = s.halt := rfl
@[simp] theorem State.onTrack_ring (f) : (s.onTrack f).ring = s.ring := rfl
@[simp] theorem State.onTrack_office (f) : (s.onTrack f).office = s.office := rfl

/-! ### State.onCars -/

@[simp] theorem State.onCars_pending (f) : (s.onCars f).pending = s.pending := rfl
@[simp] theorem State.onCars_pins (f) : (s.onCars f).pins = s.pins := rfl
@[simp] theorem State.onCars_clock (f) : (s.onCars f).clock = s.clock := rfl
@[simp] theorem State.onCars_belt (f) : (s.onCars f).belt = s.belt := rfl
@[simp] theorem State.onCars_eyes (f) : (s.onCars f).eyes = s.eyes := rfl
@[simp] theorem State.onCars_track (f) : (s.onCars f).track = s.track := rfl
@[simp] theorem State.onCars_cars (f) : (s.onCars f).cars = f s.cars := rfl
@[simp] theorem State.onCars_nextTag (f) : (s.onCars f).nextTag = s.nextTag := rfl
@[simp] theorem State.onCars_gate (f) : (s.onCars f).gate = s.gate := rfl
@[simp] theorem State.onCars_pacer (f) : (s.onCars f).pacer = s.pacer := rfl
@[simp] theorem State.onCars_timing (f) : (s.onCars f).timing = s.timing := rfl
@[simp] theorem State.onCars_map (f) : (s.onCars f).map = s.map := rfl
@[simp] theorem State.onCars_seq (f) : (s.onCars f).seq = s.seq := rfl
@[simp] theorem State.onCars_book (f) : (s.onCars f).book = s.book := rfl
@[simp] theorem State.onCars_tallies (f) : (s.onCars f).tallies = s.tallies := rfl
@[simp] theorem State.onCars_halt (f) : (s.onCars f).halt = s.halt := rfl
@[simp] theorem State.onCars_ring (f) : (s.onCars f).ring = s.ring := rfl
@[simp] theorem State.onCars_office (f) : (s.onCars f).office = s.office := rfl

/-! ### State.onNextTag -/

@[simp] theorem State.onNextTag_pending (f) : (s.onNextTag f).pending = s.pending := rfl
@[simp] theorem State.onNextTag_pins (f) : (s.onNextTag f).pins = s.pins := rfl
@[simp] theorem State.onNextTag_clock (f) : (s.onNextTag f).clock = s.clock := rfl
@[simp] theorem State.onNextTag_belt (f) : (s.onNextTag f).belt = s.belt := rfl
@[simp] theorem State.onNextTag_eyes (f) : (s.onNextTag f).eyes = s.eyes := rfl
@[simp] theorem State.onNextTag_track (f) : (s.onNextTag f).track = s.track := rfl
@[simp] theorem State.onNextTag_cars (f) : (s.onNextTag f).cars = s.cars := rfl
@[simp] theorem State.onNextTag_nextTag (f) : (s.onNextTag f).nextTag = f s.nextTag := rfl
@[simp] theorem State.onNextTag_gate (f) : (s.onNextTag f).gate = s.gate := rfl
@[simp] theorem State.onNextTag_pacer (f) : (s.onNextTag f).pacer = s.pacer := rfl
@[simp] theorem State.onNextTag_timing (f) : (s.onNextTag f).timing = s.timing := rfl
@[simp] theorem State.onNextTag_map (f) : (s.onNextTag f).map = s.map := rfl
@[simp] theorem State.onNextTag_seq (f) : (s.onNextTag f).seq = s.seq := rfl
@[simp] theorem State.onNextTag_book (f) : (s.onNextTag f).book = s.book := rfl
@[simp] theorem State.onNextTag_tallies (f) : (s.onNextTag f).tallies = s.tallies := rfl
@[simp] theorem State.onNextTag_halt (f) : (s.onNextTag f).halt = s.halt := rfl
@[simp] theorem State.onNextTag_ring (f) : (s.onNextTag f).ring = s.ring := rfl
@[simp] theorem State.onNextTag_office (f) : (s.onNextTag f).office = s.office := rfl

/-! ### State.onGate -/

@[simp] theorem State.onGate_pending (f) : (s.onGate f).pending = s.pending := rfl
@[simp] theorem State.onGate_pins (f) : (s.onGate f).pins = s.pins := rfl
@[simp] theorem State.onGate_clock (f) : (s.onGate f).clock = s.clock := rfl
@[simp] theorem State.onGate_belt (f) : (s.onGate f).belt = s.belt := rfl
@[simp] theorem State.onGate_eyes (f) : (s.onGate f).eyes = s.eyes := rfl
@[simp] theorem State.onGate_track (f) : (s.onGate f).track = s.track := rfl
@[simp] theorem State.onGate_cars (f) : (s.onGate f).cars = s.cars := rfl
@[simp] theorem State.onGate_nextTag (f) : (s.onGate f).nextTag = s.nextTag := rfl
@[simp] theorem State.onGate_gate (f) : (s.onGate f).gate = f s.gate := rfl
@[simp] theorem State.onGate_pacer (f) : (s.onGate f).pacer = s.pacer := rfl
@[simp] theorem State.onGate_timing (f) : (s.onGate f).timing = s.timing := rfl
@[simp] theorem State.onGate_map (f) : (s.onGate f).map = s.map := rfl
@[simp] theorem State.onGate_seq (f) : (s.onGate f).seq = s.seq := rfl
@[simp] theorem State.onGate_book (f) : (s.onGate f).book = s.book := rfl
@[simp] theorem State.onGate_tallies (f) : (s.onGate f).tallies = s.tallies := rfl
@[simp] theorem State.onGate_halt (f) : (s.onGate f).halt = s.halt := rfl
@[simp] theorem State.onGate_ring (f) : (s.onGate f).ring = s.ring := rfl
@[simp] theorem State.onGate_office (f) : (s.onGate f).office = s.office := rfl

/-! ### State.onPacer -/

@[simp] theorem State.onPacer_pending (f) : (s.onPacer f).pending = s.pending := rfl
@[simp] theorem State.onPacer_pins (f) : (s.onPacer f).pins = s.pins := rfl
@[simp] theorem State.onPacer_clock (f) : (s.onPacer f).clock = s.clock := rfl
@[simp] theorem State.onPacer_belt (f) : (s.onPacer f).belt = s.belt := rfl
@[simp] theorem State.onPacer_eyes (f) : (s.onPacer f).eyes = s.eyes := rfl
@[simp] theorem State.onPacer_track (f) : (s.onPacer f).track = s.track := rfl
@[simp] theorem State.onPacer_cars (f) : (s.onPacer f).cars = s.cars := rfl
@[simp] theorem State.onPacer_nextTag (f) : (s.onPacer f).nextTag = s.nextTag := rfl
@[simp] theorem State.onPacer_gate (f) : (s.onPacer f).gate = s.gate := rfl
@[simp] theorem State.onPacer_pacer (f) : (s.onPacer f).pacer = f s.pacer := rfl
@[simp] theorem State.onPacer_timing (f) : (s.onPacer f).timing = s.timing := rfl
@[simp] theorem State.onPacer_map (f) : (s.onPacer f).map = s.map := rfl
@[simp] theorem State.onPacer_seq (f) : (s.onPacer f).seq = s.seq := rfl
@[simp] theorem State.onPacer_book (f) : (s.onPacer f).book = s.book := rfl
@[simp] theorem State.onPacer_tallies (f) : (s.onPacer f).tallies = s.tallies := rfl
@[simp] theorem State.onPacer_halt (f) : (s.onPacer f).halt = s.halt := rfl
@[simp] theorem State.onPacer_ring (f) : (s.onPacer f).ring = s.ring := rfl
@[simp] theorem State.onPacer_office (f) : (s.onPacer f).office = s.office := rfl

/-! ### State.onTiming -/

@[simp] theorem State.onTiming_pending (f) : (s.onTiming f).pending = s.pending := rfl
@[simp] theorem State.onTiming_pins (f) : (s.onTiming f).pins = s.pins := rfl
@[simp] theorem State.onTiming_clock (f) : (s.onTiming f).clock = s.clock := rfl
@[simp] theorem State.onTiming_belt (f) : (s.onTiming f).belt = s.belt := rfl
@[simp] theorem State.onTiming_eyes (f) : (s.onTiming f).eyes = s.eyes := rfl
@[simp] theorem State.onTiming_track (f) : (s.onTiming f).track = s.track := rfl
@[simp] theorem State.onTiming_cars (f) : (s.onTiming f).cars = s.cars := rfl
@[simp] theorem State.onTiming_nextTag (f) : (s.onTiming f).nextTag = s.nextTag := rfl
@[simp] theorem State.onTiming_gate (f) : (s.onTiming f).gate = s.gate := rfl
@[simp] theorem State.onTiming_pacer (f) : (s.onTiming f).pacer = s.pacer := rfl
@[simp] theorem State.onTiming_timing (f) : (s.onTiming f).timing = f s.timing := rfl
@[simp] theorem State.onTiming_map (f) : (s.onTiming f).map = s.map := rfl
@[simp] theorem State.onTiming_seq (f) : (s.onTiming f).seq = s.seq := rfl
@[simp] theorem State.onTiming_book (f) : (s.onTiming f).book = s.book := rfl
@[simp] theorem State.onTiming_tallies (f) : (s.onTiming f).tallies = s.tallies := rfl
@[simp] theorem State.onTiming_halt (f) : (s.onTiming f).halt = s.halt := rfl
@[simp] theorem State.onTiming_ring (f) : (s.onTiming f).ring = s.ring := rfl
@[simp] theorem State.onTiming_office (f) : (s.onTiming f).office = s.office := rfl

/-! ### State.onMap -/

@[simp] theorem State.onMap_pending (f) : (s.onMap f).pending = s.pending := rfl
@[simp] theorem State.onMap_pins (f) : (s.onMap f).pins = s.pins := rfl
@[simp] theorem State.onMap_clock (f) : (s.onMap f).clock = s.clock := rfl
@[simp] theorem State.onMap_belt (f) : (s.onMap f).belt = s.belt := rfl
@[simp] theorem State.onMap_eyes (f) : (s.onMap f).eyes = s.eyes := rfl
@[simp] theorem State.onMap_track (f) : (s.onMap f).track = s.track := rfl
@[simp] theorem State.onMap_cars (f) : (s.onMap f).cars = s.cars := rfl
@[simp] theorem State.onMap_nextTag (f) : (s.onMap f).nextTag = s.nextTag := rfl
@[simp] theorem State.onMap_gate (f) : (s.onMap f).gate = s.gate := rfl
@[simp] theorem State.onMap_pacer (f) : (s.onMap f).pacer = s.pacer := rfl
@[simp] theorem State.onMap_timing (f) : (s.onMap f).timing = s.timing := rfl
@[simp] theorem State.onMap_map (f) : (s.onMap f).map = f s.map := rfl
@[simp] theorem State.onMap_seq (f) : (s.onMap f).seq = s.seq := rfl
@[simp] theorem State.onMap_book (f) : (s.onMap f).book = s.book := rfl
@[simp] theorem State.onMap_tallies (f) : (s.onMap f).tallies = s.tallies := rfl
@[simp] theorem State.onMap_halt (f) : (s.onMap f).halt = s.halt := rfl
@[simp] theorem State.onMap_ring (f) : (s.onMap f).ring = s.ring := rfl
@[simp] theorem State.onMap_office (f) : (s.onMap f).office = s.office := rfl

/-! ### State.onSeq -/

@[simp] theorem State.onSeq_pending (f) : (s.onSeq f).pending = s.pending := rfl
@[simp] theorem State.onSeq_pins (f) : (s.onSeq f).pins = s.pins := rfl
@[simp] theorem State.onSeq_clock (f) : (s.onSeq f).clock = s.clock := rfl
@[simp] theorem State.onSeq_belt (f) : (s.onSeq f).belt = s.belt := rfl
@[simp] theorem State.onSeq_eyes (f) : (s.onSeq f).eyes = s.eyes := rfl
@[simp] theorem State.onSeq_track (f) : (s.onSeq f).track = s.track := rfl
@[simp] theorem State.onSeq_cars (f) : (s.onSeq f).cars = s.cars := rfl
@[simp] theorem State.onSeq_nextTag (f) : (s.onSeq f).nextTag = s.nextTag := rfl
@[simp] theorem State.onSeq_gate (f) : (s.onSeq f).gate = s.gate := rfl
@[simp] theorem State.onSeq_pacer (f) : (s.onSeq f).pacer = s.pacer := rfl
@[simp] theorem State.onSeq_timing (f) : (s.onSeq f).timing = s.timing := rfl
@[simp] theorem State.onSeq_map (f) : (s.onSeq f).map = s.map := rfl
@[simp] theorem State.onSeq_seq (f) : (s.onSeq f).seq = f s.seq := rfl
@[simp] theorem State.onSeq_book (f) : (s.onSeq f).book = s.book := rfl
@[simp] theorem State.onSeq_tallies (f) : (s.onSeq f).tallies = s.tallies := rfl
@[simp] theorem State.onSeq_halt (f) : (s.onSeq f).halt = s.halt := rfl
@[simp] theorem State.onSeq_ring (f) : (s.onSeq f).ring = s.ring := rfl
@[simp] theorem State.onSeq_office (f) : (s.onSeq f).office = s.office := rfl

/-! ### State.onBook -/

@[simp] theorem State.onBook_pending (f) : (s.onBook f).pending = s.pending := rfl
@[simp] theorem State.onBook_pins (f) : (s.onBook f).pins = s.pins := rfl
@[simp] theorem State.onBook_clock (f) : (s.onBook f).clock = s.clock := rfl
@[simp] theorem State.onBook_belt (f) : (s.onBook f).belt = s.belt := rfl
@[simp] theorem State.onBook_eyes (f) : (s.onBook f).eyes = s.eyes := rfl
@[simp] theorem State.onBook_track (f) : (s.onBook f).track = s.track := rfl
@[simp] theorem State.onBook_cars (f) : (s.onBook f).cars = s.cars := rfl
@[simp] theorem State.onBook_nextTag (f) : (s.onBook f).nextTag = s.nextTag := rfl
@[simp] theorem State.onBook_gate (f) : (s.onBook f).gate = s.gate := rfl
@[simp] theorem State.onBook_pacer (f) : (s.onBook f).pacer = s.pacer := rfl
@[simp] theorem State.onBook_timing (f) : (s.onBook f).timing = s.timing := rfl
@[simp] theorem State.onBook_map (f) : (s.onBook f).map = s.map := rfl
@[simp] theorem State.onBook_seq (f) : (s.onBook f).seq = s.seq := rfl
@[simp] theorem State.onBook_book (f) : (s.onBook f).book = f s.book := rfl
@[simp] theorem State.onBook_tallies (f) : (s.onBook f).tallies = s.tallies := rfl
@[simp] theorem State.onBook_halt (f) : (s.onBook f).halt = s.halt := rfl
@[simp] theorem State.onBook_ring (f) : (s.onBook f).ring = s.ring := rfl
@[simp] theorem State.onBook_office (f) : (s.onBook f).office = s.office := rfl

/-! ### State.onTallies -/

@[simp] theorem State.onTallies_pending (f) : (s.onTallies f).pending = s.pending := rfl
@[simp] theorem State.onTallies_pins (f) : (s.onTallies f).pins = s.pins := rfl
@[simp] theorem State.onTallies_clock (f) : (s.onTallies f).clock = s.clock := rfl
@[simp] theorem State.onTallies_belt (f) : (s.onTallies f).belt = s.belt := rfl
@[simp] theorem State.onTallies_eyes (f) : (s.onTallies f).eyes = s.eyes := rfl
@[simp] theorem State.onTallies_track (f) : (s.onTallies f).track = s.track := rfl
@[simp] theorem State.onTallies_cars (f) : (s.onTallies f).cars = s.cars := rfl
@[simp] theorem State.onTallies_nextTag (f) : (s.onTallies f).nextTag = s.nextTag := rfl
@[simp] theorem State.onTallies_gate (f) : (s.onTallies f).gate = s.gate := rfl
@[simp] theorem State.onTallies_pacer (f) : (s.onTallies f).pacer = s.pacer := rfl
@[simp] theorem State.onTallies_timing (f) : (s.onTallies f).timing = s.timing := rfl
@[simp] theorem State.onTallies_map (f) : (s.onTallies f).map = s.map := rfl
@[simp] theorem State.onTallies_seq (f) : (s.onTallies f).seq = s.seq := rfl
@[simp] theorem State.onTallies_book (f) : (s.onTallies f).book = s.book := rfl
@[simp] theorem State.onTallies_tallies (f) : (s.onTallies f).tallies = f s.tallies := rfl
@[simp] theorem State.onTallies_halt (f) : (s.onTallies f).halt = s.halt := rfl
@[simp] theorem State.onTallies_ring (f) : (s.onTallies f).ring = s.ring := rfl
@[simp] theorem State.onTallies_office (f) : (s.onTallies f).office = s.office := rfl

/-! ### State.onHalt -/

@[simp] theorem State.onHalt_pending (f) : (s.onHalt f).pending = s.pending := rfl
@[simp] theorem State.onHalt_pins (f) : (s.onHalt f).pins = s.pins := rfl
@[simp] theorem State.onHalt_clock (f) : (s.onHalt f).clock = s.clock := rfl
@[simp] theorem State.onHalt_belt (f) : (s.onHalt f).belt = s.belt := rfl
@[simp] theorem State.onHalt_eyes (f) : (s.onHalt f).eyes = s.eyes := rfl
@[simp] theorem State.onHalt_track (f) : (s.onHalt f).track = s.track := rfl
@[simp] theorem State.onHalt_cars (f) : (s.onHalt f).cars = s.cars := rfl
@[simp] theorem State.onHalt_nextTag (f) : (s.onHalt f).nextTag = s.nextTag := rfl
@[simp] theorem State.onHalt_gate (f) : (s.onHalt f).gate = s.gate := rfl
@[simp] theorem State.onHalt_pacer (f) : (s.onHalt f).pacer = s.pacer := rfl
@[simp] theorem State.onHalt_timing (f) : (s.onHalt f).timing = s.timing := rfl
@[simp] theorem State.onHalt_map (f) : (s.onHalt f).map = s.map := rfl
@[simp] theorem State.onHalt_seq (f) : (s.onHalt f).seq = s.seq := rfl
@[simp] theorem State.onHalt_book (f) : (s.onHalt f).book = s.book := rfl
@[simp] theorem State.onHalt_tallies (f) : (s.onHalt f).tallies = s.tallies := rfl
@[simp] theorem State.onHalt_halt (f) : (s.onHalt f).halt = f s.halt := rfl
@[simp] theorem State.onHalt_ring (f) : (s.onHalt f).ring = s.ring := rfl
@[simp] theorem State.onHalt_office (f) : (s.onHalt f).office = s.office := rfl

/-! ### State.onRing -/

@[simp] theorem State.onRing_pending (f) : (s.onRing f).pending = s.pending := rfl
@[simp] theorem State.onRing_pins (f) : (s.onRing f).pins = s.pins := rfl
@[simp] theorem State.onRing_clock (f) : (s.onRing f).clock = s.clock := rfl
@[simp] theorem State.onRing_belt (f) : (s.onRing f).belt = s.belt := rfl
@[simp] theorem State.onRing_eyes (f) : (s.onRing f).eyes = s.eyes := rfl
@[simp] theorem State.onRing_track (f) : (s.onRing f).track = s.track := rfl
@[simp] theorem State.onRing_cars (f) : (s.onRing f).cars = s.cars := rfl
@[simp] theorem State.onRing_nextTag (f) : (s.onRing f).nextTag = s.nextTag := rfl
@[simp] theorem State.onRing_gate (f) : (s.onRing f).gate = s.gate := rfl
@[simp] theorem State.onRing_pacer (f) : (s.onRing f).pacer = s.pacer := rfl
@[simp] theorem State.onRing_timing (f) : (s.onRing f).timing = s.timing := rfl
@[simp] theorem State.onRing_map (f) : (s.onRing f).map = s.map := rfl
@[simp] theorem State.onRing_seq (f) : (s.onRing f).seq = s.seq := rfl
@[simp] theorem State.onRing_book (f) : (s.onRing f).book = s.book := rfl
@[simp] theorem State.onRing_tallies (f) : (s.onRing f).tallies = s.tallies := rfl
@[simp] theorem State.onRing_halt (f) : (s.onRing f).halt = s.halt := rfl
@[simp] theorem State.onRing_ring (f) : (s.onRing f).ring = f s.ring := rfl
@[simp] theorem State.onRing_office (f) : (s.onRing f).office = s.office := rfl

/-! ### State.onOffice -/

@[simp] theorem State.onOffice_pending (f) : (s.onOffice f).pending = s.pending := rfl
@[simp] theorem State.onOffice_pins (f) : (s.onOffice f).pins = s.pins := rfl
@[simp] theorem State.onOffice_clock (f) : (s.onOffice f).clock = s.clock := rfl
@[simp] theorem State.onOffice_belt (f) : (s.onOffice f).belt = s.belt := rfl
@[simp] theorem State.onOffice_eyes (f) : (s.onOffice f).eyes = s.eyes := rfl
@[simp] theorem State.onOffice_track (f) : (s.onOffice f).track = s.track := rfl
@[simp] theorem State.onOffice_cars (f) : (s.onOffice f).cars = s.cars := rfl
@[simp] theorem State.onOffice_nextTag (f) : (s.onOffice f).nextTag = s.nextTag := rfl
@[simp] theorem State.onOffice_gate (f) : (s.onOffice f).gate = s.gate := rfl
@[simp] theorem State.onOffice_pacer (f) : (s.onOffice f).pacer = s.pacer := rfl
@[simp] theorem State.onOffice_timing (f) : (s.onOffice f).timing = s.timing := rfl
@[simp] theorem State.onOffice_map (f) : (s.onOffice f).map = s.map := rfl
@[simp] theorem State.onOffice_seq (f) : (s.onOffice f).seq = s.seq := rfl
@[simp] theorem State.onOffice_book (f) : (s.onOffice f).book = s.book := rfl
@[simp] theorem State.onOffice_tallies (f) : (s.onOffice f).tallies = s.tallies := rfl
@[simp] theorem State.onOffice_halt (f) : (s.onOffice f).halt = s.halt := rfl
@[simp] theorem State.onOffice_ring (f) : (s.onOffice f).ring = s.ring := rfl
@[simp] theorem State.onOffice_office (f) : (s.onOffice f).office = f s.office := rfl

end Sys2Proof.Machine
end

