-- ==== Sys2Proof/Laws/Footprint.lean ====
section
/-! SUPPORT. What each shared operation can touch: one lemma per operation, naming every field it may change. A statement about a
field outside the list follows by applying the lemma to that field. -/

set_option Elab.async false

namespace Sys2Proof.Machine

/-! ## The relation -/

variable {fs gs hs : List Field} {s t u : State}

theorem Touches.refl (fs : List Field) (s : State) : Touches fs s s := by
  intro f _
  cases f <;> rfl

theorem Field.same.trans {f : Field} (h : f.same s t) (k : f.same t u) : f.same s u := by
  cases f <;> exact Eq.trans k h

theorem Touches.mono (h : Touches fs s t) (sub : fs ⊆ gs) : Touches gs s t := fun f hf => h f fun m => hf (sub m)

theorem Touches.andThen (h : Touches fs s t) (k : Touches gs t u) (hf : fs ⊆ hs := by decide) (hg : gs ⊆ hs := by decide) :
    Touches hs s u :=
  fun f m => (h f fun x => m (hf x)).trans (k f fun x => m (hg x))

theorem Touches.ite {c : Prop} [Decidable c] (h : Touches fs s t) (k : Touches fs s u) :
    Touches fs s (if c then t else u) := by
  split
  · exact h
  · exact k

theorem Touches.foldl {α : Type} {f : State → α → State} (h : ∀ s a, Touches fs s (f s a)) (l : List α) (s : State) :
    Touches fs s (l.foldl f s) := by
  induction l generalizing s with
  | nil => exact Touches.refl fs s
  | cons a l ih => exact (h s a).andThen (ih (f s a)) (fun _ x => x) (fun _ x => x)

/-! ## The named updates -/

theorem touches_onPending (s : State) (f) : Touches [.pending] s (s.onPending f) := by
  intro g hg; cases g <;> first | rfl | exact absurd (by decide) hg
theorem touches_onPins (s : State) (f) : Touches [.pins] s (s.onPins f) := by
  intro g hg; cases g <;> first | rfl | exact absurd (by decide) hg
theorem touches_onBelt (s : State) (f) : Touches [.belt] s (s.onBelt f) := by
  intro g hg; cases g <;> first | rfl | exact absurd (by decide) hg
theorem touches_onEyes (s : State) (f) : Touches [.eyes] s (s.onEyes f) := by
  intro g hg; cases g <;> first | rfl | exact absurd (by decide) hg
theorem touches_onTrack (s : State) (f) : Touches [.track] s (s.onTrack f) := by
  intro g hg; cases g <;> first | rfl | exact absurd (by decide) hg
theorem touches_onCars (s : State) (f) : Touches [.cars] s (s.onCars f) := by
  intro g hg; cases g <;> first | rfl | exact absurd (by decide) hg
theorem touches_onNextTag (s : State) (f) : Touches [.nextTag] s (s.onNextTag f) := by
  intro g hg; cases g <;> first | rfl | exact absurd (by decide) hg
theorem touches_onGate (s : State) (f) : Touches [.gate] s (s.onGate f) := by
  intro g hg; cases g <;> first | rfl | exact absurd (by decide) hg
theorem touches_onPacer (s : State) (f) : Touches [.pacer] s (s.onPacer f) := by
  intro g hg; cases g <;> first | rfl | exact absurd (by decide) hg
theorem touches_onTiming (s : State) (f) : Touches [.timing] s (s.onTiming f) := by
  intro g hg; cases g <;> first | rfl | exact absurd (by decide) hg
theorem touches_onMap (s : State) (f) : Touches [.map] s (s.onMap f) := by
  intro g hg; cases g <;> first | rfl | exact absurd (by decide) hg
theorem touches_onSeq (s : State) (f) : Touches [.seq] s (s.onSeq f) := by
  intro g hg; cases g <;> first | rfl | exact absurd (by decide) hg
theorem touches_onBook (s : State) (f) : Touches [.book] s (s.onBook f) := by
  intro g hg; cases g <;> first | rfl | exact absurd (by decide) hg
theorem touches_onTallies (s : State) (f) : Touches [.tallies] s (s.onTallies f) := by
  intro g hg; cases g <;> first | rfl | exact absurd (by decide) hg
theorem touches_onHalt (s : State) (f) : Touches [.halt] s (s.onHalt f) := by
  intro g hg; cases g <;> first | rfl | exact absurd (by decide) hg
theorem touches_onRing (s : State) (f) : Touches [.ring] s (s.onRing f) := by
  intro g hg; cases g <;> first | rfl | exact absurd (by decide) hg
theorem touches_onOffice (s : State) (f) : Touches [.office] s (s.onOffice f) := by
  intro g hg; cases g <;> first | rfl | exact absurd (by decide) hg

/-! ## Queues, orders, the gate -/

theorem reply_touches (s : State) (d b) : Touches [.office] s (s.reply d b) := touches_onOffice s _
theorem notify_touches (s : State) (n) : Touches [.office] s (s.notify n) := touches_onOffice s _
theorem officeKick_touches (s : State) : Touches [.office] s s.officeKick := touches_onOffice s _
theorem takeOrderNumber_touches (s : State) : Touches [.seq] s s.takeOrderNumber := touches_onSeq s _
theorem pushOrder_touches (s : State) (d n a i) : Touches [.ring] s (s.pushOrder d n a i) := touches_onRing s _
theorem onStation_touches (s : State) (i f) : Touches [.seq] s (s.onStation i f) := touches_onSeq s _
theorem onCar_touches (s : State) (tag f) : Touches [.cars] s (s.onCar tag f) := touches_onCars s _
theorem onTally_touches (s : State) (p f) : Touches [.tallies] s (s.onTally p f) := touches_onTallies s _

theorem issueCall_touches (s : State) : Touches [.seq, .gate, .ring] s s.issueCall :=
  ((takeOrderNumber_touches s).andThen (touches_onGate _ _) (hs := [.seq, .gate])).andThen (pushOrder_touches _ _ _ _ _)

theorem admissionCheck_touches (s : State) : Touches [.seq, .gate, .ring] s s.admissionCheck :=
  (issueCall_touches s).ite (Touches.refl _ s)

theorem endCall_touches (s : State) : Touches [.gate] s s.endCall := touches_onGate s _

theorem finishCall_touches (s : State) : Touches [.seq, .gate, .ring] s s.finishCall :=
  (endCall_touches s).andThen (admissionCheck_touches _)

theorem gateHaltPart_touches (s : State) : Touches [.gate] s s.gateHaltPart := (endCall_touches s).ite (Touches.refl _ s)

/-! ## Halt state, incidents, pacer state -/

theorem setHaltState_touches (s : State) (h) : Touches [.halt, .seq, .gate, .ring] s (s.setHaltState h) :=
  (touches_onHalt s _).andThen (admissionCheck_touches _)

theorem changeIncident_touches (s : State) (f) : Touches [.halt] s (s.changeIncident f) := touches_onHalt s _

theorem closeIncident_touches (s : State) (w) : Touches [.halt, .office] s (s.closeIncident w) := by
  unfold State.closeIncident
  split
  · exact Touches.refl _ s
  · exact (changeIncident_touches s _).andThen (notify_touches _ _)

theorem endRestarting_touches (s : State) : Touches [.halt, .office, .seq, .gate, .ring] s s.endRestarting :=
  (closeIncident_touches s _).andThen (setHaltState_touches _ _)

theorem restartSilence_touches (s : State) : Touches [.belt] s s.restartSilence := touches_onBelt s _

theorem setPacerState_touches (s : State) (p) :
    Touches [.pacer, .belt, .halt, .office, .seq, .gate, .ring] s (s.setPacerState p) :=
  ((((touches_onPacer s _).andThen
    ((restartSilence_touches _).ite (Touches.refl [.belt] _)) (hs := [.pacer, .belt])).andThen
    ((endRestarting_touches _).ite (Touches.refl [.halt, .office, .seq, .gate, .ring] _))
    (hs := [.pacer, .belt, .halt, .office, .seq, .gate, .ring]))).andThen (admissionCheck_touches _)

/-- A change to another state than STARTING leaves the silence timer alone. -/
theorem setPacerState_touches_of_ne (s : State) {p : PacerState} (hp : p ≠ .starting) :
    Touches [.pacer, .halt, .office, .seq, .gate, .ring] s (s.setPacerState p) := by
  unfold State.setPacerState
  dsimp only
  rw [if_neg hp]
  exact ((touches_onPacer s _).andThen
    ((endRestarting_touches _).ite (Touches.refl [.halt, .office, .seq, .gate, .ring] _))
    (hs := [.pacer, .halt, .office, .seq, .gate, .ring])).andThen (admissionCheck_touches _)

/-- A change to a state that neither starts the belt nor ends RESTARTING leaves the Halt Controller alone too. -/
theorem setPacerState_touches_of_between (s : State) {p : PacerState} (hp : p ≠ .starting) (hr : p ≠ .running)
    (hq : p ≠ .stopped) : Touches [.pacer, .seq, .gate, .ring] s (s.setPacerState p) := by
  unfold State.setPacerState
  dsimp only
  rw [if_neg hp, if_neg (by simp [hr, hq])]
  exact (touches_onPacer s _).andThen (admissionCheck_touches _)

theorem haltingCheck_touches (s : State) : Touches [.halt, .seq, .gate, .ring] s s.haltingCheck :=
  (setHaltState_touches s _).ite (Touches.refl _ s)

/-! ## Stations and halt entry -/

theorem recordMissed_touches (s : State) (tag i) : Touches [.cars] s (s.recordMissed tag i) := touches_onCars s _
theorem recordServed_touches (s : State) (tag i) : Touches [.cars] s (s.recordServed tag i) := touches_onCars s _

theorem missEngaged_touches (s : State) (i) : Touches [.cars, .seq] s (s.missEngaged i) := by
  unfold State.missEngaged
  split
  · exact Touches.refl _ s
  · exact (recordMissed_touches s _ _).andThen (onStation_touches _ _ _)

theorem setStationPhase_touches (s : State) (i p) : Touches [.halt, .seq, .gate, .ring] s (s.setStationPhase i p) := by
  unfold State.setStationPhase
  exact (((onStation_touches s i _).andThen (haltingCheck_touches _)).ite
    ((onStation_touches s i _).mono (by decide)))

theorem pacerHaltEntry_touches (s : State) : Touches [.pacer, .seq, .gate, .ring] s s.pacerHaltEntry :=
  ((touches_onPacer s _).andThen (touches_onRing _ _) (hs := [.pacer, .ring])).andThen
    (setPacerState_touches_of_between _ (by decide) (by decide) (by decide))

theorem stationHaltEntry_touches (s : State) (i) : Touches [.cars, .seq] s (s.stationHaltEntry i) := by
  unfold State.stationHaltEntry
  exact (missEngaged_touches s i).andThen (onStation_touches _ _ _)

theorem sequencerHaltEntry_touches (s : State) : Touches [.cars, .seq] s s.sequencerHaltEntry :=
  Touches.foldl stationHaltEntry_touches stationIds s

theorem haltActions_touches (s : State) : Touches [.cars, .pacer, .seq, .gate, .ring] s s.haltActions :=
  (((touches_onRing s _).andThen (pacerHaltEntry_touches _) (hs := [.pacer, .seq, .gate, .ring])).andThen
    (sequencerHaltEntry_touches _) (hs := [.cars, .pacer, .seq, .gate, .ring])).andThen (gateHaltPart_touches _)

/-! ## Causes -/

/-- The fields a cause can change. -/
abbrev causeFields : List Field := [.cars, .pacer, .seq, .gate, .ring, .halt, .office]

theorem markStruck_touches (s : State) (c) : Touches [.cars] s (s.markStruck c) := touches_onCars s _
theorem newIncident_touches (s : State) (c) : Touches [.halt] s (s.newIncident c) := touches_onHalt s _

theorem enterHalting_touches (s : State) : Touches [.halt, .seq, .gate, .ring] s s.enterHalting :=
  (setHaltState_touches s _).andThen (haltingCheck_touches _)

theorem openBy_touches (s : State) (c) : Touches causeFields s (s.openBy c) :=
  (((newIncident_touches s c).andThen (haltActions_touches _) (hs := causeFields)).andThen (notify_touches _ _)
    (hs := causeFields)).andThen (enterHalting_touches _)

theorem addSecondary_touches (s : State) (c) : Touches [.halt, .office] s (s.addSecondary c) := by
  unfold State.addSecondary
  split
  · exact Touches.refl _ s
  · exact (changeIncident_touches s _).andThen (notify_touches _ _)

theorem secondaryBy_touches (s : State) (c) : Touches causeFields s (s.secondaryBy c) := by
  unfold State.secondaryBy
  refine Touches.ite ?_ ((addSecondary_touches s c).mono (by decide))
  exact (((addSecondary_touches s c).andThen (touches_onHalt _ _) (hs := causeFields)).andThen (haltActions_touches _)
    (hs := causeFields)).andThen (enterHalting_touches _)

theorem takeCause_touches (s : State) (c) : Touches causeFields s (s.takeCause c) := by
  have mark : Touches causeFields s (s.markStruck c) := (markStruck_touches s c).mono (by decide)
  unfold State.takeCause
  split
  · split
    · exact mark
    · exact mark.andThen (openBy_touches _ c)
  · exact mark.andThen (secondaryBy_touches _ c)

theorem raise_touches (s : State) (k tag tag2 station eye) : Touches causeFields s (s.raise k tag tag2 station eye) :=
  takeCause_touches s _

/-! ## Drive orders -/

theorem issueStart_touches (s : State) : Touches [.pacer, .seq, .ring] s s.issueStart :=
  ((takeOrderNumber_touches s).andThen (touches_onPacer _ _) (hs := [.pacer, .seq])).andThen (pushOrder_touches _ _ _ _ _)

theorem queueSetpoint_touches (s : State) (v) : Touches [.pacer, .ring] s (s.queueSetpoint v) :=
  (touches_onRing s _).andThen (touches_onPacer _ _)

/-! ## The Station Sequencer -/

/-- The fields an order of a station can change by itself. -/
abbrev orderFields : List Field := [.seq, .ring]

/-- The fields a change of a station's engagement can change. -/
abbrev stationFields : List Field := [.cars, .seq, .ring, .halt, .gate, .office]

theorem issueStationOrder_touches (s : State) (i a c) : Touches orderFields s (s.issueStationOrder i a c) :=
  ((takeOrderNumber_touches s).andThen (onStation_touches _ _ _) (hs := [.seq])).andThen (pushOrder_touches _ _ _ _ _)

theorem requestOrder_touches (s : State) (i a c) : Touches orderFields s (s.requestOrder i a c) :=
  ((onStation_touches s i _).mono (by decide)).ite (issueStationOrder_touches s i a c)

theorem handlePending_touches (s : State) (i a) : Touches orderFields s (s.handlePending i a) := by
  unfold State.handlePending
  split
  · exact Touches.refl _ s
  · exact Touches.ite ((onStation_touches s i _).mono (by decide)) ((onStation_touches s i _).andThen (requestOrder_touches _ _ _ _))

theorem completeOrder_touches (s : State) (i) : Touches [.halt, .seq, .gate, .ring] s (s.completeOrder i) := by
  unfold State.completeOrder
  split
  · exact Touches.refl _ s
  · rename_i o _
    have h := (onStation_touches s i fun st => { st with current := none, timer := none }).andThen
      (handlePending_touches _ i o.action) (hs := [.halt, .seq, .gate, .ring])
    exact h.ite (h.andThen (setStationPhase_touches _ _ _))

theorem dropOrder_touches (s : State) (i) : Touches [.cars, .seq] s (s.dropOrder i) :=
  (missEngaged_touches s i).andThen (onStation_touches _ _ _)

theorem failOrder_touches (s : State) (i r) : Touches causeFields s (s.failOrder i r) := by
  unfold State.failOrder
  split
  · exact Touches.refl _ s
  · rename_i o _
    have h1 : Touches causeFields s (s.dropOrder i) := (dropOrder_touches s i).mono (by decide)
    have h2 : Touches causeFields s (if (o.action.begins && decide (s.map.table[i].kind = .arm)) = true
        then (s.dropOrder i).requestOrder i .out o.car else s.dropOrder i) := (h1.andThen (requestOrder_touches _ i .out o.car)).ite h1
    have h3 := (h2.andThen (setStationPhase_touches _ i .fault) (hs := causeFields)).andThen
      (notify_touches _ (.stationFault i.val o.action r s.seq.stations[i].car)) (hs := causeFields)
    exact (h3.andThen (raise_touches _ _ _ _ _ _)).ite h3

theorem stationDone_touches (s : State) (i) : Touches [.halt, .seq, .gate, .ring] s (s.stationDone i) := by
  unfold State.stationDone
  split
  · exact Touches.refl _ s
  · exact ((onStation_touches s i _).mono (by decide)).ite (completeOrder_touches s i)

theorem stationAck_touches (s : State) (i r) : Touches causeFields s (s.stationAck i r) := by
  cases r with
  | done => exact (stationDone_touches s i).mono (by decide)
  | refused => exact failOrder_touches s i .refused

theorem recordService_touches (s : State) (tag i b) : Touches [.cars] s (s.recordService tag i b) :=
  (recordServed_touches s tag i).ite (recordMissed_touches s tag i)

theorem releaseStation_touches (s : State) (i b) : Touches stationFields s (s.releaseStation i b) := by
  unfold State.releaseStation
  split
  · exact Touches.refl _ s
  · dsimp only
    split
    · exact Touches.refl _ s
    · exact Touches.refl _ s
    · exact (((recordService_touches s _ i _).andThen (onStation_touches _ _ _) (hs := [.cars, .seq])).andThen
        (requestOrder_touches _ _ _ _) (hs := [.cars, .seq, .ring])).andThen (setStationPhase_touches _ _ _)

theorem releaseCar_touches (s : State) (tag b) : Touches stationFields s (s.releaseCar tag b) :=
  Touches.foldl (fun s i => (releaseStation_touches s i b).ite (Touches.refl _ s)) stationIds s

theorem dropCar_touches (s : State) (tag) : Touches [.cars, .seq] s (s.dropCar tag) :=
  Touches.foldl (fun s i => (missEngaged_touches s i).ite (Touches.refl _ s)) stationIds s

theorem missUnsettled_touches (s : State) (tag) : Touches [.cars] s (s.missUnsettled tag) := touches_onCars s _

theorem settleOversize_touches (s : State) (tag) : Touches stationFields s (s.settleOversize tag) :=
  Touches.foldl (fun s i => ((releaseStation_touches s i true).ite ((recordMissed_touches s tag i).mono (by decide))).ite
    (Touches.refl _ s)) stationIds s

theorem offTest_touches (s : State) (i) : Touches stationFields s (s.offTest i) := by
  unfold State.offTest
  split
  · exact Touches.refl _ s
  · exact (releaseStation_touches s i false).ite (Touches.refl _ s)

theorem crowdStation_touches (s : State) (i a b) : Touches stationFields s (s.crowdStation i a b) :=
  ((((((requestOrder_touches s i _ _).andThen (recordMissed_touches _ _ _) (hs := stationFields)).andThen
    (recordMissed_touches _ _ _) (hs := stationFields)).andThen (onStation_touches _ _ _) (hs := stationFields)).andThen
    (setStationPhase_touches _ _ _) (hs := stationFields))).andThen (notify_touches _ _)

theorem onTriggerBusy_touches (s : State) (i tag) : Touches stationFields s (s.onTriggerBusy i tag) := by
  unfold State.onTriggerBusy
  split
  · exact ((recordServed_touches s _ i).andThen (onStation_touches _ _ _)).ite (crowdStation_touches s i _ tag)
  · exact (onStation_touches s i _).andThen (requestOrder_touches _ _ _ _)

theorem onTriggerIdle_touches (s : State) (i tag) : Touches stationFields s (s.onTriggerIdle i tag) :=
  ((onStation_touches s i _).andThen (requestOrder_touches _ _ _ _) (hs := [.seq, .ring])).andThen (setStationPhase_touches _ _ _)

theorem onTrigger_touches (s : State) (i c) : Touches stationFields s (s.onTrigger i c) := by
  have miss : Touches stationFields s (s.recordMissed c.tag i) := (recordMissed_touches s c.tag i).mono (by decide)
  exact miss.ite (miss.ite ((onTriggerIdle_touches s i c.tag).ite (onTriggerBusy_touches s i c.tag)))

theorem onTest_touches (s : State) (i tag) : Touches stationFields s (s.onTest i tag) := by
  unfold State.onTest
  split
  · exact Touches.refl _ s
  · exact (onTrigger_touches s i _).ite (Touches.refl _ s)

theorem stationTests_touches (s : State) (i) : Touches stationFields s (s.stationTests i) :=
  (offTest_touches s i).andThen (Touches.foldl (fun s tag => onTest_touches s i tag) _ _)

theorem sequencerAdvance_touches (s : State) : Touches stationFields s s.sequencerAdvance :=
  (Touches.foldl stationTests_touches stationIds s).ite (Touches.refl _ s)

theorem confirmPosition_touches (s : State) (i p) : Touches [.halt, .seq, .gate, .ring] s (s.confirmPosition i p) := by
  unfold State.confirmPosition
  split
  · exact Touches.refl _ s
  · split
    · split
      · exact completeOrder_touches s i
      · exact ((onStation_touches s i _).mono (by decide)).ite (Touches.refl _ s)
      · exact Touches.refl _ s
    · exact Touches.refl _ s

theorem armReport_touches (s : State) (i p l) : Touches causeFields s (s.armReport i p l) := by
  have h : Touches causeFields s ((s.onStation i fun st => { st with position := p, load := l }).confirmPosition i p) :=
    (onStation_touches s i _).andThen (confirmPosition_touches _ i p)
  exact (h.andThen (raise_touches _ _ _ _ _ _)).ite h

theorem sequencerReset_touches (s : State) : Touches [.seq] s s.sequencerReset := touches_onSeq s _

/-! ## The Car Track -/

theorem appendCar_touches (s : State) : Touches [.nextTag, .cars, .book, .seq, .gate, .ring] s s.appendCar := by
  unfold State.appendCar
  dsimp only
  split
  · exact (touches_onNextTag s _).andThen (touches_onCars _ _)
  · exact (((touches_onNextTag s _).andThen (touches_onCars _ _) (hs := [.nextTag, .cars])).andThen (touches_onBook _ _)
      (hs := [.nextTag, .cars, .book])).andThen (admissionCheck_touches _)

theorem markUncalled_touches (s : State) (tag) : Touches [.cars, .office] s (s.markUncalled tag) :=
  (Touches.refl _ s).ite ((onCar_touches s tag _).andThen (notify_touches _ _))

theorem gateEntryFront_touches (s : State) : Touches [.seq, .gate, .ring] s s.gateEntryFront :=
  (finishCall_touches s).ite (admissionCheck_touches s)

/-- The fields an entry front can change. -/
abbrev entryFields : List Field := .nextTag :: .book :: causeFields

theorem entryFront_touches (s : State) : Touches entryFields s s.entryFront :=
  ((raise_touches s _ _ _ _ _).mono (by decide)).ite
    ((((appendCar_touches s).andThen (markUncalled_touches _ _) (hs := entryFields))).andThen (gateEntryFront_touches _))

theorem entryOn_touches (s : State) : Touches entryFields s s.entryOn := by
  unfold State.entryOn
  split
  · exact entryFront_touches s
  · exact ((onCar_touches s _ _).mono (by decide)).ite (Touches.refl _ s)

theorem entryOff_touches (s : State) : Touches [.cars] s s.entryOff := by
  unfold State.entryOff
  split
  · exact Touches.refl _ s
  · exact (Touches.refl _ s).ite (onCar_touches s _ _)

theorem washClose_touches (s : State) (c r) : Touches [.tallies, .office] s (s.washClose c r) :=
  (onTally_touches s _ _).andThen (notify_touches _ _)

/-- The fields a close can change. -/
abbrev closeFields : List Field := .tallies :: stationFields

theorem settleClosing_touches (s : State) (tag r) : Touches stationFields s (s.settleClosing tag r) := by
  cases r with
  | exit => exact releaseCar_touches s tag false
  | lost => exact releaseCar_touches s tag true
  | cleared => exact releaseCar_touches s tag true
  | tunnelReset => exact (dropCar_touches s tag).mono (by decide)

theorem handOver_touches (s : State) (tag r) : Touches closeFields s (s.handOver tag r) := by
  unfold State.handOver
  split
  · exact Touches.refl _ s
  · exact ((washClose_touches s _ r).andThen (touches_onCars _ _) (hs := closeFields)).andThen (admissionCheck_touches _)

theorem closeCar_touches (s : State) (tag r) : Touches closeFields s (s.closeCar tag r) :=
  ((settleClosing_touches s tag r).andThen (missUnsettled_touches _ _) (hs := stationFields)).andThen (handOver_touches _ _ _)

theorem crowdPair_touches (s : State) (a b) : Touches causeFields s (s.crowdPair a b) := by
  unfold State.crowdPair
  split
  · exact Touches.refl _ s
  · exact (raise_touches s _ _ _ _ _).ite (Touches.refl _ s)

theorem crowdAhead_touches (s : State) (tag) : Touches causeFields s (s.crowdAhead tag) := by
  unfold State.crowdAhead
  split
  · exact crowdPair_touches s _ _
  · exact Touches.refl _ s

theorem crowdBehind_touches (s : State) (tag) : Touches causeFields s (s.crowdBehind tag) := by
  unfold State.crowdBehind
  split
  · exact crowdPair_touches s _ _
  · exact Touches.refl _ s

/-- The fields a foreign object can change. -/
abbrev foreignFields : List Field := .book :: causeFields

theorem returnSale_touches (s : State) (c) : Touches foreignFields s (s.returnSale c) := by
  unfold State.returnSale
  split
  · exact Touches.refl _ s
  · exact ((onCar_touches s _ _).andThen (touches_onBook _ _) (hs := foreignFields)).andThen (admissionCheck_touches _)

theorem foreignObject_touches (s : State) (c) : Touches foreignFields s (s.foreignObject c) :=
  (((((onCar_touches s _ _).andThen (returnSale_touches _ c) (hs := foreignFields)).andThen (onCar_touches _ _ _)
    (hs := foreignFields)).andThen (releaseCar_touches _ _ _) (hs := foreignFields)).andThen (onCar_touches _ _ _)
    (hs := foreignFields)).andThen (raise_touches _ _ _ _ _ _)

theorem foreignTest_touches (s : State) (tag) : Touches foreignFields s (s.foreignTest tag) := by
  unfold State.foreignTest
  split
  · exact Touches.refl _ s
  · split
    · exact Touches.refl _ s
    · exact (foreignObject_touches s _).ite (Touches.refl _ s)

theorem confirmRear_touches (s : State) : Touches foreignFields s s.confirmRear := by
  unfold State.confirmRear
  split
  · exact Touches.refl _ s
  · split
    · exact Touches.refl _ s
    · exact Touches.ite ((((onCar_touches s _ _).andThen (touches_onGate _ _) (hs := foreignFields)).andThen
        (foreignTest_touches _ _) (hs := foreignFields)).andThen (crowdAhead_touches _ _)) (Touches.refl _ s)

theorem oversizeTest_touches (s : State) : Touches stationFields s s.oversizeTest := by
  unfold State.oversizeTest
  split
  · exact Touches.refl _ s
  · exact Touches.ite (((onCar_touches s _ _).andThen (settleOversize_touches _ _) (hs := stationFields)).andThen
      (notify_touches _ _)) (Touches.refl _ s)

theorem missEye_touches (s : State) (e tag) : Touches [.eyes, .cars, .office] s (s.missEye e tag) :=
  ((touches_onEyes s _).andThen (notify_touches _ _) (hs := [.eyes, .office])).andThen (touches_onCars _ _)

theorem missTest_touches (s : State) (tag n) : Touches [.eyes, .cars, .office] s (s.missTest tag n) := by
  induction n generalizing s with
  | zero => exact Touches.refl _ s
  | succ n ih =>
    unfold State.missTest
    split
    · exact Touches.refl _ s
    · exact (missEye_touches s _ tag).andThen (ih _)

theorem expiryTest_touches (s : State) (tag) : Touches closeFields s (s.expiryTest tag) := by
  unfold State.expiryTest
  split
  · exact Touches.refl _ s
  · exact (closeCar_touches s tag .lost).ite (Touches.refl _ s)

/-- The fields a belt advance can change. -/
abbrev advanceFields : List Field := .eyes :: .book :: .tallies :: causeFields

theorem trackAdvance_touches (s : State) : Touches advanceFields s s.trackAdvance :=
  (((confirmRear_touches s).andThen (oversizeTest_touches _) (hs := advanceFields)).andThen
    (Touches.foldl (fun s tag => missTest_touches s tag 6) _ _) (hs := advanceFields)).andThen
    (Touches.foldl expiryTest_touches _ _)

theorem matchEye_touches (s : State) (e c) : Touches causeFields s (s.matchEye e c) := by
  have h : Touches causeFields s (s.onCar c.tag fun k =>
      { k.reAnchor s.belt.count (eyePosition s.eyes e) with nextEye := nextEyeAbove s.eyes e }) :=
    (onCar_touches s _ _).mono (by decide)
  exact (((h.andThen (notify_touches _ _)).ite h).andThen (crowdAhead_touches _ _) (hs := causeFields)).andThen
    (crowdBehind_touches _ _)

theorem trackingOn_touches (s : State) (e) : Touches causeFields s (s.trackingOn e) := by
  unfold State.trackingOn
  split
  · exact raise_touches s _ _ _ _ _
  · exact (matchEye_touches s e _).ite ((onCar_touches s _ _).andThen (raise_touches _ _ _ _ _ _))

theorem exitOn_touches (s : State) : Touches causeFields s s.exitOn := by
  have stray : Touches causeFields s (s.notify (.exitStray s.belt.count)) := (notify_touches s _).mono (by decide)
  unfold State.exitOn
  split
  · exact stray
  · rename_i c _
    have h : Touches causeFields s (s.onCar c.tag fun k => { k with phase := .leaving }) := (onCar_touches s _ _).mono (by decide)
    exact ((h.andThen (raise_touches _ _ _ _ _ _)).ite h).ite stray

theorem exitOff_touches (s : State) : Touches closeFields s s.exitOff := by
  unfold State.exitOff
  split
  · exact Touches.refl _ s
  · exact (closeCar_touches s _ .exit).ite (Touches.refl _ s)

/-! ## The Belt Pacer -/

theorem exitBlockedCheck_touches (s : State) : Touches [.pacer, .seq, .gate, .ring] s s.exitBlockedCheck := by
  unfold State.exitBlockedCheck
  split
  · split
    · exact Touches.refl _ s
    · exact (touches_onPacer s _).andThen (setPacerState_touches_of_between _ (by decide) (by decide) (by decide))
  · exact Touches.refl _ s

/-- The fields a change of the pacer's state can change, but for the silence timer. -/
abbrev pacerFields : List Field := [.pacer, .halt, .office, .seq, .gate, .ring]

theorem exitZoneClear_touches (s : State) : Touches pacerFields s s.exitZoneClear :=
  Touches.ite (((touches_onPacer s _).andThen (setPacerState_touches_of_ne _ (by decide)) (hs := pacerFields)).andThen
    (exitBlockedCheck_touches _)) (Touches.refl _ s)

theorem faultAtEntry_touches (s : State) : Touches causeFields s s.faultAtEntry :=
  (raise_touches s _ _ _ _ _).ite (Touches.refl _ s)

theorem startDone_touches (s : State) : Touches causeFields s s.startDone :=
  (((touches_onPacer s _).andThen (setPacerState_touches_of_ne _ (by decide)) (hs := causeFields)).andThen
    (faultAtEntry_touches _) (hs := causeFields)).andThen (exitBlockedCheck_touches _)

theorem startFailure_touches (s : State) (r n) : Touches pacerFields s (s.startFailure r n) :=
  ((touches_onPacer s _).andThen (setPacerState_touches_of_ne _ (by decide)) (hs := pacerFields)).andThen (notify_touches _ _)

theorem watchMet_touches (s : State) : Touches [.pacer, .halt, .seq, .gate, .ring] s s.watchMet :=
  (touches_onPacer s _).andThen (haltingCheck_touches _)

theorem takeReport_touches (s : State) (r) : Touches causeFields s (s.takeReport r) := by
  have h : Touches causeFields s ((s.faultCheck r).onPacer fun p => { p with report := some r }) :=
    ((raise_touches s _ _ _ _ _).ite (Touches.refl _ s)).andThen (touches_onPacer _ _)
  exact (h.andThen (watchMet_touches _)).ite h

theorem learnDrive_touches (s : State) (a) : Touches [.pacer, .office] s (s.learnDrive a) :=
  (touches_onPacer s _).andThen (notify_touches _ _)

theorem driveFrame_touches (s : State) (a r) : Touches causeFields s (s.driveFrame a r) :=
  (takeReport_touches s r).ite (((learnDrive_touches s a).andThen (takeReport_touches _ r)).ite (Touches.refl _ s))

theorem latchTest_touches (s : State) : Touches [.pacer] s s.latchTest := by
  unfold State.latchTest
  split
  · exact (touches_onPacer s _).ite (Touches.refl _ s)
  · exact Touches.refl _ s

theorem overshootTest_touches (s : State) : Touches [.pacer, .office] s s.overshootTest := by
  unfold State.overshootTest
  split
  · exact ((touches_onPacer s _).andThen (notify_touches _ _)).ite (Touches.refl _ s)
  · exact Touches.refl _ s

theorem setpointStep_touches (s : State) : Touches [.pacer, .ring] s s.setpointStep :=
  (queueSetpoint_touches s _).ite ((touches_onPacer s _).mono (by decide))

theorem stoppingEnd_touches (s : State) : Touches pacerFields s s.stoppingEnd :=
  Touches.ite (((queueSetpoint_touches s 0).andThen (touches_onPacer _ _) (hs := [.pacer, .ring])).andThen
    (setPacerState_touches_of_ne _ (by decide))) (Touches.refl _ s)

theorem intervalSpeed_touches (s : State) : Touches [.pacer, .office] s s.intervalSpeed :=
  ((((touches_onPacer s _).andThen (latchTest_touches _) (hs := [.pacer])).andThen (touches_onPacer _ _) (hs := [.pacer])).andThen
    (overshootTest_touches _) (hs := [.pacer, .office])).andThen (touches_onPacer _ _)

theorem deviationStep_touches (s : State) : Touches causeFields s s.deviationStep :=
  (raise_touches s _ _ _ _ _).ite ((raise_touches s _ _ _ _ _).ite
    ((setpointStep_touches s).andThen (stoppingEnd_touches _)))

theorem interval_touches (s : State) : Touches causeFields s s.interval :=
  (intervalSpeed_touches s).andThen (deviationStep_touches _)

theorem pacerRestart_touches (s : State) : Touches (.belt :: pacerFields) s s.pacerRestart :=
  Touches.ite ((((touches_onPacer s _).andThen (touches_onPacer _ _) (hs := [.pacer])).andThen (issueStart_touches _)
    (hs := [.pacer, .seq, .ring])).andThen (setPacerState_touches _ _))
    ((touches_onPacer s _).andThen (setPacerState_touches _ _))

theorem pacerReset_touches (s : State) : Touches pacerFields s s.pacerReset :=
  (touches_onPacer s _).andThen (setPacerState_touches_of_ne _ (by decide))

theorem abandonStart_touches (s : State) : Touches [.pacer, .ring] s s.abandonStart := by
  unfold State.abandonStart
  split
  · exact Touches.refl _ s
  · rename_i r _
    have h := (touches_onPacer s fun p => { p with start := none, startTimer := none }).andThen
      (touches_onRing _ fun q => q.withdrawOrder r.number) (hs := [.pacer, .ring])
    exact (h.andThen (queueSetpoint_touches _ 0)).ite h

/-! ## The gate, the advance, the edges -/

theorem rollerFault_touches (s : State) (r) : Touches [.office, .seq, .gate, .ring] s (s.rollerFault r) := by
  unfold State.rollerFault
  split
  · exact Touches.refl _ s
  · exact ((notify_touches s _).andThen (touches_onGate _ _) (hs := [.office, .gate])).andThen (finishCall_touches _)

theorem reachTest_touches (s : State) : Touches [.office, .seq, .gate, .ring] s s.reachTest := by
  unfold State.reachTest
  split
  · exact ((notify_touches s _).andThen (finishCall_touches _)).ite (Touches.refl _ s)
  · exact Touches.refl _ s

theorem gateAdvance_touches (s : State) : Touches [.office, .seq, .gate, .ring] s s.gateAdvance :=
  ((touches_onGate s _).andThen (reachTest_touches _) (hs := [.office, .seq, .gate, .ring])).andThen (admissionCheck_touches _)

theorem blockAdvance_touches (s : State) (b) : Touches advanceFields s (s.blockAdvance b) := by
  cases b with
  | track => exact trackAdvance_touches s
  | sequencer => exact (sequencerAdvance_touches s).mono (by decide)
  | gate => exact (gateAdvance_touches s).mono (by decide)
  | pacer => exact (exitBlockedCheck_touches s).mono (by decide)

theorem advanceIn_touches (s : State) (o) : Touches advanceFields s (s.advanceIn o) := Touches.foldl blockAdvance_touches _ s

theorem onChoices_touches (s : State) (n) : Touches [.choices] s (s.onClock fun c => { c with choices := n }) := by
  intro g hg; cases g <;> first | rfl | exact absurd (by decide) hg

theorem beltAdvance_touches (s : State) : Touches (.choices :: advanceFields) s s.beltAdvance :=
  ((advanceIn_touches s _).ite (advanceIn_touches s _)).andThen (onChoices_touches _ _)

theorem loadingEdge_touches (s : State) (b) : Touches [.seq, .gate, .ring] s (s.loadingEdge b) :=
  (touches_onGate s _).andThen (admissionCheck_touches _)

theorem zoneEdge_touches (s : State) (b) : Touches pacerFields s (s.zoneEdge b) :=
  ((exitBlockedCheck_touches s).mono (by decide)).ite (exitZoneClear_touches s)

/-- The fields an eye edge can change. -/
abbrev edgeFields : List Field := .tallies :: entryFields

theorem deliverEdge_touches (s : State) (e b) : Touches edgeFields s (s.deliverEdge e b) := by
  unfold State.deliverEdge
  split
  · exact (loadingEdge_touches s b).mono (by decide)
  · exact ((entryOn_touches s).mono (by decide)).ite ((entryOff_touches s).mono (by decide))
  · exact ((exitOn_touches s).mono (by decide)).ite ((exitOff_touches s).mono (by decide))
  · exact (zoneEdge_touches s b).mono (by decide)
  · exact ((trackingOn_touches s _).mono (by decide)).ite (Touches.refl _ s)

theorem eyeReport_touches (s : State) (e l) : Touches (.eyes :: edgeFields) s (s.eyeReport e l) :=
  (Touches.refl _ s).ite ((touches_onEyes s _).andThen (deliverEdge_touches _ _ _))

end Sys2Proof.Machine
end

