-- ==== Sys2Proof/Laws/Office.lean ====
section
/-! SUPPORT. What joins the office queues, and that beginning a frame changes nothing of what waits (R172, R175, R184). -/

set_option Elab.async false

namespace Sys2Proof.Machine

variable {s t u : State} {fs gs hs : List Field} {rs rs' : List Reply} {ns ns' : List Notice}

/-! ## The office port -/

theorem Office.settingsSame.refl (o : Office) : o.settingsSame o := ⟨rfl, rfl, rfl, rfl, rfl⟩

theorem Office.settingsSame.trans {o p q : Office} (h : o.settingsSame p) (k : p.settingsSame q) : o.settingsSame q :=
  ⟨k.1.trans h.1, k.2.1.trans h.2.1, k.2.2.1.trans h.2.2.1, k.2.2.2.1.trans h.2.2.2.1, k.2.2.2.2.trans h.2.2.2.2⟩

/-- A reply with a free place joins the queue (R172). -/
theorem Office.queueReply_of_room {o : Office} (h : o.replies.length < 8) (d : Nat) (b : ReplyBody) :
    o.queueReply d b = { o with replies := o.replies ++ [{ src := o.address, dst := d, body := b }] } := by
  simp [Office.queueReply, Nat.not_le.mpr h]

/-- A notice with a free place joins the queue (R175). -/
theorem Office.queueNotice_of_room {o : Office} (h : o.notices.length < 32) (n : Notice) :
    o.queueNotice n = { o with notices := o.notices ++ [{ src := o.address, notice := n }] } := by
  simp [Office.queueNotice, Nat.not_le.mpr h]

/-- Beginning a frame keeps the list of frames that wait (R175). -/
theorem Office.kick_outgoing (o : Office) (l : Level) : (o.kick l).outgoing = o.outgoing := by
  unfold Office.kick
  split
  · rename_i h _
    split <;> simp_all [Office.outgoing]
  · rfl

theorem Office.kick_settings (o : Office) (l : Level) : o.settingsSame (o.kick l) := by
  unfold Office.kick
  split
  · split <;> exact ⟨rfl, rfl, rfl, rfl, rfl⟩
  · exact .refl o

/-! ## Commands that queue -/

/-- Replies and notices stand at the tails of their queues; nothing has been begun. -/
def Office.holds (o p : Office) (rs : List Reply) (ns : List Notice) : Prop :=
  p.tx = o.tx ∧ p.replies = o.replies ++ rs ∧
  p.notices = o.notices ++ ns.map (QueuedNotice.mk o.address) ∧ o.settingsSame p

/-- `Sends` before the transmitter begins a frame. -/
def Queues (fs : List Field) (s t : State) (rs : List Reply) (ns : List Notice) : Prop :=
  Touches (.office :: fs) s t ∧ s.office.holds t.office rs ns

theorem Office.holds.refl (o : Office) : o.holds o [] [] := ⟨rfl, by simp, by simp, .refl o⟩

theorem Office.holds.trans {o p q : Office} (h : o.holds p rs ns) (k : p.holds q rs' ns') :
    o.holds q (rs ++ rs') (ns ++ ns') := by
  obtain ⟨h1, h2, h3, h4⟩ := h
  obtain ⟨k1, k2, k3, k4⟩ := k
  exact ⟨k1.trans h1, by rw [k2, h2, List.append_assoc], by rw [k3, h3, h4.1, List.map_append, List.append_assoc],
    h4.trans k4⟩

theorem Queues.of_touches (h : Touches fs s t) (off : Field.office ∉ fs := by decide) : Queues fs s t [] [] :=
  ⟨h.mono fun _ x => List.mem_cons_of_mem _ x, by
    have e : t.office = s.office := h .office off
    rw [e]; exact .refl _⟩

theorem Queues.refl (s : State) : Queues [] s s [] [] := .of_touches (Touches.refl [] s)

theorem Queues.andThen (h : Queues fs s t rs ns) (k : Queues gs t u rs' ns') (hf : fs ⊆ hs := by decide)
    (hg : gs ⊆ hs := by decide) : Queues hs s u (rs ++ rs') (ns ++ ns') :=
  ⟨h.1.andThen k.1 (fun _ m => by
      rcases List.mem_cons.mp m with e | e
      · exact e ▸ List.mem_cons_self
      · exact List.mem_cons_of_mem _ (hf e)) (fun _ m => by
      rcases List.mem_cons.mp m with e | e
      · exact e ▸ List.mem_cons_self
      · exact List.mem_cons_of_mem _ (hg e)), h.2.trans k.2⟩

/-- A change outside the office port after a command that queues. -/
theorem Queues.touch (h : Queues fs s t rs ns) (k : Touches gs t u) (off : Field.office ∉ gs := by decide)
    (hf : fs ⊆ hs := by decide) (hg : gs ⊆ hs := by decide) : Queues hs s u rs ns := by
  have q := h.andThen (Queues.of_touches k off) hf hg
  simpa using q

/-- A command that queues after a change outside the office port. -/
theorem Queues.after (h : Touches fs s t) (k : Queues gs t u rs ns) (off : Field.office ∉ fs := by decide)
    (hf : fs ⊆ hs := by decide) (hg : gs ⊆ hs := by decide) : Queues hs s u rs ns := by
  have q := (Queues.of_touches h off).andThen k hf hg
  simpa using q

theorem Queues.mono (h : Queues fs s t rs ns) (sub : fs ⊆ gs := by decide) : Queues gs s t rs ns :=
  ⟨h.1.mono fun _ m => by
    rcases List.mem_cons.mp m with e | e
    · exact e ▸ List.mem_cons_self
    · exact List.mem_cons_of_mem _ (sub e), h.2⟩

/-- A notice with room is queued. -/
theorem Queues.notify (s : State) (n : Notice) (room : s.office.notices.length < 32) : Queues [] s (s.notify n) [] [n] := by
  refine ⟨notify_touches s n, ?_⟩
  have e : (s.notify n).office = s.office.queueNotice n := rfl
  rw [e, Office.queueNotice_of_room room]
  exact ⟨rfl, by simp, by simp, ⟨rfl, rfl, rfl, rfl, rfl⟩⟩

/-- A reply with room is queued. -/
theorem Queues.reply (s : State) (d : Nat) (b : ReplyBody) (room : s.office.replies.length < 8) :
    Queues [] s (s.reply d b) [{ src := s.office.address, dst := d, body := b }] [] := by
  refine ⟨reply_touches s d b, ?_⟩
  have e : (s.reply d b).office = s.office.queueReply d b := rfl
  rw [e, Office.queueReply_of_room room]
  exact ⟨rfl, by simp, by simp, ⟨rfl, rfl, rfl, rfl, rfl⟩⟩

/-- The number of notices after a command that queues. -/
theorem Queues.notices_length (h : Queues fs s t rs ns) : t.office.notices.length = s.office.notices.length + ns.length := by
  rw [h.2.2.2.1]; simp

theorem Queues.replies_length (h : Queues fs s t rs ns) : t.office.replies.length = s.office.replies.length + rs.length := by
  rw [h.2.2.1]; simp

theorem Queues.address (h : Queues fs s t rs ns) : t.office.address = s.office.address := h.2.2.2.2.1

/-- At the end of the command the transmitter may begin a frame (R175). -/
theorem Queues.kick (h : Queues fs s t rs ns) : Sends fs s t.officeKick rs ns := by
  refine ⟨h.1.andThen (officeKick_touches t) (fun _ m => m) (fun _ m => ?_), ?_⟩
  · rw [List.mem_singleton.mp m]; exact List.mem_cons_self
  · obtain ⟨h1, h2, h3, h4⟩ := h.2
    refine ⟨?_, h4.trans (Office.kick_settings t.office t.pins.ohold)⟩
    have e : t.officeKick.office = t.office.kick t.pins.ohold := rfl
    rw [e, Office.kick_outgoing, Office.outgoing, h1, h2, h3]

/-- What the kick leaves alone. -/
theorem officeKick_same (s : State) {f : Field} (h : f ≠ .office) : f.same s s.officeKick :=
  officeKick_touches s f (by simpa using h)

@[simp] theorem officeKick_pending (s : State) : s.officeKick.pending = s.pending := rfl
@[simp] theorem officeKick_pins (s : State) : s.officeKick.pins = s.pins := rfl
@[simp] theorem officeKick_clock (s : State) : s.officeKick.clock = s.clock := rfl
@[simp] theorem officeKick_belt (s : State) : s.officeKick.belt = s.belt := rfl
@[simp] theorem officeKick_eyes (s : State) : s.officeKick.eyes = s.eyes := rfl
@[simp] theorem officeKick_track (s : State) : s.officeKick.track = s.track := rfl
@[simp] theorem officeKick_cars (s : State) : s.officeKick.cars = s.cars := rfl
@[simp] theorem officeKick_nextTag (s : State) : s.officeKick.nextTag = s.nextTag := rfl
@[simp] theorem officeKick_gate (s : State) : s.officeKick.gate = s.gate := rfl
@[simp] theorem officeKick_pacer (s : State) : s.officeKick.pacer = s.pacer := rfl
@[simp] theorem officeKick_timing (s : State) : s.officeKick.timing = s.timing := rfl
@[simp] theorem officeKick_map (s : State) : s.officeKick.map = s.map := rfl
@[simp] theorem officeKick_seq (s : State) : s.officeKick.seq = s.seq := rfl
@[simp] theorem officeKick_book (s : State) : s.officeKick.book = s.book := rfl
@[simp] theorem officeKick_tallies (s : State) : s.officeKick.tallies = s.tallies := rfl
@[simp] theorem officeKick_halt (s : State) : s.officeKick.halt = s.halt := rfl
@[simp] theorem officeKick_ring (s : State) : s.officeKick.ring = s.ring := rfl

@[simp] theorem reply_seq (s : State) (d b) : (s.reply d b).seq = s.seq := rfl
@[simp] theorem reply_cars (s : State) (d b) : (s.reply d b).cars = s.cars := rfl
@[simp] theorem reply_gate (s : State) (d b) : (s.reply d b).gate = s.gate := rfl
@[simp] theorem reply_pacer (s : State) (d b) : (s.reply d b).pacer = s.pacer := rfl
@[simp] theorem reply_halt (s : State) (d b) : (s.reply d b).halt = s.halt := rfl
@[simp] theorem reply_ring (s : State) (d b) : (s.reply d b).ring = s.ring := rfl
@[simp] theorem reply_book (s : State) (d b) : (s.reply d b).book = s.book := rfl
@[simp] theorem reply_tallies (s : State) (d b) : (s.reply d b).tallies = s.tallies := rfl
@[simp] theorem reply_map (s : State) (d b) : (s.reply d b).map = s.map := rfl
@[simp] theorem reply_belt (s : State) (d b) : (s.reply d b).belt = s.belt := rfl
@[simp] theorem reply_eyes (s : State) (d b) : (s.reply d b).eyes = s.eyes := rfl
@[simp] theorem reply_track (s : State) (d b) : (s.reply d b).track = s.track := rfl
@[simp] theorem reply_timing (s : State) (d b) : (s.reply d b).timing = s.timing := rfl
@[simp] theorem notify_seq (s : State) (n) : (s.notify n).seq = s.seq := rfl
@[simp] theorem notify_cars (s : State) (n) : (s.notify n).cars = s.cars := rfl
@[simp] theorem notify_gate (s : State) (n) : (s.notify n).gate = s.gate := rfl
@[simp] theorem notify_pacer (s : State) (n) : (s.notify n).pacer = s.pacer := rfl
@[simp] theorem notify_halt (s : State) (n) : (s.notify n).halt = s.halt := rfl
@[simp] theorem notify_ring (s : State) (n) : (s.notify n).ring = s.ring := rfl
@[simp] theorem notify_map (s : State) (n) : (s.notify n).map = s.map := rfl
@[simp] theorem notify_book (s : State) (n) : (s.notify n).book = s.book := rfl
@[simp] theorem notify_belt (s : State) (n) : (s.notify n).belt = s.belt := rfl
@[simp] theorem notify_clock (s : State) (n) : (s.notify n).clock = s.clock := rfl
@[simp] theorem notify_pins (s : State) (n) : (s.notify n).pins = s.pins := rfl
@[simp] theorem notify_eyes (s : State) (n) : (s.notify n).eyes = s.eyes := rfl
@[simp] theorem notify_track (s : State) (n) : (s.notify n).track = s.track := rfl
@[simp] theorem notify_timing (s : State) (n) : (s.notify n).timing = s.timing := rfl

end Sys2Proof.Machine
end

