-- ==== Sys2Proof/Laws/Commands.lean ====
section
/-! SUPPORT. The outcome of the four command forms (live, ring frame, terminal request, management request) when the command is
taken, and when it is not. -/

set_option Elab.async false

namespace Sys2Proof.Machine

variable {s t u : State} {fs gs hs : List Field} {rs : List Reply} {ns : List Notice}

/-- A command out of reset. -/
theorem live_of_released (h : s.live) (f : State → State) : live s f = .next (f s).officeKick := by
  unfold Machine.live
  rw [if_neg]
  intro e
  rw [show s.pins.rst = .released from h] at e
  cases e

/-- A command while RST is asserted (00_scope.md, Signal description). -/
theorem live_of_asserted (h : s.pins.rst = .asserted) (f : State → State) : live s f = .next s := by
  unfold Machine.live
  rw [if_pos h]

theorem SameButOffice.kick (s : State) : SameButOffice s s.officeKick := fun _ h => officeKick_same s h

theorem SameButOffice.reply (s : State) (d b) : SameButOffice s (s.reply d b).officeKick := fun f h =>
  (reply_touches s d b f (by simpa using h)).trans (officeKick_same _ h)

/-- A command that queues, as a whole. -/
theorem live_sends (h : s.live) {f : State → State} (q : Queues fs s (f s) rs ns) :
    ∃ t, live s f = .next t ∧ SameButOffice (f s) t ∧ Sends fs s t rs ns :=
  ⟨_, live_of_released h f, .kick _, q.kick⟩

/-- A frame that is accepted and has the form of its kind (R163 to R166). -/
theorem ringFrame_taken {α : Type} (h : s.live) {accepted : Bool} {form : Option α} {x : α} (ha : accepted = true)
    (hf : form = some x) (f : State → α → State) : ringFrame s accepted form f = .next (f s x).officeKick := by
  subst ha hf
  exact live_of_released h _

/-- A frame that is taken, as a whole. -/
theorem ringFrame_sends {α : Type} (h : s.live) {accepted : Bool} {form : Option α} {x : α} (ha : accepted = true)
    (hf : form = some x) {f : State → α → State} (q : Queues fs s (f s x) rs ns) :
    ∃ t, ringFrame s accepted form f = .next t ∧ SameButOffice (f s x) t ∧ Sends fs s t rs ns :=
  ⟨_, ringFrame_taken h ha hf f, .kick _, q.kick⟩

/-- A frame of the wrong class or form is discarded (R163, R164). -/
theorem ringFrame_discarded {α : Type} (h : s.live) {accepted : Bool} {form : Option α}
    (hn : accepted = false ∨ form = none) (f : State → α → State) : ringFrame s accepted form f = .next s.officeKick := by
  unfold ringFrame
  rw [live_of_released h]
  rcases hn with rfl | rfl
  · rfl
  · cases accepted <;> rfl

/-- The slot of a terminal. -/
theorem terminalSlot_val (t : Fin 15) : terminalSlot (t.val + 1) = some t := by
  unfold terminalSlot
  rw [dif_pos (by omega)]
  rfl

/-- A terminal's request that is taken (R172). -/
theorem terminalRequest_taken {α : Type} {h : Head} {k : Fin 15} (ha : s.acceptsTerminal h k) {form : Option α} {x : α}
    (hf : form = some x) (f : State → Fin 15 → α → State) :
    terminalRequest s h form f = .next (f s k x).officeKick := by
  obtain ⟨hl, hd, hsrc, hr⟩ := ha
  subst hf
  unfold terminalRequest
  rw [live_of_released hl, hsrc, terminalSlot_val]
  simp [hd, Nat.not_le.mpr hr]

/-- A terminal's request that is taken, as a whole. -/
theorem terminalRequest_sends {α : Type} {h : Head} {k : Fin 15} (ha : s.acceptsTerminal h k) {form : Option α} {x : α}
    (hf : form = some x) {f : State → Fin 15 → α → State} (q : Queues fs s (f s k x) rs ns) :
    ∃ t, terminalRequest s h form f = .next t ∧ SameButOffice (f s k x) t ∧ Sends fs s t rs ns :=
  ⟨_, terminalRequest_taken ha hf f, .kick _, q.kick⟩

/-- A management request that is taken, with its reply (R172, R177). -/
theorem request_taken {α : Type} {h : Head} (ha : s.accepts h) {code : Nat} {operands : Option α} {x : α}
    (ho : operands = some x) (f : State → α → Answer) :
    request s h code operands f =
      .next ((f s x).state.reply h.src (.mgmt code (f s x).result (f s x).data)).officeKick := by
  obtain ⟨hl, hd, h1, h2, hr⟩ := ha
  subst ho
  unfold request
  rw [live_of_released hl]
  simp [hd, fromSite, h1, h2, Nat.not_le.mpr hr]

/-- A request whose operands have not the length and codes of its request is discarded (R177). -/
theorem request_malformed {α : Type} {h : Head} (ha : s.accepts h) {code : Nat} (f : State → α → Answer) :
    request s h code none f = .next s.officeKick := by
  obtain ⟨hl, hd, h1, h2, hr⟩ := ha
  unfold request
  rw [live_of_released hl]
  simp [hd, fromSite, h1, h2, Nat.not_le.mpr hr]

/-- A management request that finds the reply queue full has no effect but the reply-lost flag (R172). -/
theorem request_lost {α : Type} {h : Head} (hl : s.live) (hd : h.dst = s.office.address) (h1 : 32 ≤ h.src) (h2 : h.src ≤ 63)
    (hr : 8 ≤ s.office.replies.length) {code : Nat} (operands : Option α) (f : State → α → Answer) :
    request s h code operands f = .next s.loseReply.officeKick := by
  unfold request
  rw [live_of_released hl]
  simp [hd, fromSite, h1, h2, hr]

/-- The request as a whole: what its effect queues, then its reply. -/
theorem request_sends {α : Type} {h : Head} (ha : s.accepts h) {code : Nat} {operands : Option α} {x : α}
    (ho : operands = some x) {f : State → α → Answer} {result : Result} {data : List Byte}
    (q : Queues fs s (f s x).state [] ns) (hr : (f s x).result = result) (hdata : (f s x).data = data) :
    ∃ t, request s h code operands f = .next t ∧ SameButOffice (f s x).state t ∧
      Sends fs s t [mgmtReply s h code result data] ns := by
  refine ⟨_, request_taken ha ho f, .reply _ _ _, ?_⟩
  subst hr hdata
  have room : (f s x).state.office.replies.length < 8 := by
    rw [q.replies_length]; simpa using ha.2.2.2.2
  have k := (q.andThen (Queues.reply (f s x).state h.src (.mgmt code (f s x).result (f s x).data) room)
    (hs := fs) (fun _ m => m) (fun _ m => nomatch m)).kick
  simpa [mgmtReply, q.address] using k

/-- A refused request: nothing changes but the reply (R177). -/
theorem request_refused {α : Type} {h : Head} (ha : s.accepts h) {code : Nat} {operands : Option α} {x : α}
    (ho : operands = some x) {f : State → α → Answer} {result : Result} (e : f s x = s.refuse result) :
    ∃ t, request s h code operands f = .next t ∧ Replies [] s t (mgmtReply s h code result []) := by
  obtain ⟨t, h1, _, h2⟩ := request_sends ha ho (f := f) (result := result) (data := []) (ns := []) (fs := [])
    (by rw [e]; exact Queues.refl s) (by rw [e]; rfl) (by rw [e]; rfl)
  exact ⟨t, h1, h2⟩

end Sys2Proof.Machine
end

