-- ==== Sys2Proof/Laws/Halt.lean ====
section
/-! SUPPORT. The admission check (R42, R43), the changes of the halt and pacer states, the halt actions (R145) and the taking of a
cause (R142, R144, R146), each said once as an equation. -/

set_option Elab.async false

namespace Sys2Proof.Machine

variable {s t u : State}

/-! ## Vectors -/

/-- Reading an entry after a write of another. -/
theorem getElem_set_ne' {α : Type} {n : Nat} (v : Vector α n) (i j : Fin n) (x : α) (h : j ≠ i) : (v.set i x)[j] = v[j] := by
  simp [Fin.getElem_fin, Fin.val_ne_of_ne (Ne.symm h)]

/-- Reading the entry just written. -/
theorem getElem_set_eq' {α : Type} {n : Nat} (v : Vector α n) (i : Fin n) (x : α) : (v.set i x)[i] = x := by
  simp [Fin.getElem_fin]

theorem mem_stationIds (i : StationId) : i ∈ stationIds := List.mem_finRange i

theorem nodup_stationIds : stationIds.Nodup := List.nodup_finRange 32

/-! ## The admission check -/

/-- What an admission needs of the halt state and of the pacer (R42). -/
theorem admissible_needs (h : s.admissible = true) :
    s.gate.isOpen = true ∧ s.halt.state = .clear ∧ s.pacer.state = .running ∧ s.cars.length < 16 ∧ enteringCar s.cars = none := by
  simp only [State.admissible, Bool.and_eq_true, decide_eq_true_eq, beq_iff_eq, Option.isNone_iff_eq_none] at h
  exact ⟨h.1.1.1.1.1.1, h.1.1.1.1.1.2, h.1.1.1.1.2, h.1.1.1.2.1, h.1.1.1.2.2⟩

/-- Without a readiness to call, the check does nothing (R42). -/
theorem admissionCheck_none (h : s.gate.phase ≠ .ready ∨ s.admissible = false) : s.admissionCheck = s := by
  unfold State.admissionCheck
  rw [if_neg]
  rintro ⟨a, b⟩
  rcases h with h | h
  · exact h a
  · rw [b] at h; cases h

/-- In READY with all seven conditions the check issues a CALL (R42, R44). -/
theorem admissionCheck_calls (h : s.gate.phase = .ready) (k : s.admissible = true) : s.admissionCheck = s.issueCall := by
  unfold State.admissionCheck
  rw [if_pos ⟨h, k⟩]

/-- No call while the halt state is not CLEAR (R42, condition 2). -/
theorem admissionCheck_of_halt (h : s.halt.state ≠ .clear) : s.admissionCheck = s :=
  admissionCheck_none (.inr (by
    cases e : s.admissible
    · rfl
    · exact absurd (admissible_needs e).2.1 h))

/-- No call while the pacer is not RUNNING (R42, condition 3). -/
theorem admissionCheck_of_pacer (h : s.pacer.state ≠ .running) : s.admissionCheck = s :=
  admissionCheck_none (.inr (by
    cases e : s.admissible
    · rfl
    · exact absurd (admissible_needs e).2.2.1 h))

/-- No call while a car is entering (R42, condition 4). -/
theorem admissionCheck_of_entering {c : Car} (h : enteringCar s.cars = some c) : s.admissionCheck = s :=
  admissionCheck_none (.inr (by
    cases e : s.admissible
    · rfl
    · have k := (admissible_needs e).2.2.2.2
      rw [h] at k; cases k))

/-! ## Changes of the halt state -/

/-- A change to another halt state than CLEAR (R143). -/
theorem setHaltState_eq {h : HaltState} (hn : h ≠ .clear) : s.setHaltState h = s.onHalt fun b => { b with state := h } :=
  admissionCheck_of_halt (s := s.onHalt fun b => { b with state := h }) hn

/-- The halting check (R147). -/
theorem haltingCheck_eq :
    s.haltingCheck =
      if s.halt.state = .halting ∧ s.settled = true ∧ s.pacer.watch = .met then
        s.onHalt fun b => { b with state := .halted }
      else s := by
  unfold State.haltingCheck
  split
  · exact setHaltState_eq (by decide)
  · rfl

/-- HALTING with its halting check (R144, R146, R147). -/
theorem enterHalting_eq :
    s.enterHalting =
      s.onHalt fun b => { b with state := if s.settled = true ∧ s.pacer.watch = .met then .halted else .halting } := by
  unfold State.enterHalting
  rw [setHaltState_eq (by decide), haltingCheck_eq]
  by_cases h : s.settled = true ∧ s.pacer.watch = .met
  · rw [if_pos ⟨rfl, h⟩, if_pos h]; rfl
  · rw [if_neg (fun k => h ⟨k.2.1, k.2.2⟩), if_neg h]

/-- The halt state right after an entry to HALTING (R147). -/
def State.haltedOrHalting (s : State) : HaltState :=
  if s.settled = true ∧ s.pacer.watch = .met then .halted else .halting

theorem haltedOrHalting_cases (s : State) : s.haltedOrHalting = .halting ∨ s.haltedOrHalting = .halted := by
  unfold State.haltedOrHalting
  split
  · exact .inr rfl
  · exact .inl rfl

/-- The Halt Controller's record at an entry to HALTING. -/
theorem enterHalting_halt : s.enterHalting.halt = { s.halt with state := s.enterHalting.haltedOrHalting } := by
  rw [enterHalting_eq]
  rfl

/-! ## Changes of the pacer state -/

/-- A change to POINT_STOP, STOPPING or HALTED is a change of the state alone (R56). -/
theorem setPacerState_plain {p : PacerState} (h1 : p ≠ .starting) (h2 : p ≠ .running) (h3 : p ≠ .stopped) :
    s.setPacerState p = s.onPacer fun q => { q with state := p } := by
  unfold State.setPacerState
  dsimp only
  rw [if_neg h1, if_neg (by simp [h2, h3])]
  exact admissionCheck_of_pacer h2

/-- A change to STARTING restarts the encoder silence timer (R5). -/
theorem setPacerState_starting :
    s.setPacerState .starting = (s.onPacer fun q => { q with state := .starting }).restartSilence := by
  unfold State.setPacerState
  dsimp only
  rw [if_pos rfl, if_neg (by simp)]
  exact admissionCheck_of_pacer (by simp [State.restartSilence])

/-- A change to RUNNING or STOPPED while the halt state is not RESTARTING (R56). -/
theorem setPacerState_settles {p : PacerState} (h1 : p ≠ .starting) (hr : s.halt.state ≠ .restarting) :
    s.setPacerState p = (s.onPacer fun q => { q with state := p }).admissionCheck := by
  unfold State.setPacerState
  dsimp only
  rw [if_neg h1, if_neg (by simp [hr])]

/-- A change to STOPPED outside RESTARTING calls no car. -/
theorem setPacerState_stopped (hr : s.halt.state ≠ .restarting) :
    s.setPacerState .stopped = s.onPacer fun q => { q with state := .stopped } := by
  rw [setPacerState_settles (by decide) hr]
  exact admissionCheck_of_pacer (by simp)

/-- A change to RUNNING or STOPPED ends RESTARTING (R157). -/
theorem setPacerState_ends {p : PacerState} (hp : p = .running ∨ p = .stopped) (hr : s.halt.state = .restarting) :
    s.setPacerState p = (s.onPacer fun q => { q with state := p }).endRestarting.admissionCheck := by
  have h1 : p ≠ .starting := by rcases hp with rfl | rfl <;> decide
  unfold State.setPacerState
  dsimp only
  rw [if_neg h1, if_pos ⟨hr, hp⟩]

@[simp] theorem setPacerState_pacer (p : PacerState) : (s.setPacerState p).pacer = { s.pacer with state := p } := by
  have h : Touches [.belt, .halt, .office, .seq, .gate, .ring] (s.onPacer fun q => { q with state := p }) (s.setPacerState p) :=
    ((((restartSilence_touches _).ite (Touches.refl [.belt] _)).andThen
      ((endRestarting_touches _).ite (Touches.refl [.halt, .office, .seq, .gate, .ring] _))
      (hs := [.belt, .halt, .office, .seq, .gate, .ring]))).andThen (admissionCheck_touches _)
  exact (h .pacer (by decide)).trans rfl

/-! ## The halt actions (R145) -/

/-- The pacer after a halt entry from the record p (R75, R76). -/
def Pacer.halted (p : Pacer) (limit : Nat) : Pacer :=
  { p with
    state := .halted
    resume := resumeAfterHalt p.resume p.state
    start := none
    startTimer := none
    speed := 0
    pointStop := none
    profileTimer := none
    lastSent := 0
    refresh := 0
    watch := if p.drive = 0 then .met else .watching
    stopTimer := if p.drive = 0 then none else some limit }

/-- The pacer's halt entry is its own record and the ring's (R75). -/
theorem pacerHaltEntry_eq :
    s.pacerHaltEntry =
      (s.onPacer fun p => p.halted s.timing.driveStop).onRing fun r => ({ r with motion := [] } : Ring).requestBrake s.pacer.drive := by
  unfold State.pacerHaltEntry
  dsimp only
  rw [setPacerState_plain (by decide) (by decide) (by decide)]
  rfl

/-- A station after a halt entry (R111). -/
def Station.halted (st : Station) (kind : StationKind) (node busy : Nat) : Station :=
  if st.phase = .fault then { st with car := none, queued := none, current := none, timer := none }
  else if kind ≠ .arm ∨ node = 0 then
    { st with car := none, queued := none, current := none, timer := none, phase := .idle }
  else
    { st with
      car := none
      queued := none
      phase := .releasing
      current := some (implicitOut st.car)
      timer := some busy }

@[simp] theorem onStation_self (i : StationId) (f : Station → Station) :
    (s.onStation i f).seq.stations[i] = f s.seq.stations[i] := getElem_set_eq' _ _ _

theorem onStation_other {i j : StationId} (h : j ≠ i) (f : Station → Station) :
    (s.onStation i f).seq.stations[j] = s.seq.stations[j] := getElem_set_ne' _ _ _ _ h

theorem onStation_onStation (i : StationId) (f g : Station → Station) :
    (s.onStation i f).onStation i g = s.onStation i fun st => g (f st) := by
  simp only [State.onStation, State.onSeq, Fin.getElem_fin, Vector.getElem_set_self]
  congr 2
  simp [Vector.set_set]

/-- A change of phase that is no halting check (R112, R147). -/
theorem setStationPhase_quiet {i : StationId} {p : StationPhase} (h : s.map.table[i].kind ≠ .arm ∨ s.halt.state ≠ .halting) :
    s.setStationPhase i p = s.onStation i fun st => { st with phase := p } := by
  unfold State.setStationPhase
  dsimp only
  split
  · rename_i hk
    rcases h with h | h
    · exact absurd hk.1 h
    · rw [haltingCheck_eq, if_neg]
      exact fun k => h k.1
  · rfl

/-- An engagement dropped (R96). -/
theorem missEngaged_self (i : StationId) : (s.missEngaged i).seq.stations[i] = { s.seq.stations[i] with car := none } := by
  unfold State.missEngaged
  split
  · rename_i h
    rw [← h]
  · exact onStation_self i _

theorem missEngaged_other {i j : StationId} (h : j ≠ i) : (s.missEngaged i).seq.stations[j] = s.seq.stations[j] := by
  unfold State.missEngaged
  split
  · rfl
  · exact onStation_other h _

/-- One station's part of a halt entry (R111). -/
theorem stationHaltEntry_self (i : StationId) :
    (s.stationHaltEntry i).seq.stations[i] =
      s.seq.stations[i].halted s.map.table[i].kind s.map.aliases[i] s.map.table[i].busy := by
  unfold State.stationHaltEntry
  dsimp only
  rw [onStation_self, missEngaged_self]
  rfl

theorem stationHaltEntry_other {i j : StationId} (h : j ≠ i) :
    (s.stationHaltEntry i).seq.stations[j] = s.seq.stations[j] := by
  unfold State.stationHaltEntry
  dsimp only
  rw [onStation_other h, missEngaged_other h]

/-- Operations taken station by station: each station has what its own operation gives it. -/
theorem foldl_station {f : State → StationId → State} {g : StationId → State → Station}
    (hself : ∀ s i, (f s i).seq.stations[i] = g i s)
    (hother : ∀ s i j, j ≠ i → (f s i).seq.stations[j] = s.seq.stations[j])
    (hg : ∀ s i j, j ≠ i → g j (f s i) = g j s) (l : List StationId) (hl : l.Nodup) (s : State) (j : StationId) :
    (l.foldl f s).seq.stations[j] = if j ∈ l then g j s else s.seq.stations[j] := by
  induction l generalizing s with
  | nil => simp
  | cons i l ih =>
    have hi : i ∉ l := (List.nodup_cons.mp hl).1
    rw [List.foldl_cons, ih (List.nodup_cons.mp hl).2]
    by_cases e : j = i
    · subst e
      simp [hi, hself]
    · simp only [List.mem_cons, e, false_or]
      split
      · exact hg s i j e
      · exact hother s i j e

/-- The Station Sequencer's halt entry, station by station (R111). -/
theorem sequencerHaltEntry_station (j : StationId) :
    s.sequencerHaltEntry.seq.stations[j] =
      s.seq.stations[j].halted s.map.table[j].kind s.map.aliases[j] s.map.table[j].busy := by
  have h := foldl_station (f := State.stationHaltEntry)
    (g := fun j s => s.seq.stations[j].halted s.map.table[j].kind s.map.aliases[j] s.map.table[j].busy)
    (fun s i => stationHaltEntry_self i) (fun s i j h => stationHaltEntry_other h)
    (fun s i j h => by
      have m : (s.stationHaltEntry i).map = s.map := stationHaltEntry_touches s i .map (by decide)
      simp only [m, stationHaltEntry_other h])
    stationIds nodup_stationIds s j
  rw [if_pos (mem_stationIds j)] at h
  exact h

/-- The gate after a halt entry (R50). -/
theorem gateHaltPart_gate :
    s.gateHaltPart.gate =
      if s.gate.phase = .calling ∨ s.gate.phase = .rolling then
        { s.gate with call := none, ackTimer := none, phase := s.gateRest }
      else s.gate := by
  unfold State.gateHaltPart
  split <;> rfl

/-- The ring after the halt actions: the orders, the speeds and any other broadcast are gone, ALL_STOP and BRAKE are asked for
(R75, R145, R167). -/
def Ring.haltedRing (r : Ring) (drive : Nat) : Ring := ({ r.haltPart drive with motion := [] } : Ring).requestBrake drive

@[simp] theorem haltActions_pacer : s.haltActions.pacer = s.pacer.halted s.timing.driveStop := by
  have h : Touches [.cars, .seq, .gate] (s.onRing fun r => r.haltPart s.pacer.drive).pacerHaltEntry s.haltActions :=
    (sequencerHaltEntry_touches _).andThen (gateHaltPart_touches _)
  have e : _ = _ := h .pacer (by decide)
  rw [e, pacerHaltEntry_eq]; rfl

@[simp] theorem haltActions_ring : s.haltActions.ring = s.ring.haltedRing s.pacer.drive := by
  have h : Touches [.cars, .seq, .gate] (s.onRing fun r => r.haltPart s.pacer.drive).pacerHaltEntry s.haltActions :=
    (sequencerHaltEntry_touches _).andThen (gateHaltPart_touches _)
  have e : _ = _ := h .ring (by decide)
  rw [e, pacerHaltEntry_eq]; rfl

theorem haltActions_station (j : StationId) :
    s.haltActions.seq.stations[j] =
      s.seq.stations[j].halted s.map.table[j].kind s.map.aliases[j] s.map.table[j].busy := by
  have h : (s.haltActions).seq = ((s.onRing fun r => r.haltPart s.pacer.drive).pacerHaltEntry).sequencerHaltEntry.seq :=
    gateHaltPart_touches _ .seq (by decide)
  rw [h, sequencerHaltEntry_station, pacerHaltEntry_eq]
  rfl

theorem haltActions_gate :
    s.haltActions.gate =
      if s.gate.phase = .calling ∨ s.gate.phase = .rolling then
        { s.gate with call := none, ackTimer := none, phase := s.gateRest }
      else s.gate := by
  unfold State.haltActions
  rw [gateHaltPart_gate]
  have h := sequencerHaltEntry_touches (s.onRing fun r => r.haltPart s.pacer.drive).pacerHaltEntry
  have hg : _ = _ := h .gate (by decide)
  have he : _ = _ := h .eyes (by decide)
  rw [show ((s.onRing fun r => r.haltPart s.pacer.drive).pacerHaltEntry.sequencerHaltEntry).gate = s.gate from
      hg.trans (by rw [pacerHaltEntry_eq]; rfl)]
  rw [show ((s.onRing fun r => r.haltPart s.pacer.drive).pacerHaltEntry.sequencerHaltEntry).gateRest = s.gateRest by
      unfold State.gateRest State.loadingOn
      rw [show _ = _ from hg, show _ = _ from he, pacerHaltEntry_eq]; rfl]

/-! ## Causes -/

theorem markStruck_same (c : Cause) {f : Field} (h : f ≠ .cars) : f.same s (s.markStruck c) :=
  markStruck_touches s c f (by simpa using h)

@[simp] theorem markStruck_halt (c : Cause) : (s.markStruck c).halt = s.halt := rfl

/-- The Halt Controller's record after a cause in CLEAR (R144). -/
theorem openBy_halt (c : Cause) :
    (s.openBy c).halt =
      { s.halt with
        state := (s.openBy c).haltedOrHalting
        log := { number := s.freeIncidentNumber, state := .unacked, primary := c, secondary := [], more := 0,
                 opened := c.uptime, closed := none } :: logWithRoom s.halt.log
        nextNumber := nextInSequence 255 s.freeIncidentNumber
        line := .asserted } := by
  have h : ((s.newIncident c).haltActions.notify (.incidentOpen s.freeIncidentNumber c)).halt = (s.newIncident c).halt :=
    (notify_halt _ _).trans (haltActions_touches (s.newIncident c) .halt (by decide))
  have k := enterHalting_halt (s := (s.newIncident c).haltActions.notify (.incidentOpen s.freeIncidentNumber c))
  rw [h] at k
  exact k

/-- The log after a cause joins the open incident (R146). -/
theorem addSecondary_halt (c : Cause) (h : s.openIncident.isSome = true) :
    (s.addSecondary c).halt = { s.halt with log := s.halt.log.map fun r => if r.state ≠ .closed then r.addCause c else r } := by
  unfold State.addSecondary
  split
  · rename_i e; rw [e] at h; cases h
  · rfl

/-- Without an open incident the map over open records changes nothing. -/
theorem map_open_none {log : List Incident} {f : Incident → Incident} (h : log.find? (fun r => r.state ≠ .closed) = none) :
    log.map (fun r => if r.state ≠ .closed then f r else r) = log := by
  rw [List.find?_eq_none] at h
  conv => rhs; rw [← List.map_id log]
  apply List.map_congr_left
  intro r hr
  have k := h r hr
  simp only [ne_eq, decide_not, Bool.not_eq_true', decide_eq_false_iff_not, not_not] at k
  simp [k]

/-- The Halt Controller's record after a secondary cause (R146). -/
theorem secondaryBy_halt (c : Cause) :
    (s.secondaryBy c).halt =
      { s.halt with
        state := if s.halt.state = .restarting then (s.secondaryBy c).haltedOrHalting else s.halt.state
        log := s.halt.log.map fun r => if r.state ≠ .closed then r.addCause c else r
        line := if s.halt.state = .restarting then .asserted else s.halt.line } := by
  have hs : (s.addSecondary c).halt =
      { s.halt with log := s.halt.log.map fun r => if r.state ≠ .closed then r.addCause c else r } := by
    cases e : s.openIncident with
    | some r => exact addSecondary_halt c (by rw [e]; rfl)
    | none =>
      rw [map_open_none e]
      unfold State.addSecondary
      rw [e]
  unfold State.secondaryBy
  dsimp only
  by_cases hr : s.halt.state = .restarting
  · rw [if_pos hr]
    have h : ((s.addSecondary c).onHalt fun b => { b with line := .asserted }).haltActions.halt =
        { (s.addSecondary c).halt with line := .asserted } :=
      haltActions_touches _ .halt (by decide)
    have k := enterHalting_halt (s := ((s.addSecondary c).onHalt fun b => { b with line := .asserted }).haltActions)
    rw [h, hs] at k
    rw [if_pos hr, if_pos hr]
    exact k
  · rw [if_neg hr, if_neg hr, if_neg hr, hs]

/-- The state part of a secondary cause (R146). -/
theorem secondaryBy_state (c : Cause) :
    (s.secondaryBy c).halt.state = if s.halt.state = .restarting then (s.secondaryBy c).haltedOrHalting else s.halt.state := by
  have h := congrArg HaltBlock.state (secondaryBy_halt (s := s) c)
  exact h

/-- What a cause in CLEAR leaves in the Halt Controller (R144). -/
theorem openBy_parts (c : Cause) :
    (s.openBy c).halt.log =
      { number := s.freeIncidentNumber, state := .unacked, primary := c, secondary := [], more := 0,
        opened := c.uptime, closed := none } :: logWithRoom s.halt.log ∧
    (s.openBy c).halt.line = .asserted ∧
    ((s.openBy c).halt.state = .halting ∨ (s.openBy c).halt.state = .halted) := by
  have e := openBy_halt (s := s) c
  have k := haltedOrHalting_cases (s.openBy c)
  generalize (s.openBy c).haltedOrHalting = h at e k
  generalize s.openBy c = t at e ⊢
  rw [e]
  exact ⟨rfl, rfl, k⟩

/-- What a secondary cause leaves in the Halt Controller (R146). -/
theorem secondaryBy_parts (c : Cause) :
    (s.secondaryBy c).halt.log = s.halt.log.map (fun r => if r.state ≠ .closed then r.addCause c else r) ∧
    (if s.halt.state = .restarting then
      (s.secondaryBy c).halt.state = .halting ∨ (s.secondaryBy c).halt.state = .halted
     else (s.secondaryBy c).halt.state = s.halt.state) := by
  have e := secondaryBy_halt (s := s) c
  have k := haltedOrHalting_cases (s.secondaryBy c)
  generalize (s.secondaryBy c).haltedOrHalting = h at e k
  generalize s.secondaryBy c = t at e ⊢
  rw [e]
  refine ⟨rfl, ?_⟩
  split
  · exact k
  · rfl

/-- A cause is taken (R142, R144, R146); DRIVE_NO_STOP is always a secondary cause. -/
theorem takeCause_raises (c : Cause) (h : c.kind ≠ .driveNoStop) : Raises s (s.takeCause c) c := by
  unfold Raises State.takeCause
  dsimp only
  by_cases hc : s.halt.state = .clear
  · rw [if_pos hc, if_pos hc, if_neg h]
    exact openBy_parts (s := s.markStruck c) c
  · rw [if_neg hc, if_neg hc]
    have e := secondaryBy_parts (s := s.markStruck c) c
    refine ⟨e.1, ?_⟩
    have k := e.2
    rw [markStruck_halt] at k
    by_cases r : s.halt.state = .restarting
    · rw [if_pos r] at k
      exact .inr ⟨by rw [r]; decide, k⟩
    · rw [if_neg r] at k
      exact .inl k

end Sys2Proof.Machine
end

