-- ==== Sys2Proof/Laws/Cause.lean ====
section
/-! SUPPORT. What the taking of a cause sends (R144, R146), and that a halt leaves a car's own fields alone (R17). -/

set_option Elab.async false

namespace Sys2Proof.Machine

variable {s t u : State} {fs : List Field}

/-! ## The notice of a cause -/

theorem haltActions_queues : Queues [.cars, .pacer, .seq, .gate, .ring] s s.haltActions [] [] :=
  .of_touches (haltActions_touches s)

theorem enterHalting_queues : Queues [.halt, .seq, .gate, .ring] s s.enterHalting [] [] := .of_touches (enterHalting_touches s)

/-- A cause in CLEAR sends INCIDENT_OPEN (R144). -/
theorem openBy_queues (c : Cause) (room : s.office.notices.length < 32) :
    Queues [.cars, .pacer, .seq, .gate, .ring, .halt] s (s.openBy c) [] [.incidentOpen s.freeIncidentNumber c] := by
  have h1 : Queues [.cars, .pacer, .seq, .gate, .ring, .halt] s (s.newIncident c).haltActions [] [] :=
    (Queues.of_touches (newIncident_touches s c)).andThen haltActions_queues
  have h2 := h1.andThen (Queues.notify (s.newIncident c).haltActions (.incidentOpen s.freeIncidentNumber c)
    (by rw [h1.notices_length]; simpa using room)) (hs := [.cars, .pacer, .seq, .gate, .ring, .halt])
  exact h2.andThen enterHalting_queues

/-- A cause while an incident is open sends INCIDENT_CAUSE (R146). -/
theorem addSecondary_queues (c : Cause) (room : s.office.notices.length < 32) :
    Queues [.halt] s (s.addSecondary c) [] (s.openIncident.toList.map fun r =>
      .incidentCause r.number c (r.addCause c).secondary.length (r.addCause c).more) := by
  unfold State.addSecondary
  split
  · rename_i e
    rw [e]; exact (Queues.refl s).mono
  · rename_i r e
    rw [e]
    exact (Queues.of_touches (changeIncident_touches s fun r => r.addCause c)).andThen (Queues.notify _ _ room)

/-- A cause sends its notice and touches no eye, no table, no sale and no tally (R142, R144, R146). -/
theorem takeCause_queues (c : Cause) (k : c.kind ≠ .driveNoStop ∨ s.halt.state ≠ .clear)
    (room : s.office.notices.length < 32) :
    Queues [.cars, .pacer, .seq, .gate, .ring, .halt] s (s.takeCause c) [] (s.causeNotices c) := by
  have h1 : Queues [.cars] s (s.markStruck c) [] [] := .of_touches (markStruck_touches s c)
  have r1 : (s.markStruck c).office.notices.length < 32 := room
  unfold State.takeCause State.causeNotices
  dsimp only
  by_cases hc : s.halt.state = .clear
  · rw [if_pos hc, if_pos hc, if_neg (by rcases k with k | k; exact k; exact absurd hc k)]
    exact h1.andThen (openBy_queues (s := s.markStruck c) c r1)
  · rw [if_neg hc, if_neg hc]
    have h2 := addSecondary_queues (s := s.markStruck c) c r1
    unfold State.secondaryBy
    dsimp only
    split
    · have h3 := ((h2.andThen (Queues.of_touches (touches_onHalt ((s.markStruck c).addSecondary c)
        fun b => { b with line := .asserted })) (hs := [.halt])).andThen haltActions_queues
        (hs := [.cars, .pacer, .seq, .gate, .ring, .halt])).andThen enterHalting_queues
        (hs := [.cars, .pacer, .seq, .gate, .ring, .halt])
      have h4 := h1.andThen h3 (hs := [.cars, .pacer, .seq, .gate, .ring, .halt])
      simp only [List.append_nil, List.nil_append] at h4
      exact h4
    · exact h1.andThen h2

/-- A block's cause that opens or joins an incident (R142, R144, R146). -/
theorem raise_raises (k : CauseKind) (tag tag2 station eye : Option Nat) (h : k ≠ .driveNoStop) :
    Raises s (s.raise k tag tag2 station eye) (s.causeNow k tag tag2 station eye) := takeCause_raises _ h

theorem raise_queues (k : CauseKind) (tag tag2 station eye : Option Nat) (h : k ≠ .driveNoStop)
    (room : s.office.notices.length < 32) :
    Queues [.cars, .pacer, .seq, .gate, .ring, .halt] s (s.raise k tag tag2 station eye) []
      (s.causeNotices (s.causeNow k tag tag2 station eye)) := takeCause_queues _ (.inl h) room

theorem Raises.kick {c : Cause} (h : Raises s t c) (k : SameButOffice t u) : Raises s u c := by
  unfold Raises at *
  rw [show u.halt = t.halt from k .halt (by decide)]
  exact h

/-! ## What a halt leaves of a car -/

/-- The cars of two states agree but for the service sets and STRUCK. -/
def CoreSame (s t : State) : Prop := t.cars.map Car.core = s.cars.map Car.core

theorem CoreSame.refl (s : State) : CoreSame s s := rfl

theorem CoreSame.trans (h : CoreSame s t) (k : CoreSame t u) : CoreSame s u := Eq.trans k h

theorem CoreSame.of_touches (h : Touches fs s t) (hf : Field.cars ∉ fs := by decide) : CoreSame s t :=
  congrArg (List.map Car.core) (h .cars hf)

theorem CoreSame.of_map {f : Car → Car} (h : ∀ c, (f c).core = c.core) (e : t.cars = s.cars.map f) : CoreSame s t := by
  unfold CoreSame
  rw [e, List.map_map]
  exact List.map_congr_left fun c _ => h c

theorem CoreSame.foldl {α : Type} {f : State → α → State} (h : ∀ s a, CoreSame s (f s a)) (l : List α) (s : State) :
    CoreSame s (l.foldl f s) := by
  induction l generalizing s with
  | nil => exact .refl s
  | cons a l ih => exact (h s a).trans (ih (f s a))

theorem Car.recordMissed_core (c : Car) (i : StationId) : (c.recordMissed i).core = c.core := by
  unfold Car.recordMissed; split <;> rfl

theorem Car.recordServed_core (c : Car) (i : StationId) : (c.recordServed i).core = c.core := by
  unfold Car.recordServed; split <;> rfl

theorem changeCar_core {tag : Nat} {f : Car → Car} (h : ∀ c, (f c).core = c.core) (c : Car) :
    (if c.tag = tag then f c else c).core = c.core := by
  split
  · exact h c
  · rfl

theorem recordMissed_core (tag : Nat) (i : StationId) : CoreSame s (s.recordMissed tag i) :=
  .of_map (changeCar_core fun c => c.recordMissed_core i) rfl

theorem recordServed_core (tag : Nat) (i : StationId) : CoreSame s (s.recordServed tag i) :=
  .of_map (changeCar_core fun c => c.recordServed_core i) rfl

theorem markStruck_core (c : Cause) : CoreSame s (s.markStruck c) :=
  .of_map (f := fun k =>
    if c.tag = some k.tag ∨ c.tag2 = some k.tag then { k with flags := { k.flags with struck := true } } else k)
    (fun k => by dsimp only; split <;> rfl) rfl

theorem missEngaged_core (i : StationId) : CoreSame s (s.missEngaged i) := by
  unfold State.missEngaged
  split
  · exact .refl s
  · exact (recordMissed_core _ i).trans (.of_touches (onStation_touches _ i _))

theorem stationHaltEntry_core (i : StationId) : CoreSame s (s.stationHaltEntry i) := by
  unfold State.stationHaltEntry
  exact (missEngaged_core i).trans (.of_touches (onStation_touches _ i _))

theorem haltActions_core : CoreSame s s.haltActions :=
  (((CoreSame.of_touches (touches_onRing s _)).trans (.of_touches (pacerHaltEntry_touches _))).trans
    (CoreSame.foldl (fun _ i => stationHaltEntry_core i) stationIds _)).trans (.of_touches (gateHaltPart_touches _))

theorem openBy_core (c : Cause) : CoreSame s (s.openBy c) :=
  (((CoreSame.of_touches (newIncident_touches s c)).trans haltActions_core).trans (.of_touches (notify_touches _ _))).trans
    (.of_touches (enterHalting_touches _))

theorem secondaryBy_core (c : Cause) : CoreSame s (s.secondaryBy c) := by
  have h : CoreSame s (s.addSecondary c) := .of_touches (addSecondary_touches s c)
  unfold State.secondaryBy
  dsimp only
  split
  · exact ((h.trans (.of_touches (touches_onHalt _ _))).trans haltActions_core).trans (.of_touches (enterHalting_touches _))
  · exact h

/-- A cause changes nothing of a car but its service sets and STRUCK (R142, R145). -/
theorem takeCause_core (c : Cause) : CoreSame s (s.takeCause c) := by
  unfold State.takeCause
  dsimp only
  split
  · split
    · exact markStruck_core c
    · exact (markStruck_core c).trans (openBy_core c)
  · exact (markStruck_core c).trans (secondaryBy_core c)

theorem raise_core (k : CauseKind) (tag tag2 station eye : Option Nat) : CoreSame s (s.raise k tag tag2 station eye) :=
  takeCause_core _

/-- A car of the earlier state is found in the later one, with its own fields. -/
theorem CoreSame.exists_car (h : CoreSame s t) {c : Car} (hc : c ∈ s.cars) : ∃ d ∈ t.cars, d.core = c.core := by
  have m : c.core ∈ s.cars.map Car.core := List.mem_map_of_mem hc
  rw [← show t.cars.map Car.core = s.cars.map Car.core from h] at m
  exact List.mem_map.mp m

end Sys2Proof.Machine
end

