-- ==== Sys2Proof/Laws/Edges.lean ====
section
/-! SUPPORT. Number sequences (R18, R95, R151), what an EYE frame that forms an edge leads to (R10, R12), and the eyes a car
waits for (R20, R29, R31). -/

set_option Elab.async false

namespace Sys2Proof.Machine

variable {s t u : State} {fs : List Field}

/-! ## Rotating sequences -/

/-- The number i steps after n. -/
def stepped (top : Nat) : Nat → Nat → Nat
  | 0, n => n
  | i + 1, n => stepped top i (nextInSequence top n)

theorem nextInSequence_range {top : Nat} (h : 1 ≤ top) (n : Nat) : 1 ≤ nextInSequence top n ∧ nextInSequence top n ≤ top := by
  unfold nextInSequence
  split <;> omega

/-- A number chosen from a sequence lies in it (R18, R95, R123, R151). -/
theorem firstFree_range {held : Nat → Bool} {top : Nat} (h : 1 ≤ top) (count : Nat) {n : Nat} (h1 : 1 ≤ n) (h2 : n ≤ top) :
    1 ≤ firstFree held top count n ∧ firstFree held top count n ≤ top := by
  induction count generalizing n with
  | zero => exact ⟨h1, h2⟩
  | succ k ih =>
    unfold firstFree
    split
    · exact ih (nextInSequence_range h n).1 (nextInSequence_range h n).2
    · exact ⟨h1, h2⟩

theorem stepped_eq {top : Nat} (i : Nat) {n : Nat} (h1 : 1 ≤ n) (h2 : n ≤ top) (hi : i ≤ top) :
    stepped top i n = if n + i ≤ top then n + i else n + i - top := by
  induction i generalizing n with
  | zero => simp [stepped, h2]
  | succ i ih =>
    have r := nextInSequence_range (top := top) (by omega) n
    unfold stepped
    rw [ih r.1 r.2 (by omega)]
    unfold nextInSequence
    split <;> split <;> split <;> omega

/-- If the chosen number is held, every number of the steps taken is held. -/
theorem held_of_firstFree {held : Nat → Bool} {top : Nat} (count : Nat) {n : Nat} (h : held (firstFree held top count n) = true)
    {i : Nat} (hi : i < count) : held (stepped top i n) = true := by
  induction count generalizing n i with
  | zero => omega
  | succ k ih =>
    unfold firstFree at h
    split at h
    · rename_i hn
      cases i with
      | zero => exact hn
      | succ i => exact ih h (by omega)
    · exact absurd h ‹_›

/-- A number chosen while fewer are held than the sequence has is free (R18, R95, R123, R151). -/
theorem firstFree_free {held : Nat → Bool} {top : Nat} {l : List Nat} (hl : ∀ n, held n = true → n ∈ l) (short : l.length < top)
    {n : Nat} (h1 : 1 ≤ n) (h2 : n ≤ top) : held (firstFree held top top n) = false := by
  cases e : held (firstFree held top top n)
  · rfl
  · exfalso
    have all : ∀ i, i < top → stepped top i n ∈ l := fun i hi => hl _ (held_of_firstFree top e hi)
    have nd : ((List.range top).map fun i => stepped top i n).Nodup := by
      rw [List.nodup_iff_pairwise_ne, List.pairwise_map]
      refine List.Pairwise.imp_of_mem ?_ (List.nodup_iff_pairwise_ne.mp List.nodup_range)
      intro a b ha hb hab
      have ha := List.mem_range.mp ha
      have hb := List.mem_range.mp hb
      rw [stepped_eq a h1 h2 (by omega), stepped_eq b h1 h2 (by omega)]
      split <;> split <;> omega
    have sub : ((List.range top).map fun i => stepped top i n) ⊆ l := by
      intro x hx
      obtain ⟨i, hi, rfl⟩ := List.mem_map.mp hx
      exact all i (List.mem_range.mp hi)
    have := (List.Nodup.subperm nd sub).length_le
    simp at this
    omega

/-- The tag of a new record is held by no other (R18). -/
theorem freeTag_free (h : s.listLaw) : s.tagHeld s.freeTag = false := by
  refine firstFree_free (l := s.cars.map fun c => c.tag) ?_ ?_ h.2.2.2.2.1 h.2.2.2.2.2
  · intro n hn
    unfold State.tagHeld at hn
    rw [List.any_eq_true] at hn
    obtain ⟨c, hc, e⟩ := hn
    exact List.mem_map.mpr ⟨c, hc, by simpa using e⟩
  · have := h.1
    simp
    omega

/-- The number of a new incident is held by no record of the log (R151). -/
theorem freeIncidentNumber_free (h : s.logLaw) : s.incidentNumberHeld s.freeIncidentNumber = false := by
  refine firstFree_free (l := s.halt.log.map fun r => r.number) ?_ ?_ h.2.2.2.1 h.2.2.2.2
  · intro n hn
    unfold State.incidentNumberHeld at hn
    rw [List.any_eq_true] at hn
    obtain ⟨c, hc, e⟩ := hn
    exact List.mem_map.mpr ⟨c, hc, by simpa using e⟩
  · have := h.1
    simp
    omega

/-! ## Edges -/

/-- The state with an eye's new reading. -/
def State.withEye (s : State) (e : Fin 10) (on : Bool) : State :=
  s.onEyes fun eyes => eyes.set e { eyes[e] with on := on }

@[simp] theorem withEye_eyes (e : Fin 10) (on : Bool) : (s.withEye e on).eyes = s.eyes.set e { s.eyes[e] with on := on } := rfl
@[simp] theorem withEye_cars (e : Fin 10) (on : Bool) : (s.withEye e on).cars = s.cars := rfl
@[simp] theorem withEye_belt (e : Fin 10) (on : Bool) : (s.withEye e on).belt = s.belt := rfl
@[simp] theorem withEye_halt (e : Fin 10) (on : Bool) : (s.withEye e on).halt = s.halt := rfl
@[simp] theorem withEye_gate (e : Fin 10) (on : Bool) : (s.withEye e on).gate = s.gate := rfl
@[simp] theorem withEye_book (e : Fin 10) (on : Bool) : (s.withEye e on).book = s.book := rfl
@[simp] theorem withEye_pacer (e : Fin 10) (on : Bool) : (s.withEye e on).pacer = s.pacer := rfl
@[simp] theorem withEye_track (e : Fin 10) (on : Bool) : (s.withEye e on).track = s.track := rfl
@[simp] theorem withEye_clock (e : Fin 10) (on : Bool) : (s.withEye e on).clock = s.clock := rfl
@[simp] theorem withEye_office (e : Fin 10) (on : Bool) : (s.withEye e on).office = s.office := rfl

theorem withEye_self (e : Fin 10) (on : Bool) : (s.withEye e on).eyes[e] = { s.eyes[e] with on := on } :=
  getElem_set_eq' _ _ _

theorem withEye_other {e k : Fin 10} (h : k ≠ e) (on : Bool) : (s.withEye e on).eyes[k] = s.eyes[k] := getElem_set_ne' _ _ _ _ h

/-- But for its reading, an eye is what it was. -/
theorem withEye_fields (e k : Fin 10) (on : Bool) :
    (s.withEye e on).eyes[k].enabled = s.eyes[k].enabled ∧ (s.withEye e on).eyes[k].reliable = s.eyes[k].reliable ∧
      (s.withEye e on).eyes[k].position = s.eyes[k].position := by
  by_cases h : k = e
  · subst h; rw [withEye_self]; exact ⟨rfl, rfl, rfl⟩
  · rw [withEye_other h]; exact ⟨rfl, rfl, rfl⟩

theorem withEye_queues (e : Fin 10) (on : Bool) : Queues [.eyes] s (s.withEye e on) [] [] := .of_touches (touches_onEyes s _)

/-- The choice of the next tracking eye does not look at readings (R20, R29, R31). -/
theorem nextEyeAbove_withEye (e : Fin 10) (on : Bool) (k : Nat) : nextEyeAbove (s.withEye e on).eyes k = nextEyeAbove s.eyes k := by
  unfold nextEyeAbove
  congr 2
  funext j
  rw [(withEye_fields e j on).1, (withEye_fields e j on).2.1]

theorem eyePosition_val (eyes : Vector Eye 10) (e : Fin 10) : eyePosition eyes e.val = eyes[e].position := by
  unfold eyePosition
  rw [Vector.getElem?_eq_getElem e.isLt]
  rfl

theorem eyePosition_withEye (e k : Fin 10) (on : Bool) : eyePosition (s.withEye e on).eyes k.val = s.eyes[k].position := by
  rw [eyePosition_val, (withEye_fields e k on).2.2]

/-- The admission conditions do not look at eyes. -/
theorem admissible_withEye (e : Fin 10) (on : Bool) : (s.withEye e on).admissible = s.admissible := rfl

/-- An EYE frame that forms an edge (R10, R12). -/
theorem exec_edge {h : Head} {payload : List Byte} {e : Fin 10} {on : Bool} (he : s.edge h payload e on) :
    exec (.eye h payload) s = .next ((s.withEye e on).deliverEdge e on).officeKick := by
  obtain ⟨hl, hf, input, level, hp, hm, hr, ho⟩ := he
  show execEye h payload s = _
  unfold execEye
  rw [ringFrame_taken hl hf hp]
  simp only [hm, State.eyeReport, hr]
  rw [if_neg (by rw [ho]; simp)]
  rfl

/-- An edge that queues, as a whole. -/
theorem edge_sends {h : Head} {payload : List Byte} {e : Fin 10} {on : Bool} (he : s.edge h payload e on) {rs : List Reply}
    {ns : List Notice} (q : Queues fs s ((s.withEye e on).deliverEdge e on) rs ns) :
    ∃ t, exec (.eye h payload) s = .next t ∧ SameButOffice ((s.withEye e on).deliverEdge e on) t ∧ Sends fs s t rs ns :=
  ⟨_, exec_edge he, .kick _, q.kick⟩

end Sys2Proof.Machine
end

