-- ==== Sys2Proof/Laws/Operands.lean ====
section
/-! SUPPORT. Which bytes behind the writable fields of a write are runtime fields (R180; log 21), and that the widths are those of
the reads. -/

namespace Sys2Proof.Machine

/-- A write is read with the bytes behind its writable fields exactly when runtime fields fill them. -/
theorem withRuntime_eq_some {α : Type} {widths : List Nat} {runtime : List Byte} {write w : α} :
    withRuntime widths runtime write = some w ↔ runtime.length ∈ lengthsOf widths ∧ write = w := by
  simp [withRuntime]

theorem mem_lengthsOf_eyeRuntime {n : Nat} : n ∈ lengthsOf eyeRuntime ↔ n ≤ 2 := by
  rw [show lengthsOf eyeRuntime = [0, 1, 2] by decide +kernel]
  simp
  omega

theorem mem_lengthsOf_arbiterRuntime {n : Nat} : n ∈ lengthsOf arbiterRuntime ↔ n ≤ 14 := by
  rw [show lengthsOf arbiterRuntime = List.range 15 by decide +kernel, List.mem_range]
  omega

theorem mem_lengthsOf_gateRuntime {n : Nat} : n ∈ lengthsOf gateRuntime ↔ n ≤ 13 ∧ n ≠ 4 ∧ n ≠ 9 := by
  have h : ∀ n ∈ lengthsOf gateRuntime, n ≤ 13 ∧ n ≠ 4 ∧ n ≠ 9 := by decide +kernel
  refine ⟨h n, fun ⟨hn, _, _⟩ => ?_⟩
  have : ∀ n ∈ List.range 14, n ≠ 4 → n ≠ 9 → n ∈ lengthsOf gateRuntime := by decide +kernel
  exact this n (List.mem_range.mpr (by omega)) ‹_› ‹_›

theorem mem_lengthsOf_pacingRuntime {n : Nat} : n ∈ lengthsOf pacingRuntime ↔ n ≤ 29 := by
  have h : ∀ n ∈ lengthsOf pacingRuntime, n ≤ 29 := by decide +kernel
  have g : ∀ n ∈ List.range 30, n ∈ lengthsOf pacingRuntime := by decide +kernel
  exact ⟨h n, fun hn => g n (List.mem_range.mpr (by omega))⟩

theorem optional_length {α : Type} (n : Nat) (write : α → List Byte) (x : Option α) (h : ∀ a, (write a).length = n) :
    (optional n write x).length = n + 1 := by
  cases x <;> simp [optional, h, one]

theorem Gate.runtimeBytes_length (g : Gate) : g.runtimeBytes.length = gateRuntime.sum := by
  simp [Gate.runtimeBytes, gateRuntime, flag, one, orZero, optional_length 4 four _ (fun _ => rfl)]

theorem Ring.runtimeBytes_length (r : Ring) : r.runtimeBytes.length = arbiterRuntime.sum := by
  simp [Ring.runtimeBytes, arbiterRuntime, one, twoBits, optional_length 2 twoBits _ (fun _ => rfl)]

theorem Pacer.runtimeBytes_length (p : Pacer) : p.runtimeBytes.length = pacingRuntime.sum := by
  simp [Pacer.runtimeBytes, pacingRuntime, flag, one, two, four, optional_length 2 PointStop.bytes _ (fun _ => rfl),
    optional_length 2 OrderRecord.bytes _ (fun _ => rfl), optional_length 3 DriveReport.bytes _ (fun _ => rfl)]

end Sys2Proof.Machine
end

