-- ==== Sys2Proof/WellFormed.lean ====
section
/-! DEFINITION. Which commands can come from the two links and the part's timers: the field ranges of R162, R163 and R178. -/

namespace Sys2Proof

/-- A header whose address bytes are at most 127 and whose order byte is one byte (R162). -/
def Head.wf (h : Head) : Bool := decide (h.dst ≤ 127) && decide (h.src ≤ 127) && decide (h.order ≤ 255)

/-- A whole frame: a good header and a payload of at most 40 bytes (R162, R163). -/
def frameWf (h : Head) (payload : List Byte) : Bool := h.wf && decide (payload.length ≤ 40)

/-- A management request: a good header and operands that leave room for the request code (R162). -/
def requestWf (h : Head) (operands : List Byte) : Bool := h.wf && decide (operands.length ≤ 39)

/-- A write of a named table: operands that leave room for the request code and the table identifier (R162, R178). -/
def writeWf (h : Head) (operands : List Byte) : Bool := h.wf && decide (operands.length ≤ 38)

/-- The bit of the mask byte of a NODE write, 0 encoder, 1 drive, 2 roller, 3 office (R178). The operand bytes are the index,
the mask and the four addresses. -/
def nodeMaskNames (operands : List Byte) (bit : Nat) : Bool := ((operands[1]?).getD 0).getLsbD bit

/-- A NODE write stands in the row of a field its mask names. An empty mask, which R181 takes, may stand in any of the four. -/
def nodeWf (h : Head) (operands : List Byte) (bit : Nat) : Bool :=
  writeWf h operands && (nodeMaskNames operands bit || (operands[1]?).getD 0 == 0)

/-- The well-formed commands. -/
def Instr.wellFormed : Instr → Bool
  | .rstAssert | .rstRelease _ _ | .estopAssert | .estopRelease | .oholdAssert | .oholdRelease => true
  | .enc h p | .eye h p | .armState h p | .driveState h p | .orderAck h p | .maintReply h p | .returnedOrder h p
  | .returnedSetpoint h p | .returnedBrake h p | .returnedMaint h p | .broadcastReturn h p => frameWf h p
  | .badFrame _ => true
  | .callTransmitted | .startTransmitted | .stationOrderTransmitted | .broadcastTransmitted | .ringFrameTransmitted
  | .officeFrameSent => true
  | .quoteReq h p | .closeReq h p | .dropReq h p | .maint h p => frameWf h p
  | .tableRead h o | .tableWrite h o => requestWf h o
  | .stationWrite h o | .aliasWrite h o | .planWrite h o | .optionWrite h o | .codeWrite h o | .eyeWrite h o
  | .passWrite h o | .pacingWrite h o | .gateWrite h o | .trackWrite h o | .timingWrite h o | .arbiterWrite h o => writeWf h o
  | .nodeEncoderWrite h o => nodeWf h o 0
  | .nodeDriveWrite h o => nodeWf h o 1
  | .nodeRollerWrite h o => nodeWf h o 2
  | .nodeOfficeWrite h o => nodeWf h o 3
  | .gateOpen h o | .gateClose h o | .run h o | .stop h o | .halt h o | .ack h o | .resume h o | .stationClear h o
  | .eyeRestore h o | .saleVoid h o | .carClear h o | .tunnelReset h o | .tallyRead h o | .tallyReset h o
  | .statusRead h o => requestWf h o
  | .encoderSilenceExpiry | .rollerAckTimeout | .startAckTimeout | .profileInterval | .driveStopTimeout => true
  | .orderAckTimeout i | .returnWindowExpiry i | .positionTimeout i => decide (i < 32)
  | .quoteHoldExpiry t => decide (1 ≤ t) && decide (t ≤ 15)
  | .ringCheckExpiry | .ringTimeout => true

end Sys2Proof
end

