-- ==== Sys2Proof/Laws/PerInstr.lean ====
section
/-! SUPPORT. The per-instruction family HeaderRange: the header of a well-formed command, and its bytes, fit a frame (R162). -/

namespace Sys2Proof

/-- The header and the bytes of a command that arrives as a frame. -/
def Instr.frame? : Instr → Option (Head × List Byte)
  | .enc h bytes | .eye h bytes | .armState h bytes | .driveState h bytes | .orderAck h bytes | .maintReply h bytes
  | .returnedOrder h bytes | .returnedSetpoint h bytes | .returnedBrake h bytes | .returnedMaint h bytes
  | .broadcastReturn h bytes | .quoteReq h bytes | .closeReq h bytes | .dropReq h bytes | .maint h bytes
  | .tableRead h bytes | .tableWrite h bytes | .stationWrite h bytes | .aliasWrite h bytes | .planWrite h bytes
  | .optionWrite h bytes | .codeWrite h bytes | .eyeWrite h bytes | .passWrite h bytes | .pacingWrite h bytes
  | .gateWrite h bytes | .trackWrite h bytes | .timingWrite h bytes | .arbiterWrite h bytes
  | .nodeEncoderWrite h bytes | .nodeDriveWrite h bytes | .nodeRollerWrite h bytes | .nodeOfficeWrite h bytes
  | .gateOpen h bytes | .gateClose h bytes | .run h bytes | .stop h bytes | .halt h bytes | .ack h bytes
  | .resume h bytes | .stationClear h bytes | .eyeRestore h bytes | .saleVoid h bytes | .carClear h bytes
  | .tunnelReset h bytes | .tallyRead h bytes | .tallyReset h bytes | .statusRead h bytes => some (h, bytes)
  | .rstAssert | .rstRelease _ _ | .estopAssert | .estopRelease | .oholdAssert | .oholdRelease | .badFrame _
  | .callTransmitted | .startTransmitted | .stationOrderTransmitted | .broadcastTransmitted | .ringFrameTransmitted
  | .officeFrameSent | .encoderSilenceExpiry | .rollerAckTimeout | .startAckTimeout | .profileInterval
  | .driveStopTimeout | .orderAckTimeout _ | .returnWindowExpiry _ | .positionTimeout _ | .quoteHoldExpiry _
  | .ringCheckExpiry | .ringTimeout => none

/-- A well-formed command that arrives as a frame has a header in range and at most 40 bytes. -/
def Laws.HeaderRange.Statement (i : Instr) : Prop :=
  i.wellFormed = true → ∀ f, i.frame? = some f →
    f.1.dst ≤ 127 ∧ f.1.src ≤ 127 ∧ f.1.order ≤ 255 ∧ f.2.length ≤ 40

/-- A command that is no frame. -/
theorem Laws.HeaderRange.of_none {i : Instr} (h : i.frame? = none) : Laws.HeaderRange.Statement i := by
  intro _ f hf; rw [h] at hf; cases hf

/-- A command whose bytes are at most n ≤ 40 of a frame with a good header. -/
theorem Laws.HeaderRange.of_wf {i : Instr} {h : Head} {bytes : List Byte} (n : Nat) (hn : n ≤ 40)
    (hi : i.frame? = some (h, bytes)) (hw : i.wellFormed = true → h.wf = true ∧ bytes.length ≤ n) :
    Laws.HeaderRange.Statement i := by
  intro w f hf
  rw [hi] at hf
  cases hf
  obtain ⟨a, b⟩ := hw w
  simp only [Head.wf, Bool.and_eq_true, decide_eq_true_eq] at a
  exact ⟨a.1.1, a.1.2, a.2, by show bytes.length ≤ 40; omega⟩

theorem frameWf_iff {h : Head} {p : List Byte} : frameWf h p = true ↔ h.wf = true ∧ p.length ≤ 40 := by simp [frameWf]
theorem requestWf_iff {h : Head} {p : List Byte} : requestWf h p = true ↔ h.wf = true ∧ p.length ≤ 39 := by simp [requestWf]
theorem writeWf_iff {h : Head} {p : List Byte} : writeWf h p = true ↔ h.wf = true ∧ p.length ≤ 38 := by simp [writeWf]
theorem writeWf_of_nodeWf {h : Head} {p : List Byte} {b : Nat} (w : nodeWf h p b = true) : writeWf h p = true := by
  unfold nodeWf at w
  exact (Bool.and_eq_true _ _ ▸ w).1

theorem Laws.HeaderRange.rstAssert : Laws.HeaderRange.Statement (.rstAssert) := Laws.HeaderRange.of_none rfl
theorem Laws.HeaderRange.rstRelease (straps : BitVec 3) (estop : Level) : Laws.HeaderRange.Statement (.rstRelease straps estop) := Laws.HeaderRange.of_none rfl
theorem Laws.HeaderRange.estopAssert : Laws.HeaderRange.Statement (.estopAssert) := Laws.HeaderRange.of_none rfl
theorem Laws.HeaderRange.estopRelease : Laws.HeaderRange.Statement (.estopRelease) := Laws.HeaderRange.of_none rfl
theorem Laws.HeaderRange.oholdAssert : Laws.HeaderRange.Statement (.oholdAssert) := Laws.HeaderRange.of_none rfl
theorem Laws.HeaderRange.oholdRelease : Laws.HeaderRange.Statement (.oholdRelease) := Laws.HeaderRange.of_none rfl
theorem Laws.HeaderRange.enc (h : Head) (payload : List Byte) : Laws.HeaderRange.Statement (.enc h payload) :=
  Laws.HeaderRange.of_wf 40 (by decide) rfl frameWf_iff.1
theorem Laws.HeaderRange.eye (h : Head) (payload : List Byte) : Laws.HeaderRange.Statement (.eye h payload) :=
  Laws.HeaderRange.of_wf 40 (by decide) rfl frameWf_iff.1
theorem Laws.HeaderRange.armState (h : Head) (payload : List Byte) : Laws.HeaderRange.Statement (.armState h payload) :=
  Laws.HeaderRange.of_wf 40 (by decide) rfl frameWf_iff.1
theorem Laws.HeaderRange.driveState (h : Head) (payload : List Byte) : Laws.HeaderRange.Statement (.driveState h payload) :=
  Laws.HeaderRange.of_wf 40 (by decide) rfl frameWf_iff.1
theorem Laws.HeaderRange.orderAck (h : Head) (payload : List Byte) : Laws.HeaderRange.Statement (.orderAck h payload) :=
  Laws.HeaderRange.of_wf 40 (by decide) rfl frameWf_iff.1
theorem Laws.HeaderRange.maintReply (h : Head) (payload : List Byte) : Laws.HeaderRange.Statement (.maintReply h payload) :=
  Laws.HeaderRange.of_wf 40 (by decide) rfl frameWf_iff.1
theorem Laws.HeaderRange.returnedOrder (h : Head) (payload : List Byte) : Laws.HeaderRange.Statement (.returnedOrder h payload) :=
  Laws.HeaderRange.of_wf 40 (by decide) rfl frameWf_iff.1
theorem Laws.HeaderRange.returnedSetpoint (h : Head) (payload : List Byte) : Laws.HeaderRange.Statement (.returnedSetpoint h payload) :=
  Laws.HeaderRange.of_wf 40 (by decide) rfl frameWf_iff.1
theorem Laws.HeaderRange.returnedBrake (h : Head) (payload : List Byte) : Laws.HeaderRange.Statement (.returnedBrake h payload) :=
  Laws.HeaderRange.of_wf 40 (by decide) rfl frameWf_iff.1
theorem Laws.HeaderRange.returnedMaint (h : Head) (payload : List Byte) : Laws.HeaderRange.Statement (.returnedMaint h payload) :=
  Laws.HeaderRange.of_wf 40 (by decide) rfl frameWf_iff.1
theorem Laws.HeaderRange.broadcastReturn (h : Head) (payload : List Byte) : Laws.HeaderRange.Statement (.broadcastReturn h payload) :=
  Laws.HeaderRange.of_wf 40 (by decide) rfl frameWf_iff.1
theorem Laws.HeaderRange.badFrame (port : Port) : Laws.HeaderRange.Statement (.badFrame port) := Laws.HeaderRange.of_none rfl
theorem Laws.HeaderRange.callTransmitted : Laws.HeaderRange.Statement (.callTransmitted) := Laws.HeaderRange.of_none rfl
theorem Laws.HeaderRange.startTransmitted : Laws.HeaderRange.Statement (.startTransmitted) := Laws.HeaderRange.of_none rfl
theorem Laws.HeaderRange.stationOrderTransmitted : Laws.HeaderRange.Statement (.stationOrderTransmitted) := Laws.HeaderRange.of_none rfl
theorem Laws.HeaderRange.broadcastTransmitted : Laws.HeaderRange.Statement (.broadcastTransmitted) := Laws.HeaderRange.of_none rfl
theorem Laws.HeaderRange.ringFrameTransmitted : Laws.HeaderRange.Statement (.ringFrameTransmitted) := Laws.HeaderRange.of_none rfl
theorem Laws.HeaderRange.officeFrameSent : Laws.HeaderRange.Statement (.officeFrameSent) := Laws.HeaderRange.of_none rfl
theorem Laws.HeaderRange.quoteReq (h : Head) (payload : List Byte) : Laws.HeaderRange.Statement (.quoteReq h payload) :=
  Laws.HeaderRange.of_wf 40 (by decide) rfl frameWf_iff.1
theorem Laws.HeaderRange.closeReq (h : Head) (payload : List Byte) : Laws.HeaderRange.Statement (.closeReq h payload) :=
  Laws.HeaderRange.of_wf 40 (by decide) rfl frameWf_iff.1
theorem Laws.HeaderRange.dropReq (h : Head) (payload : List Byte) : Laws.HeaderRange.Statement (.dropReq h payload) :=
  Laws.HeaderRange.of_wf 40 (by decide) rfl frameWf_iff.1
theorem Laws.HeaderRange.maint (h : Head) (payload : List Byte) : Laws.HeaderRange.Statement (.maint h payload) :=
  Laws.HeaderRange.of_wf 40 (by decide) rfl frameWf_iff.1
theorem Laws.HeaderRange.tableRead (h : Head) (operands : List Byte) : Laws.HeaderRange.Statement (.tableRead h operands) :=
  Laws.HeaderRange.of_wf 39 (by decide) rfl requestWf_iff.1
theorem Laws.HeaderRange.tableWrite (h : Head) (operands : List Byte) : Laws.HeaderRange.Statement (.tableWrite h operands) :=
  Laws.HeaderRange.of_wf 39 (by decide) rfl requestWf_iff.1
theorem Laws.HeaderRange.stationWrite (h : Head) (operands : List Byte) : Laws.HeaderRange.Statement (.stationWrite h operands) :=
  Laws.HeaderRange.of_wf 38 (by decide) rfl writeWf_iff.1
theorem Laws.HeaderRange.aliasWrite (h : Head) (operands : List Byte) : Laws.HeaderRange.Statement (.aliasWrite h operands) :=
  Laws.HeaderRange.of_wf 38 (by decide) rfl writeWf_iff.1
theorem Laws.HeaderRange.planWrite (h : Head) (operands : List Byte) : Laws.HeaderRange.Statement (.planWrite h operands) :=
  Laws.HeaderRange.of_wf 38 (by decide) rfl writeWf_iff.1
theorem Laws.HeaderRange.optionWrite (h : Head) (operands : List Byte) : Laws.HeaderRange.Statement (.optionWrite h operands) :=
  Laws.HeaderRange.of_wf 38 (by decide) rfl writeWf_iff.1
theorem Laws.HeaderRange.codeWrite (h : Head) (operands : List Byte) : Laws.HeaderRange.Statement (.codeWrite h operands) :=
  Laws.HeaderRange.of_wf 38 (by decide) rfl writeWf_iff.1
theorem Laws.HeaderRange.eyeWrite (h : Head) (operands : List Byte) : Laws.HeaderRange.Statement (.eyeWrite h operands) :=
  Laws.HeaderRange.of_wf 38 (by decide) rfl writeWf_iff.1
theorem Laws.HeaderRange.passWrite (h : Head) (operands : List Byte) : Laws.HeaderRange.Statement (.passWrite h operands) :=
  Laws.HeaderRange.of_wf 38 (by decide) rfl writeWf_iff.1
theorem Laws.HeaderRange.pacingWrite (h : Head) (operands : List Byte) : Laws.HeaderRange.Statement (.pacingWrite h operands) :=
  Laws.HeaderRange.of_wf 38 (by decide) rfl writeWf_iff.1
theorem Laws.HeaderRange.gateWrite (h : Head) (operands : List Byte) : Laws.HeaderRange.Statement (.gateWrite h operands) :=
  Laws.HeaderRange.of_wf 38 (by decide) rfl writeWf_iff.1
theorem Laws.HeaderRange.trackWrite (h : Head) (operands : List Byte) : Laws.HeaderRange.Statement (.trackWrite h operands) :=
  Laws.HeaderRange.of_wf 38 (by decide) rfl writeWf_iff.1
theorem Laws.HeaderRange.timingWrite (h : Head) (operands : List Byte) : Laws.HeaderRange.Statement (.timingWrite h operands) :=
  Laws.HeaderRange.of_wf 38 (by decide) rfl writeWf_iff.1
theorem Laws.HeaderRange.arbiterWrite (h : Head) (operands : List Byte) : Laws.HeaderRange.Statement (.arbiterWrite h operands) :=
  Laws.HeaderRange.of_wf 38 (by decide) rfl writeWf_iff.1
theorem Laws.HeaderRange.nodeEncoderWrite (h : Head) (operands : List Byte) : Laws.HeaderRange.Statement (.nodeEncoderWrite h operands) :=
  Laws.HeaderRange.of_wf 38 (by decide) rfl fun w => writeWf_iff.1 (writeWf_of_nodeWf w)
theorem Laws.HeaderRange.nodeDriveWrite (h : Head) (operands : List Byte) : Laws.HeaderRange.Statement (.nodeDriveWrite h operands) :=
  Laws.HeaderRange.of_wf 38 (by decide) rfl fun w => writeWf_iff.1 (writeWf_of_nodeWf w)
theorem Laws.HeaderRange.nodeRollerWrite (h : Head) (operands : List Byte) : Laws.HeaderRange.Statement (.nodeRollerWrite h operands) :=
  Laws.HeaderRange.of_wf 38 (by decide) rfl fun w => writeWf_iff.1 (writeWf_of_nodeWf w)
theorem Laws.HeaderRange.nodeOfficeWrite (h : Head) (operands : List Byte) : Laws.HeaderRange.Statement (.nodeOfficeWrite h operands) :=
  Laws.HeaderRange.of_wf 38 (by decide) rfl fun w => writeWf_iff.1 (writeWf_of_nodeWf w)
theorem Laws.HeaderRange.gateOpen (h : Head) (operands : List Byte) : Laws.HeaderRange.Statement (.gateOpen h operands) :=
  Laws.HeaderRange.of_wf 39 (by decide) rfl requestWf_iff.1
theorem Laws.HeaderRange.gateClose (h : Head) (operands : List Byte) : Laws.HeaderRange.Statement (.gateClose h operands) :=
  Laws.HeaderRange.of_wf 39 (by decide) rfl requestWf_iff.1
theorem Laws.HeaderRange.run (h : Head) (operands : List Byte) : Laws.HeaderRange.Statement (.run h operands) :=
  Laws.HeaderRange.of_wf 39 (by decide) rfl requestWf_iff.1
theorem Laws.HeaderRange.stop (h : Head) (operands : List Byte) : Laws.HeaderRange.Statement (.stop h operands) :=
  Laws.HeaderRange.of_wf 39 (by decide) rfl requestWf_iff.1
theorem Laws.HeaderRange.halt (h : Head) (operands : List Byte) : Laws.HeaderRange.Statement (.halt h operands) :=
  Laws.HeaderRange.of_wf 39 (by decide) rfl requestWf_iff.1
theorem Laws.HeaderRange.ack (h : Head) (operands : List Byte) : Laws.HeaderRange.Statement (.ack h operands) :=
  Laws.HeaderRange.of_wf 39 (by decide) rfl requestWf_iff.1
theorem Laws.HeaderRange.resume (h : Head) (operands : List Byte) : Laws.HeaderRange.Statement (.resume h operands) :=
  Laws.HeaderRange.of_wf 39 (by decide) rfl requestWf_iff.1
theorem Laws.HeaderRange.stationClear (h : Head) (operands : List Byte) : Laws.HeaderRange.Statement (.stationClear h operands) :=
  Laws.HeaderRange.of_wf 39 (by decide) rfl requestWf_iff.1
theorem Laws.HeaderRange.eyeRestore (h : Head) (operands : List Byte) : Laws.HeaderRange.Statement (.eyeRestore h operands) :=
  Laws.HeaderRange.of_wf 39 (by decide) rfl requestWf_iff.1
theorem Laws.HeaderRange.saleVoid (h : Head) (operands : List Byte) : Laws.HeaderRange.Statement (.saleVoid h operands) :=
  Laws.HeaderRange.of_wf 39 (by decide) rfl requestWf_iff.1
theorem Laws.HeaderRange.carClear (h : Head) (operands : List Byte) : Laws.HeaderRange.Statement (.carClear h operands) :=
  Laws.HeaderRange.of_wf 39 (by decide) rfl requestWf_iff.1
theorem Laws.HeaderRange.tunnelReset (h : Head) (operands : List Byte) : Laws.HeaderRange.Statement (.tunnelReset h operands) :=
  Laws.HeaderRange.of_wf 39 (by decide) rfl requestWf_iff.1
theorem Laws.HeaderRange.tallyRead (h : Head) (operands : List Byte) : Laws.HeaderRange.Statement (.tallyRead h operands) :=
  Laws.HeaderRange.of_wf 39 (by decide) rfl requestWf_iff.1
theorem Laws.HeaderRange.tallyReset (h : Head) (operands : List Byte) : Laws.HeaderRange.Statement (.tallyReset h operands) :=
  Laws.HeaderRange.of_wf 39 (by decide) rfl requestWf_iff.1
theorem Laws.HeaderRange.statusRead (h : Head) (operands : List Byte) : Laws.HeaderRange.Statement (.statusRead h operands) :=
  Laws.HeaderRange.of_wf 39 (by decide) rfl requestWf_iff.1
theorem Laws.HeaderRange.encoderSilenceExpiry : Laws.HeaderRange.Statement (.encoderSilenceExpiry) := Laws.HeaderRange.of_none rfl
theorem Laws.HeaderRange.rollerAckTimeout : Laws.HeaderRange.Statement (.rollerAckTimeout) := Laws.HeaderRange.of_none rfl
theorem Laws.HeaderRange.startAckTimeout : Laws.HeaderRange.Statement (.startAckTimeout) := Laws.HeaderRange.of_none rfl
theorem Laws.HeaderRange.profileInterval : Laws.HeaderRange.Statement (.profileInterval) := Laws.HeaderRange.of_none rfl
theorem Laws.HeaderRange.driveStopTimeout : Laws.HeaderRange.Statement (.driveStopTimeout) := Laws.HeaderRange.of_none rfl
theorem Laws.HeaderRange.orderAckTimeout (station : Nat) : Laws.HeaderRange.Statement (.orderAckTimeout station) := Laws.HeaderRange.of_none rfl
theorem Laws.HeaderRange.returnWindowExpiry (station : Nat) : Laws.HeaderRange.Statement (.returnWindowExpiry station) := Laws.HeaderRange.of_none rfl
theorem Laws.HeaderRange.positionTimeout (station : Nat) : Laws.HeaderRange.Statement (.positionTimeout station) := Laws.HeaderRange.of_none rfl
theorem Laws.HeaderRange.quoteHoldExpiry (terminal : Nat) : Laws.HeaderRange.Statement (.quoteHoldExpiry terminal) := Laws.HeaderRange.of_none rfl
theorem Laws.HeaderRange.ringCheckExpiry : Laws.HeaderRange.Statement (.ringCheckExpiry) := Laws.HeaderRange.of_none rfl
theorem Laws.HeaderRange.ringTimeout : Laws.HeaderRange.Statement (.ringTimeout) := Laws.HeaderRange.of_none rfl

end Sys2Proof
end

