-- ==== Sys2Proof/Laws/Ring.lean ====
section
/-! SUPPORT. What the arbiter's choice and a queued frame do to the Ring Port, and what a belt advance is. -/

set_option Elab.async false

namespace Sys2Proof.Machine

variable {r : Ring}

/-- A choice leaves every class queue as it was, or without its head. -/
theorem Ring.choose_queueOf (r : Ring) (c : RingClass) :
    r.choose.queueOf c = r.queueOf c ∨ r.choose.queueOf c = (r.queueOf c).tail := by
  unfold Ring.choose
  cases lowestClass r.candidates with
  | none => exact .inl rfl
  | some w => cases w <;> cases c <;> simp [Ring.queueOf]

/-- A frame that waits after a choice waited before it. -/
theorem Ring.mem_of_mem_choose {c : RingClass} {f : RingFrame} (h : f ∈ r.choose.queueOf c) : f ∈ r.queueOf c := by
  rcases r.choose_queueOf c with e | e <;> rw [e] at h
  · exact h
  · exact List.mem_of_mem_tail h

/-- A choice lengthens no queue. -/
theorem Ring.choose_length_le (r : Ring) (c : RingClass) : (r.choose.queueOf c).length ≤ (r.queueOf c).length := by
  rcases r.choose_queueOf c with e | e <;> simp [e]

/-- What a choice does not touch. -/
theorem Ring.choose_rest (r : Ring) :
    r.choose.state = r.state ∧ r.choose.outstanding = r.outstanding ∧ r.choose.nextStamp = r.nextStamp ∧
    r.choose.timeout = r.timeout ∧ r.choose.checkTimer = r.checkTimer ∧ r.choose.releasePending = r.releasePending ∧
    r.choose.badFrames = r.badFrames := by
  unfold Ring.choose
  cases lowestClass r.candidates <;> simp

theorem Ring.append_queueOf (r : Ring) (c d : RingClass) (f : RingFrame) :
    (r.append c f).queueOf d = if d = c then r.queueOf d ++ [f] else r.queueOf d := by
  cases c <;> cases d <;> simp [Ring.append, Ring.queueOf]

/-- A frame that waits after a push waited before it, or is the one pushed. -/
theorem Ring.mem_of_mem_push {c d : RingClass} {f g : RingFrame} (h : g ∈ (r.push c f).queueOf d) :
    g ∈ r.queueOf d ∨ (d = c ∧ g = f) := by
  have : g ∈ (r.append c f).queueOf d := by
    unfold Ring.push Ring.kick at h
    split at h
    · exact mem_of_mem_choose h
    · exact h
  rw [append_queueOf] at this
  split at this
  · rcases List.mem_append.1 this with e | e
    · exact .inl e
    · exact .inr ⟨by assumption, List.mem_singleton.1 e⟩
  · exact .inl this

/-- A push lengthens at most its own queue, by one. -/
theorem Ring.push_length_le (r : Ring) (c d : RingClass) (f : RingFrame) :
    ((r.push c f).queueOf d).length ≤ (r.queueOf d).length + if d = c then 1 else 0 := by
  have : ((r.append c f).queueOf d).length = (r.queueOf d).length + if d = c then 1 else 0 := by
    rw [append_queueOf]; split <;> simp
  rw [← this]
  unfold Ring.push Ring.kick
  split
  · exact choose_length_le _ d
  · exact le_refl _

/-- A belt advance is the four blocks' parts in one of the orders, and counts one free choice (log 3). -/
theorem beltAdvance_eq (s : State) :
    ∃ o, s.beltAdvance = (s.advanceIn o).onClock fun c => { c with choices := s.clock.choices + 1 } := by
  unfold State.beltAdvance
  dsimp only
  split
  · exact ⟨_, rfl⟩
  · exact ⟨_, rfl⟩

end Sys2Proof.Machine
end

