-- ==== Sys2Proof/Tests/Slice0.lean ====
section
/-! SUPPORT. Tests of single commands, and for every statement with hypotheses states that meet them. Expected values are worked
by hand from the rules named; frame checks come from a CRC program of its own. -/

set_option Elab.async false

namespace Sys2Proof.Tests

open Sys2Proof.Machine

/-! ## Ill-formed commands are refused (R162, R163, R178) -/

def head (dst src order : Nat) : Head := { dst := dst, src := src, order := order }

theorem test_wf_destination : (Instr.enc (head 128 2 0) [0, 0]).wellFormed = false := by decide
theorem test_wf_source : (Instr.enc (head 0 128 0) [0, 0]).wellFormed = false := by decide
theorem test_wf_order_byte : (Instr.orderAck (head 0 2 256) [1]).wellFormed = false := by decide
theorem test_wf_payload_of_41 : (Instr.maintReply (head 0 2 40) (List.replicate 41 0)).wellFormed = false := by decide
theorem test_wf_operands_of_40 : (Instr.run (head 96 40 0) (List.replicate 40 0)).wellFormed = false := by decide
theorem test_wf_write_of_39 : (Instr.eyeWrite (head 96 40 0) (List.replicate 39 0)).wellFormed = false := by decide
theorem test_wf_node_mask_names_another :
    (Instr.nodeDriveWrite (head 96 40 0) [0, 1, 0, 0, 0, 0]).wellFormed = false := by decide
theorem test_wf_station_32 : (Instr.orderAckTimeout 32).wellFormed = false := by decide
theorem test_wf_return_window_32 : (Instr.returnWindowExpiry 32).wellFormed = false := by decide
theorem test_wf_position_32 : (Instr.positionTimeout 32).wellFormed = false := by decide
theorem test_wf_terminal_0 : (Instr.quoteHoldExpiry 0).wellFormed = false := by decide
theorem test_wf_terminal_16 : (Instr.quoteHoldExpiry 16).wellFormed = false := by decide
theorem test_wf_node_write : (Instr.nodeOfficeWrite (head 96 40 0) [0, 8, 0, 0, 0, 70]).wellFormed = true := by decide

/-! ## Frames of the links (R162 to R166, R172, R177) -/

/-- The check value of CRC-16 with this polynomial and initial value over the digits 1 to 9. -/
theorem test_crc_digits : crc16 [0x31, 0x32, 0x33, 0x34, 0x35, 0x36, 0x37, 0x38, 0x39] = 0x29B1 := by decide +kernel
theorem test_frame_enc :
    arrival .ring [0x00, 0x02, 0x01, 0x00, 0x02, 0x12, 0x34, 0xad, 0x79] = some (.enc (head 0 2 0) [0x12, 0x34]) := by
  decide +kernel
theorem test_frame_bad_check :
    arrival .ring [0x00, 0x02, 0x01, 0x00, 0x02, 0x12, 0x34, 0xad, 0x78] = some (.badFrame .ring) := by
  decide +kernel
theorem test_frame_cut_short : arrival .office [0x60, 0x28, 0x26, 0x00, 0x01, 0x32, 0x6e] = some (.badFrame .office) := by
  decide +kernel
theorem test_frame_order_ack :
    arrival .ring [0x00, 0x0f, 0x05, 0x09, 0x01, 0x01, 0x6a, 0x2d] = some (.orderAck (head 0 15 9) [1]) := by decide +kernel
theorem test_frame_broadcast_return :
    arrival .ring [0x7f, 0x00, 0x15, 0x00, 0x02, 0x00, 0x01, 0xa6, 0x0a] = some (.broadcastReturn (head 127 0 0) [0, 1]) := by
  decide +kernel
theorem test_frame_returned_order :
    arrival .ring [0x15, 0x00, 0x10, 0x04, 0x02, 0x03, 0x01, 0x5a, 0xab] = some (.returnedOrder (head 21 0 4) [3, 1]) := by
  decide +kernel
theorem test_frame_close_req :
    arrival .office [0x60, 0x02, 0x22, 0x00, 0x03, 0x00, 0x09, 0x01, 0x53, 0x48] =
      some (.closeReq (head 96 2 0) [0, 9, 1]) := by decide +kernel
theorem test_frame_run :
    arrival .office [0x60, 0x28, 0x26, 0x00, 0x03, 0x12, 0x09, 0x60, 0x99, 0xd5] = some (.run (head 96 40 0) [0x09, 0x60]) := by
  decide +kernel
theorem test_frame_alias_write :
    arrival .office [0x60, 0x28, 0x26, 0x00, 0x04, 0x02, 0x02, 0x01, 0x15, 0x31, 0x9d] =
      some (.aliasWrite (head 96 40 0) [1, 21]) := by decide +kernel
theorem test_frame_node_roller_write :
    arrival .office [0x60, 0x28, 0x26, 0x00, 0x08, 0x02, 0x0d, 0x00, 0x04, 0x00, 0x00, 0x0f, 0x00, 0xa4, 0x59] =
      some (.nodeRollerWrite (head 96 40 0) [0, 4, 0, 0, 15, 0]) := by decide +kernel
theorem test_no_word_is_a_command : decodeTableWord 16 0x1234 = none := rfl

/-! ## A site -/

def site : Head := head 96 40 0
def node (n : Nat) : Head := head 0 n 0
def terminal (n : Nat) : Head := head 96 n 0

def eyeAt (n input position : Nat) : Eye := { enabled := true, node := n, input := input, position := position }

/-- Stopped and CLEAR, the ring up and idle, with a track, five eyes and three stations: 0 POSTED, 1 ARM, 2 ACKED. -/
def base : State :=
  { State.reset with
    belt := { count := 5000, lastRaw := some 100, silence := some 100, encoder := 2 }
    eyes := ((((State.reset.eyes.set 0 (eyeAt 10 0 0)).set 1 (eyeAt 10 1 0)).set 2 (eyeAt 11 0 0)).set 3 (eyeAt 11 1 0)).set 4
      (eyeAt 12 0 3000)
    track := { State.reset.track with length := 12000 }
    gate := { State.reset.gate with roller := 15 }
    pacer := { State.reset.pacer with drive := 30, commanded := 5000 }
    map := {
      table := ((State.reset.map.table.set 0 { kind := .posted, windowStart := 500, windowEnd := 1500, weight := 10 }).set 1
        { kind := .arm, windowStart := 3500, windowEnd := 5500, travel := 800, load := 180, weight := 20 }).set 2
        { kind := .acked, windowStart := 6000, windowEnd := 7000, weight := 30 }
      aliases := ((State.reset.map.aliases.set 0 20).set 1 21).set 2 22 }
    ring := { State.reset.ring with state := .up, tx := none }
    book := { State.reset.book with
      plans := State.reset.book.plans.set 3 { state := .offered, price := 1500, stations := 7, essential := 2, allow := 255 }
      options := (State.reset.book.options.set 1 { price := 300, added := 16 }).set 4 { price := 250, added := 32 }
      codes := State.reset.book.codes.set 0 { enabled := true, base := 0x1000, mask := 0xF000, plan := 3, discount := 20 } } }

def ticket : Sale := { number := 9, terminal := 2, plan := 3, options := 0, amount := 1500, tender := .card }

/-- A car of length 1000 with its front at 4000 while the belt count is 5000; station 0 has served it. -/
def rider : Car :=
  { tag := 7, stamp := 1000, length := some 1000, phase := .riding, plan := 3, sale := some ticket, activity := 7, served := 1
    nextEye := some 4 }

def running : State :=
  { base with pacer := { base.pacer with state := .running, runSpeed := 2400, speed := 1600, profileTimer := some 0 } }

def withCar : State := { running with cars := [rider] }

def incident : Incident :=
  { number := 1, state := .unacked, primary := { kind := .manual, belt := 0, uptime := 0 }, secondary := [], more := 0
    opened := 0, closed := none }

/-- An open incident and the halt state given; the pacer as it stands there. -/
def inIncident (h : HaltState) (p : PacerState) (st : IncidentState) : State :=
  { base with
    halt := { state := h, log := [{ incident with state := st }], nextNumber := 2, estop := .released, line := .asserted }
    pacer := { base.pacer with state := p, watch := .met } }

def halted : State := inIncident .halted .halted .acked

def station (s : State) (i : StationId) (st : Station) : State := s.onStation i fun _ => st

def order (a : Action) (n : Nat) (w : Wait) : StationOrder :=
  { action := a, number := some n, car := some 7, transmitted := true, wait := w }

/-- A station that serves the rider. -/
def serving (i : StationId) (p : StationPhase) (timer : Option Nat) (o : StationOrder) : State :=
  station withCar i { phase := p, car := some 7, current := some o, timer := timer }

/-- Station 2 is ENGAGING for the rider, its ON sent as order 5. -/
def engaging : State := serving 2 .engaging (some 40) (order .on 5 .ack)

/-- A pass window at the place of lowest index. -/
def windowed (w : PassWindow) : State :=
  { base with office := { base.office with windows := base.office.windows.set 0 w } }

/-- Broadcast 1 is out. -/
def watched (st : RingState) (timeout check : Option Nat) : State :=
  { base with ring := { base.ring with state := st, outstanding := some 1, timeout := timeout, checkTimer := check } }

def openQuote : Quote := { number := 9, plan := 3, options := 0, amount := 1500, activity := 7, hold := 5000 }
def quoted : State := { base with book := { base.book with quotes := base.book.quotes.set 1 (some openQuote) } }
def sold : State := { base with book := { base.book with queue := [{ sale := ticket, activity := 7 }] } }

def calling (sent : Bool) : State :=
  { base with gate := { base.gate with isOpen := true, phase := .calling, call := some { number := 9, transmitted := sent }
                                       ackTimer := if sent then some 40 else none } }

def starting (sent : Bool) : State :=
  { base with pacer := { base.pacer with state := .starting, runSpeed := 2400, start := some { number := 9, transmitted := sent }
                                         startTimer := if sent then some 200 else none } }

def sending (s : State) (f : RingFrame) : State := { s with ring := { s.ring with tx := some f } }

/-- The state after a command. -/
def after (c : Instr) (s : State) : State :=
  match exec c s with
  | .next t => t
  | _ => s

/-- The reply in the office transmitter, and the notice there. -/
def State.answer (s : State) : Option ReplyBody :=
  match s.office.tx with
  | some (.reply r) => some r.body
  | _ => none

def State.told (s : State) : Option Notice :=
  match s.office.tx with
  | some (.notice n) => some n.notice
  | _ => none

/-- The primary cause of the newest incident. -/
def State.cause (s : State) : Option CauseKind := s.halt.log.head?.map fun r => r.primary.kind

/-! ## One command on a small state -/

theorem test_rstAssert :
    (after .rstAssert base).belt.count = 0 ∧ (after .rstAssert base).halt.line = .asserted := by decide +kernel
theorem test_rstRelease : (after (.rstRelease 5 .asserted) base).office.address = 101 ∧
    (after (.rstRelease 5 .asserted) base).halt.state = .halted := by decide +kernel
theorem test_estopAssert :
    (after .estopAssert running).pacer.state = .halted ∧ (after .estopAssert running).pacer.resume = true ∧
    (after .estopAssert running).ring.tx = some (.broadcast .allStop 1) := by decide +kernel
theorem test_estopAssert_while_low : after .estopAssert (after .estopAssert base) = after .estopAssert base := by decide +kernel
theorem test_estopRelease : (after .estopRelease (after .estopAssert base)).halt.estop = .released ∧
    (after .estopRelease (after .estopAssert base)).halt.state ≠ .clear := by decide +kernel
theorem test_oholdAssert : (after (.halt site []) (after .oholdAssert base)).office.tx = none := by decide +kernel
theorem test_oholdRelease : State.answer (after .oholdRelease (after (.halt site []) (after .oholdAssert base))) =
    some (.mgmt 0x14 .ok []) := by decide +kernel
theorem test_enc_wraps :
    (after (.enc (node 2) [0x00, 0x04]) { base with belt := { base.belt with lastRaw := some 65530 } }).belt.count =
    5010 := by decide +kernel
theorem test_enc_implausible : State.cause (after (.enc (node 2) [0x10, 0x64]) base) = some .encoder ∧
    (after (.enc (node 2) [0x10, 0x64]) base).belt.count = 5000 := by decide +kernel
theorem test_eye_entry : (after (.eye (node 10) [1, 1]) sold).cars.map (fun c => (c.tag, c.stamp, c.plan, c.flags.uncalled)) =
    [(1, 5000, 3, true)] ∧ (after (.eye (node 10) [1, 1]) sold).book.queue = [] := by decide +kernel
theorem test_eye_object : State.cause (after (.eye (node 12) [0, 1]) running) = some .object := by decide +kernel
theorem test_armState : (after (.armState (node 21) [2, 50]) base).seq.stations[1].position = .inn ∧
    (after (.armState (node 21) [2, 50]) base).seq.stations[1].load = 50 := by decide +kernel
theorem test_armState_strike : State.cause (after (.armState (node 21) [2, 181]) base) = some .armStrike := by decide +kernel
theorem test_driveState_learned : (after (.driveState (node 31) [1, 0, 0]) base).pacer.drive = 31 := by decide +kernel
theorem test_driveState_fault :
    State.cause (after (.driveState (node 30) [1, 1, 4]) running) = some .driveFault := by decide +kernel
theorem test_orderAck_station :
    (after (.orderAck (head 0 22 5) [1]) engaging).seq.stations[2].phase = .engaged := by decide +kernel
theorem test_orderAck_call : (after (.orderAck (head 0 15 9) [1]) (calling true)).gate.phase = .rolling := by decide +kernel
theorem test_maintReply : State.answer (after (.maintReply (head 0 50 40) [1, 2]) base) = some (.maint .ok 50 [1, 2]) := by
  decide +kernel
theorem test_returnedOrder :
    (after (.returnedOrder (head 15 0 9) [5, 0]) (calling true)).gate.phase = .closed := by decide +kernel
theorem test_returnedOrder_station :
    (after (.returnedOrder (head 22 0 5) [1, 2]) engaging).seq.stations[2].phase = .fault := by decide +kernel
theorem test_returnedSetpoint : State.cause (after (.returnedSetpoint (head 30 0 0) [6, 64]) running) = some .driveFault := by
  decide +kernel
theorem test_returnedBrake : after (.returnedBrake (head 30 0 0) []) running = running := by decide +kernel
theorem test_returnedMaint : State.answer (after (.returnedMaint (head 50 0 40) [1]) base) = some (.maint .noNode 50 []) := by
  decide +kernel
theorem test_broadcastReturn : (after (.broadcastReturn (head 127 0 0) [0, 1])
    (watched .down (some 9) (some 9))).ring.state =
    .up := by decide +kernel
theorem test_badFrame : (after (.badFrame .ring) base).ring.badFrames = 1 := by decide +kernel
theorem test_badFrame_saturates :
    (after (.badFrame .office) { base with office := { base.office with badFrames := 65535 } }).office.badFrames = 65535 := by
  decide +kernel
theorem test_callTransmitted :
    (after .callTransmitted (sending (calling false) (.order 15 9 .call 0))).gate.lastCall = some 5000 := by
  decide +kernel
theorem test_startTransmitted :
    (after .startTransmitted (sending (starting false) (.order 30 9 .start 0))).pacer.startTimer = some 200 := by decide +kernel
theorem test_stationOrderTransmitted :
    (after .stationOrderTransmitted (sending (serving 2 .engaging none { order .on 5 .ack with transmitted := false })
      (.order 22 5 .on 2))).seq.stations[2].timer = some 40 := by decide +kernel
theorem test_broadcastTransmitted :
    (after .broadcastTransmitted (sending base (.broadcast .ringCheck 3))).ring.outstanding = some 3 ∧
    (after .broadcastTransmitted (sending base (.broadcast .ringCheck 3))).ring.timeout = some 20 := by decide +kernel
theorem test_ringFrameTransmitted : (after .ringFrameTransmitted
    { base with ring := { base.ring with tx := some (.brake 30), motion := [.setpoint 30 0], order := [.order 22 5 .on 2] } }).ring.tx =
    some (.setpoint 30 0) := by decide +kernel
theorem test_officeFrameSent : (after .officeFrameSent (after (.halt site []) base)).office.replies = [] ∧
    (State.told (after .officeFrameSent (after (.halt site []) base))).isSome = true := by decide +kernel
/-- The worked example of R122: 1500 + 300 + 250 less 20 percent. -/
theorem test_quoteReq : State.answer (after (.quoteReq (terminal 2) [1, 0x12, 0x34, 0x12]) base) =
    some (.quote .ok 1 3 0x12 1640) := by decide +kernel
theorem test_quoteReq_unknown_code : State.answer (after (.quoteReq (terminal 2) [1, 0x22, 0x34, 0x12]) base) =
    some (.quote .unknownCode 0 0 0 0) := by decide +kernel
theorem test_closeReq : State.answer (after (.closeReq (terminal 2) [0, 9, 1]) quoted) = some (.close .ok 9 1) ∧
    (after (.closeReq (terminal 2) [0, 9, 1]) quoted).book.queue.map (fun q => q.sale.tender) = [.card] := by decide +kernel
theorem test_dropReq : State.answer (after (.dropReq (terminal 2) [0, 9]) quoted) = some (.drop .dropped 9) := by decide +kernel
theorem test_maint : (after (.maint site [50, 7])
    (windowed { enabled := true, base := 48, mask := 112, mode := .always })).ring.tx = some (.maint 50 40 [7]) := by decide +kernel
theorem test_maint_no_window :
    State.answer (after (.maint site [50, 7]) base) = some (.maint .notPassable 50 []) := by decide +kernel
theorem test_tableRead : State.answer (after (.tableRead site [13, 0, 0]) base) = some (.mgmt 1 .ok [2, 30, 15, 96, 0, 0]) := by
  decide +kernel
theorem test_tableRead_quotes_from_1 :
    State.answer (after (.tableRead site [22, 0, 0]) base) = some (.mgmt 1 .badIndex []) := by
  decide +kernel
theorem test_tableWrite :
    State.answer (after (.tableWrite site [20, 0]) base) = some (.mgmt 2 .badTable []) := by decide +kernel
/-- A window end beyond L is lowered to L, 12000 = 0x2EE0. -/
theorem test_stationWrite : State.answer
    (after (.stationWrite site [5, 0, 0, 100, 0xFF, 0xFF, 0, 0, 0, 0, 0, 0, 7, 208, 255, 0, 0, 10]) base) =
    some (.mgmt 2 .okClamped [0, 0, 100, 0x2E, 0xE0, 0, 0, 0, 0, 0, 0, 7, 208, 255, 0, 0, 10]) := by decide +kernel
theorem test_aliasWrite_second_arm : State.answer (after (.aliasWrite site [1, 127]) base) = some (.mgmt 2 .badValue []) := by
  decide +kernel
theorem test_aliasWrite : (after (.aliasWrite site [5, 25]) base).map.aliases[5] = 25 := by decide +kernel
theorem test_planWrite_absent : (after (.planWrite site [3, 0, 1, 1, 0, 0, 0, 7, 0, 0, 0, 1, 9]) base).book.plans[3] = {} := by
  decide +kernel
theorem test_optionWrite :
    (after (.optionWrite site [7, 1, 44, 0, 0, 0, 16]) base).book.options[7] = { price := 300, added := 16 } := by
  decide +kernel
theorem test_codeWrite : (after (.codeWrite site [1, 1, 0x20, 0, 0xF0, 0, 3, 101, 1]) base).book.codes[1].discount = 100 := by
  decide +kernel
theorem test_eyeWrite : (after (.eyeWrite site [5, 1, 13, 7, 1, 0x17, 0x70]) base).eyes[5].position = 6000 := by decide +kernel
/-- A write that carries reliable and state is taken for its other fields (R9). -/
theorem test_eyeWrite_names_reliable_and_state :
    eyeOperands [5, 1, 13, 7, 1, 0x17, 0x70, 0, 1] = eyeOperands [5, 1, 13, 7, 1, 0x17, 0x70] ∧
    (eyeOperands [5, 1, 13, 7, 1, 0x17, 0x70]).isSome = true ∧ eyeOperands [5, 1, 13, 7, 1, 0x17, 0x70, 0, 1, 0] = none := by
  decide +kernel

theorem test_eyeWrite_below_a_lower_eye : State.answer (after (.eyeWrite site [5, 1, 13, 7, 1, 0x0B, 0xB8]) base) =
    some (.mgmt 2 .badValue []) := by decide +kernel
theorem test_passWrite : (after (.passWrite site [3, 1, 48, 112, 2]) base).office.windows[3] =
    { enabled := true, base := 48, mask := 112, mode := .haltedOnly } := by decide +kernel
/-- DEC_HARD 50 is raised to DEC 100. -/
theorem test_pacingWrite :
    (after (.pacingWrite site [0, 0, 16, 0, 100, 0, 50, 0, 100, 0, 100, 1, 44, 4, 176]) base).pacer.decHard =
    100 := by decide +kernel
theorem test_gateWrite : (after (.gateWrite site [0, 0, 0, 2, 88, 5, 220, 1]) base).gate.pitch = 500 := by decide +kernel
/-- A drift halt tolerance of 30 is raised to the drift adjust tolerance 40. -/
theorem test_trackWrite :
    (after (.trackWrite site [0, 0x2E, 0xE0, 0, 150, 1, 144, 11, 184, 0, 200, 40, 0, 30, 5, 220]) base).track.driftHalt =
    40 := by decide +kernel
theorem test_timingWrite :
    (after (.timingWrite site [0, 0, 1, 0, 40, 0, 200, 11, 184, 0, 120, 25, 20]) base).timing.encoderSilence =
    20 := by decide +kernel
/-- A write that names the ages is taken for the priorities (R171). -/
theorem test_arbiterWrite_names_the_ages : arbiterOperands [0, 5, 6, 7, 0, 1, 1, 1] = some (0, 5, 6, 7) := by decide +kernel

theorem test_arbiterWrite :
    State.answer (after (.arbiterWrite site [0, 0, 3, 16]) base) = some (.mgmt 2 .okClamped [1, 3, 15]) := by
  decide +kernel
theorem test_nodeEncoderWrite :
    (after (.nodeEncoderWrite site [0, 1, 3, 0, 0, 0]) base).belt.lastRaw = none := by decide +kernel
theorem test_nodeDriveWrite : (after (.nodeDriveWrite site [0, 2, 0, 31, 0, 0]) base).pacer.freeze = true := by decide +kernel
theorem test_nodeRollerWrite : (after (.nodeRollerWrite site [0, 4, 0, 0, 16, 0]) base).gate.roller = 16 := by decide +kernel
theorem test_nodeOfficeWrite : (after (.nodeOfficeWrite site [0, 8, 0, 0, 0, 70]) base).office.tx =
    some (.reply { src := 70, dst := 40, body := .mgmt 2 .ok [2, 30, 15, 70] }) := by decide +kernel
theorem test_gateOpen : (after (.gateOpen site []) base).gate.phase = .waiting := by decide +kernel
theorem test_gateClose : (after (.gateClose site []) (calling true)).gate.phase = .calling := by decide +kernel
theorem test_run : State.answer (after (.run site [0x13, 0x88]) base) = some (.mgmt 0x12 .okClamped [0x12, 0xC0]) ∧
    (after (.run site [0x13, 0x88]) base).ring.tx = some (.order 30 1 .start 0) := by decide +kernel
theorem test_stop : (after (.stop site []) (starting true)).ring.tx = some (.setpoint 30 0) := by decide +kernel
theorem test_halt : State.cause (after (.halt site []) base) = some .manual ∧
    (after (.halt site []) base).pacer.watch = .watching := by decide +kernel
theorem test_ack : (after (.ack site []) (inIncident .halted .halted .unacked)).halt.log.map (fun r => r.state) = [.acked] := by
  decide +kernel
theorem test_resume : (after (.resume site [])
    (station { halted with pacer := { halted.pacer with resume := true } } 1 { position := .out })).halt.state = .restarting := by
  decide +kernel
theorem test_resume_not_acked : State.answer (after (.resume site []) (inIncident .halted .halted .unacked)) =
    some (.mgmt 0x16 .notAcked []) := by decide +kernel
theorem test_stationClear :
    (after (.stationClear site [2]) (station base 2 { phase := .fault })).seq.stations[2].phase = .idle := by
  decide +kernel
theorem test_eyeRestore : State.answer (after (.eyeRestore site [3]) base) = some (.mgmt 0x21 .badIndex []) := by decide +kernel
theorem test_saleVoid :
    (after (.saleVoid site [0, 9]) sold).tallies[3] = { voids := 1, voidAmount := 1500 } := by decide +kernel
theorem test_carClear : (after (.carClear site [7]) { withCar with pacer := base.pacer }).tallies[3] =
    { washes := 1, gross := 1500, credit := 1500 } := by decide +kernel
/-- The worked example of R135. -/
theorem test_creditShare : creditShare 1640 30 130 = 378 := by decide +kernel
theorem test_tunnelReset : (after (.tunnelReset site []) halted).halt.state = .clear ∧
    (after (.tunnelReset site []) halted).halt.line = .released := by decide +kernel
theorem test_tallyRead : State.answer (after (.tallyRead site [16]) base) = some (.mgmt 0x30 .badIndex []) := by decide +kernel
theorem test_tallyReset :
    (after (.tallyReset site []) (after (.saleVoid site [0, 9]) sold)).tallies[3] = {} := by decide +kernel
theorem test_statusRead :
    (after (.statusRead site []) { base with ring := { base.ring with badFrames := 3 } }).ring.badFrames = 0 := by
  decide +kernel
theorem test_encoderSilenceExpiry : State.cause (after .encoderSilenceExpiry running) = some .encoder ∧
    State.cause (after .encoderSilenceExpiry base) = none := by decide +kernel
theorem test_rollerAckTimeout :
    State.told (after .rollerAckTimeout (calling true)) = some (.rollerFault .timeout 9) := by decide +kernel
theorem test_startAckTimeout : (after .startAckTimeout (starting true)).pacer.state = .stopped := by decide +kernel
/-- From 1600 towards 2400 by 16; 1616 of 1/800 counts are 2 counts and 16. -/
theorem test_profileInterval : (after .profileInterval running).pacer.speed = 1616 ∧
    (after .profileInterval running).pacer.commanded = 5002 ∧ (after .profileInterval running).pacer.acc = 16 ∧
    (after .profileInterval running).ring.tx = some (.setpoint 30 1616) := by decide +kernel
theorem test_driveStopTimeout : (after .driveStopTimeout { base with
    halt := (inIncident .halting .halted .unacked).halt
    pacer := { base.pacer with state := .halted, watch := .watching, stopTimer := some 0 } }).halt.state = .halted := by
  decide +kernel
theorem test_orderAckTimeout : (after (.orderAckTimeout 2) engaging).seq.stations[2].phase = .fault ∧
    (after (.orderAckTimeout 2) engaging).cars.map (fun c => c.missed) = [4] := by decide +kernel
theorem test_returnWindowExpiry :
    (after (.returnWindowExpiry 0) (serving 0 .engaged (some 0) (order .on 5 .ret))).seq.stations[0].current = none := by decide +kernel
theorem test_positionTimeout :
    State.cause (after (.positionTimeout 1) (serving 1 .releasing (some 0) (order .out 5 .position))) = some .armStuck := by decide +kernel
theorem test_quoteHoldExpiry : (after (.quoteHoldExpiry 2) quoted).book.quotes[1] = none := by decide +kernel
theorem test_ringCheckExpiry : (after .ringCheckExpiry { base with ring := { base.ring with checkTimer := some 0 } }).ring.tx =
    some (.broadcast .ringCheck 1) := by decide +kernel
theorem test_ringTimeout :
    State.cause (after .ringTimeout (watched .up (some 0) (some 5))) = some .ringLoss := by decide +kernel


/-- The table of ramp-down distances in 4.9. -/
theorem test_rampDistances : [(2400, 64), (2400, 32), (2400, 120), (1000, 32), (30, 32)].map (fun x => rampDistance x.1 x.2) =
    [55, 111, 29, 19, 0] := by decide +kernel

/-- The winners of the example of aging under load in 10.4. -/
def winners : Nat → Ring → List Nat
  | 0, _ => []
  | n + 1, r =>
    let q := ({ r with tx := none, motion := [.setpoint 1 0], order := [.brake 2], pass := [.maint 3 0 []] } : Ring).choose
    (match q.tx with
      | some (.setpoint ..) => 1
      | some (.brake _) => 2
      | _ => 3) :: winners n q

theorem test_arbiter_example : winners 8 {} = [1, 1, 2, 1, 1, 2, 1, 3] := by decide +kernel

/-! ## The conditions of the statements can be met, clause by clause -/

theorem edge_of {s : State} {h : Head} {p : List Byte} {e : Fin 10} {on : Bool} (i l : Nat)
    (x : s.pins.rst = .released ∧ fromNode h = true ∧ eyePayload p = some (i, l) ∧ matchingEye s.eyes h.src i = some e ∧
      s.eyes[e].readsOn l = on ∧ s.eyes[e].on = !on) : s.edge h p e on :=
  ⟨x.1, x.2.1, i, l, x.2.2.1, x.2.2.2.1, x.2.2.2.2.1, x.2.2.2.2.2⟩

theorem hears_of {α : Type} {s : State} {h : Head} {form : List Byte → Option α} {p : List Byte} {x : α}
    (a : s.pins.rst = .released ∧ fromNode h = true) (b : form p = some x) : s.hears h form p x := ⟨a.1, a.2, b⟩

theorem accepts_of {s : State} (x : s.pins.rst = .released ∧ s.office.address = 96 ∧ s.office.replies.length < 8) :
    s.accepts site := ⟨x.1, x.2.1.symm, by decide, by decide, x.2.2⟩

theorem live_of {s : State} (h : s.pins.rst = .released) : s.live := h

theorem estop_of {s : State} (x : s.pins.rst = .released ∧ s.halt.estop = .released) : Halts .estopAssert s .estop [] :=
  .inl ⟨rfl, x.1, x.2, rfl, rfl⟩

def entering : Car := { tag := 7, stamp := 4000, phase := .entering, activity := 7 }
def atBelt (n : Nat) (s : State) : State := { s with belt := { s.belt with count := BitVec.ofNat 32 n } }
def eyeOn (e : Fin 10) (s : State) : State := { s with eyes := s.eyes.set e { s.eyes[e] with on := true } }
def gateIn (p : GatePhase) (s : State) : State := { s with gate := { s.gate with phase := p } }
def pacerIn (p : PacerState) (s : State) : State := { s with pacer := { s.pacer with state := p } }
/-- n cars with tags 1 to n and lengths. -/
def cars (n : Nat) (s : State) : State := { s with cars := (List.range n).map fun k => { rider with tag := k + 1 } }
/-- The notice queue with one free place. -/
def oneFree (s : State) : State :=
  { s with office := { s.office with notices := List.replicate 31 { src := 96, notice := .exitStray 0 } } }
/-- Eight replies wait. -/
def noReply (s : State) : State :=
  { s with office := { s.office with replies := List.replicate 8 { src := 96, dst := 40, body := .maint .ok 1 [] } } }

theorem met_StepTakesTheFrontCommand : (base.onPending fun _ => [.oholdAssert]).pending = [.oholdAssert] := rfl

theorem met_IdleStepPassesTime : (base.live ∧ base.pending = [] ∧ base.dueExpiries = []) ∧
    running.live ∧ running.pending = [] ∧ running.dueExpiries = [.profileInterval] :=
  ⟨⟨rfl, rfl, by decide +kernel⟩, rfl, rfl, by decide +kernel⟩

theorem met_EveryCommandCompletes : (after .rstAssert base).pins.rst = .asserted ∧ actsInReset .estopAssert = false := by
  decide +kernel

theorem met_QuietPins : base.live ∧ ((after .estopAssert base).live ∧ (after .estopAssert base).halt.estop = .asserted) ∧
    base.office.tx = none ∧ (after .oholdAssert base).office.tx = none ∧ (after .oholdAssert base).pins.ohold = .asserted ∧
    (after (.statusRead site []) (after .oholdAssert base)).pins.ohold = .asserted :=
  ⟨rfl, ⟨live_of (by decide +kernel), by decide +kernel⟩, rfl, by decide +kernel⟩

theorem met_HaltOpensAnIncident :
    (Halts .estopAssert (oneFree running) .estop [] ∧ (oneFree running).halt.state = .clear ∧ (oneFree running).noticeRoom 1) ∧
    Halts (.halt site []) base .manual [mgmtReply base site 0x14 .ok []] ∧ base.halt.state = .clear ∧ base.noticeRoom 1 :=
  ⟨⟨estop_of ⟨rfl, rfl⟩, rfl, by unfold State.noticeRoom oneFree; simp⟩, .inr ⟨site, rfl, accepts_of (by decide +kernel), rfl, rfl⟩, rfl,
    (by decide : 0 + 1 ≤ 32)⟩

theorem met_HaltActionsAreTaken : (Halts .estopAssert running .estop [] ∧ running.halt.state = .clear) ∧
    Halts .estopAssert (inIncident .restarting .starting .acked) .estop [] ∧
    (inIncident .restarting .starting .acked).halt.state = .restarting :=
  ⟨⟨estop_of ⟨rfl, rfl⟩, rfl⟩, estop_of ⟨rfl, rfl⟩, rfl⟩

theorem met_HaltActionsAreTaken_engaged : Halts .estopAssert engaging .estop [] ∧ engaging.halt.state = .clear ∧
    engaging.seq.stations[(2 : StationId)].car = some 7 ∧
    engaging.cars.any (fun c => c.tag == 7 && c.unsettled (2 : StationId)) = true :=
  ⟨estop_of ⟨rfl, rfl⟩, by decide +kernel⟩

theorem met_SecondaryCauseJoinsTheIncident : ∀ h ∈ [HaltState.halting, .halted, .restarting],
    Halts .estopAssert (inIncident h .halted .acked) .estop [] ∧ (inIncident h .halted .acked).halt.state ≠ .clear ∧
    (inIncident h .halted .acked).openIncident = some { incident with state := .acked } ∧
    (inIncident h .halted .acked).noticeRoom 1 := by
  intro h hm
  refine ⟨estop_of ⟨rfl, rfl⟩, ?_, rfl, (by decide : 0 + 1 ≤ 32)⟩
  rintro e
  change h = .clear at e
  subst e
  revert hm
  decide

/-- An open incident that holds four secondary causes. -/
def fullIncident : Incident :=
  { incident with secondary := List.replicate 4 { kind := .object, belt := 0, uptime := 0 }, more := 255 }

theorem met_SecondaryCauseJoinsTheIncident_full :
    ∃ s : State, Halts .estopAssert s .estop [] ∧ s.halt.state = .restarting ∧ s.openIncident = some fullIncident ∧
      s.noticeRoom 1 ∧ ¬ fullIncident.secondary.length < 4 :=
  ⟨(inIncident .restarting .starting .acked).onHalt fun b => { b with log := [fullIncident] }, estop_of ⟨rfl, rfl⟩, rfl, rfl,
    (by decide : 0 + 1 ≤ 32), by decide⟩

theorem met_SamplesWithoutMovement :
    (base.live ∧ fromNode (head 1 2 0) = false ∧ encPayload [0] = none ∧ State.reset.belt.encoder = 0 ∧
      (node 3).src ≠ base.belt.encoder) ∧
    (base.hears (node 2) encPayload [0, 100] 100 ∧ (node 2).src = base.belt.encoder ∧ base.belt.lastRaw = some 100) ∧
    base.hears (node 2) encPayload [0x10, 100] 4196 ∧ ((4196 : BitVec 16) - 100).toNat = 4096 ∧ base.noticeRoom 1 :=
  ⟨⟨rfl, by decide, rfl, rfl, by decide⟩, ⟨hears_of (by decide) rfl, rfl, rfl⟩, hears_of (by decide) rfl, by decide,
    (by decide : 0 + 1 ≤ 32)⟩

theorem met_PlausibleSampleAdvances :
    (base.hears (node 2) encPayload [0, 101] 101 ∧ ((101 : BitVec 16) - 100).toNat = 1) ∧
    base.hears (node 2) encPayload [0x10, 99] 4195 ∧ ((4195 : BitVec 16) - 100).toNat = 4095 ∧
    (node 2).src = base.belt.encoder ∧ base.belt.lastRaw = some 100 :=
  ⟨⟨hears_of (by decide) rfl, by decide⟩, hears_of (by decide) rfl, by decide, rfl, rfl⟩

theorem met_PlausibleSampleAdvances_pacer :
    ((eyeOn 3 (atBelt 11500 withCar)).pacer.state = .running ∧ (eyeOn 3 (atBelt 11500 withCar)).eyes[(3 : Fin 10)].on = true ∧
      leadCar (eyeOn 3 (atBelt 11500 withCar)).cars = some rider ∧
      (atBelt 11500 withCar).stopPoint - 1200 = ((rider.front 11500).toNat : Int)) ∧
    base.pacer.state ≠ .running :=
  ⟨by decide +kernel, by decide⟩

theorem met_EdgesThatRaiseNothing :
    (base.live ∧ eyePayload [0, 2] = none) ∧
    (base.hears (node 13) eyePayload [0, 1] (0, 1) ∧ matchingEye base.eyes 13 0 = none) ∧
    (base.hears (node 10) eyePayload [0, 0] (0, 0) ∧ matchingEye base.eyes 10 0 = some 0 ∧
      base.eyes[(0 : Fin 10)].readsOn 0 = base.eyes[(0 : Fin 10)].on) ∧
    (eyeOn 4 base).edge (node 12) [0, 0] 4 false ∧
    (∀ s ∈ [{ base with cars := [entering] }, { base with cars := [{ entering with tentative := some 4900 }] }],
      s.edge (node 10) [1, 1] 1 true ∧ (enteringCar s.cars).isSome = true) ∧
    ((eyeOn 1 { base with cars := [entering] }).edge (node 10) [1, 0] 1 false ∧
      enteringCar (eyeOn 1 { base with cars := [entering] }).cars = some entering) ∧
    (eyeOn 1 base).edge (node 10) [1, 0] 1 false ∧ enteringCar (eyeOn 1 base).cars = none :=
  ⟨⟨rfl, by decide⟩, ⟨hears_of (by decide) (by decide), by decide +kernel⟩, ⟨hears_of (by decide) (by decide), by decide +kernel⟩,
    edge_of 0 0 (by decide +kernel),
    fun s h => by
      rcases List.mem_pair.1 h with rfl | rfl <;> exact ⟨edge_of 1 1 (by decide +kernel), by decide +kernel⟩,
    ⟨edge_of 1 0 (by decide +kernel), by decide +kernel⟩, edge_of 1 0 (by decide +kernel), by decide +kernel⟩

theorem met_EntryFrontMakesACar : ∀ s ∈ [cars 15 base, gateIn .rolling sold],
    s.edge (node 10) [1, 1] 1 true ∧ enteringCar s.cars = none ∧ s.cars.length ≤ 15 ∧ s.listLaw ∧ s.noticeRoom 1 := by
  intro s h
  rcases List.mem_pair.1 h with rfl | rfl <;>
    exact ⟨edge_of 1 1 (by decide +kernel), by decide +kernel, by decide +kernel,
      by unfold State.listLaw; decide +kernel, (by decide : 0 + 1 ≤ 32)⟩

theorem crowds_iff {s : State} {a b : Car} {r : Word} (h : a.rear s.belt.count = some r) :
    s.crowds a b ↔ (r - b.front s.belt.count).toInt < (s.track.crowd : Int) :=
  ⟨fun ⟨_, e, l⟩ => by rw [h] at e; cases e; exact l, fun l => ⟨r, h, l⟩⟩

theorem engaged_none {s : State} (h : ∀ i : StationId, s.seq.stations[i].car = none) : s.engagedLaw :=
  fun i tag e => by rw [h i] at e; cases e

theorem engaged_one {s : State} {j : StationId} {c : Car} (h : ∀ i : StationId, i ≠ j → s.seq.stations[i].car = none)
    (x : s.seq.stations[j].car = some c.tag ∧ s.seq.stations[j].phase ≠ .idle ∧ s.seq.stations[j].phase ≠ .fault ∧
      c.unsettled j = true) (m : c ∈ s.cars) : s.engagedLaw := by
  intro i tag e
  by_cases k : i = j
  · subst k
    rw [x.1] at e
    cases e
    exact ⟨x.2.1, x.2.2.1, c, m, rfl, x.2.2.2⟩
  · rw [h i k] at e
    cases e

/-- The rear of the entering car went by 150 counts ago; it is l long, and the rear of the car ahead stands at r. -/
def trailer (l r : Nat) : List Car :=
  [{ rider with tag := 6, stamp := BitVec.ofNat 32 (4000 - r) },
    { entering with stamp := BitVec.ofNat 32 (4850 - l), tentative := some 4850, sale := some ticket }]

def confirming (l r : Nat) : State := { base with cars := trailer l r }

/-- A length at and below the minimum object length, and a gap at and below the crowd limit. -/
theorem met_EntryFrontMakesACar_rear : ∀ l ∈ [399, 400], ∀ d ∈ [199, 200],
    ∃ c a k : Car, (confirming l (150 + l + d)).cars.getLast? = some c ∧ c.length = none ∧ c.tentative = some 4850 ∧
      k = { c with length := some (4850 - c.stamp), phase := if c.phase = .entering then .riding else c.phase, tentative := none } ∧
      (confirming l (150 + l + d)).track.merge = ((confirming l (150 + l + d)).belt.count - 4850).toNat ∧
      (4850 - c.stamp : Word).toNat = l ∧ (confirming l (150 + l + d)).track.minObject = 400 ∧
      (confirming l (150 + l + d)).cars.dropLast.getLast? = some a ∧ ((confirming l (150 + l + d)).crowds a k ↔ d = 199) ∧
      (confirming l (150 + l + d)).listLaw ∧ (confirming l (150 + l + d)).engagedLaw ∧
      (confirming l (150 + l + d)).noticeRoom 2 := by
  intro l hl d hd
  rcases List.mem_pair.1 hl with rfl | rfl <;> rcases List.mem_pair.1 hd with rfl | rfl <;>
    exact ⟨_, _, _, rfl, rfl, rfl, rfl, by decide +kernel, by decide +kernel, rfl, rfl,
      by rw [crowds_iff rfl]; decide +kernel, by unfold State.listLaw; decide +kernel, engaged_none (by decide +kernel),
      (by decide : 0 + 2 ≤ 32)⟩

/-- A car whose front stands 3001 counts past the datum; station 1 serves it. -/
def oversized : State :=
  station { base with cars := [{ entering with stamp := 1999 }] } 1 { phase := .engaged, car := some 7 }

theorem met_EntryFrontMakesACar_oversize :
    oversized.cars.getLast? = some { entering with stamp := 1999 } ∧
    ((BitVec.ofNat 32 5000 - 1999 : Word).toNat = oversized.track.maxCar + 1) ∧ oversized.listLaw ∧ oversized.engagedLaw ∧
    oversized.noticeRoom 1 :=
  ⟨rfl, by decide, by unfold State.listLaw; decide +kernel,
    engaged_one (j := 1) (c := { entering with stamp := 1999 }) (by decide +kernel) (by decide +kernel) (List.mem_singleton.2 rfl),
    (by decide : 0 + 1 ≤ 32)⟩

theorem met_EdgesThatHalt :
    ((cars 16 base).edge (node 10) [1, 1] 1 true ∧ enteringCar (cars 16 base).cars = none ∧ (cars 16 base).cars.length = 16 ∧
      (cars 16 base).noticeRoom 1) ∧
    (running.edge (node 12) [0, 1] 4 true ∧ running.eyes[(4 : Fin 10)].reliable = true ∧
      running.cars.find? (fun k => k.nextEye == some 4) = none) ∧
    (atBelt 4151 withCar).edge (node 12) [0, 1] 4 true ∧
    (atBelt 4151 withCar).cars.find? (fun k => k.nextEye == some 4) = some rider ∧
    (distance (rider.front 4151).toNat 3000).natAbs = withCar.track.driftHalt + 1 :=
  ⟨⟨edge_of 1 1 (by decide +kernel), by decide +kernel, by decide +kernel, (by decide : 0 + 1 ≤ 32)⟩,
    ⟨edge_of 0 1 (by decide +kernel), by decide +kernel, rfl⟩, edge_of 0 1 (by decide +kernel), rfl, by decide +kernel⟩

theorem met_TrackingEyeReanchors : (atBelt 4150 withCar).edge (node 12) [0, 1] 4 true ∧
    (atBelt 4150 withCar).eyes[(4 : Fin 10)].reliable = true ∧
    (atBelt 4150 withCar).cars.find? (fun k => k.nextEye == some 4) = some rider ∧ (atBelt 4150 withCar).cars = [rider] ∧
    (distance (rider.front 4150).toNat 3000).natAbs = withCar.track.driftHalt ∧ (atBelt 4150 withCar).noticeRoom 1 :=
  ⟨edge_of 0 1 (by decide +kernel), by decide +kernel, rfl, rfl, by decide +kernel, (by decide : 0 + 1 ≤ 32)⟩

/-- The rider waits at eye 4 with its front at 3000; the rear of the car ahead stands x past it, and the front of the car
behind y before its rear. -/
def queueAtEye (x y : Nat) : State :=
  { withCar with cars := [{ rider with tag := 6, stamp := BitVec.ofNat 32 (1000 - x), nextEye := none },
    { rider with stamp := 2000 }, { rider with tag := 8, stamp := BitVec.ofNat 32 (3000 + y), nextEye := none }] }

/-- The crowd limit is 200: each of the two checks at and below it, in the four ways. -/
theorem met_TrackingEyeReanchors_crowding : ∀ x ∈ [199, 200], ∀ y ∈ [199, 200], ∃ a c k b : Car,
    (queueAtEye x y).edge (node 12) [0, 1] 4 true ∧ (queueAtEye x y).eyes[(4 : Fin 10)].reliable = true ∧
    (queueAtEye x y).cars.find? (fun k => k.nextEye == some 4) = some c ∧ (c.front 5000).toNat = 3000 ∧
    k = { c with stamp := 5000 - 3000, nextEye := nextEyeAbove (queueAtEye x y).eyes 4 } ∧
    (queueAtEye x y).cars.map (fun z => if z.tag = c.tag then k else z) = [a, k, b] ∧
    Behind [a, k, b] a k ∧ Behind [a, k, b] k b ∧ ((queueAtEye x y).crowds a k ↔ x = 199) ∧
    ((queueAtEye x y).crowds k b ↔ y = 199) ∧ (queueAtEye x y).listLaw ∧ (queueAtEye x y).noticeRoom 3 := by
  intro x hx y hy
  rcases List.mem_pair.1 hx with rfl | rfl <;> rcases List.mem_pair.1 hy with rfl | rfl <;>
    exact ⟨_, _, _, _, edge_of 0 1 (by decide +kernel), by decide +kernel, rfl, by decide +kernel, rfl, rfl, ⟨[], _, rfl⟩,
      ⟨[_], [], rfl⟩, by rw [crowds_iff rfl]; decide +kernel, by rw [crowds_iff rfl]; decide +kernel,
      by unfold State.listLaw; decide +kernel, (by decide : 0 + 3 ≤ 32)⟩

theorem met_TrackingEyeReanchors_miss :
    (∀ n ∈ [4150, 4151], carByTag (atBelt n withCar).cars 7 = some rider ∧ rider.nextEye = some (4 : Fin 10).val ∧
      (atBelt n withCar).noticeRoom 1) ∧
    (rider.front 4150).toNat = base.eyes[(4 : Fin 10)].position + base.track.driftHalt ∧ entering.nextEye = none :=
  ⟨fun _ _ => ⟨rfl, rfl, (by decide : 0 + 1 ≤ 32)⟩, by decide +kernel⟩

theorem met_ExitFront :
    (∀ s ∈ [atBelt 13150 withCar, eyeOn 3 (atBelt 12850 withCar)], s.edge (node 11) [0, 1] 2 true ∧ s.noticeRoom 1 ∧
      s.cars.find? (fun k => k.phase != .leaving) = some rider ∧
      (distance (rider.front s.belt.count).toNat s.track.length).natAbs = s.track.driftHalt) ∧
    (atBelt 13151 withCar).edge (node 11) [0, 1] 2 true ∧
    (∀ c, (atBelt 13151 withCar).cars.find? (fun k => k.phase != .leaving) = some c →
      withCar.track.driftHalt < (distance (c.front 13151).toNat withCar.track.length).natAbs) :=
  ⟨fun s h => by
      rcases List.mem_pair.1 h with rfl | rfl <;>
        exact ⟨edge_of 0 1 (by decide +kernel), (by decide : 0 + 1 ≤ 32), by decide +kernel, by decide +kernel⟩,
    edge_of 0 1 (by decide +kernel), fun c h => by
      have : rider = c := Option.some.inj h
      subst this
      decide +kernel⟩

/-- The gate is open, and a car has been sold. -/
def forSale : State := { sold with gate := { sold.gate with isOpen := true }, pacer := running.pacer }

theorem met_LoadingEyeMovesTheGate :
    (∀ p ∈ [GatePhase.closed, .calling, .rolling, .waiting], (gateIn p base).edge (node 10) [0, 1] 0 true) ∧
    ((eyeOn 0 (gateIn .ready base)).edge (node 10) [0, 0] 0 false) ∧ (gateIn .waiting base).admissible = false ∧
    (gateIn .waiting forSale).edge (node 10) [0, 1] 0 true ∧ (gateIn .waiting forSale).admissible = true :=
  ⟨fun p _ => by cases p <;> exact edge_of 0 1 (by decide +kernel),
    edge_of 0 0 (by decide +kernel), by decide +kernel, edge_of 0 1 (by decide +kernel), by decide +kernel⟩

theorem met_ExitZoneEyeStopsAndStarts :
    ((atBelt 11500 withCar).edge (node 11) [1, 1] 3 true ∧ (atBelt 11500 withCar).pacer.state = .running ∧
      leadCar (atBelt 11500 withCar).cars = some rider ∧
      (atBelt 11500 withCar).stopPoint - 1200 = ((rider.front 11500).toNat : Int)) ∧
    ((atBelt 11499 withCar).edge (node 11) [1, 1] 3 true ∧
      ((rider.front 11499).toNat : Int) < (atBelt 11499 withCar).stopPoint - (withCar.pacer.approach : Int)) ∧
    (base.edge (node 11) [1, 1] 3 true ∧ base.pacer.state ≠ .running) ∧ (eyeOn 3 base).edge (node 11) [1, 0] 3 false ∧
    (eyeOn 3 (pacerIn .pointStop withCar)).edge (node 11) [1, 0] 3 false ∧
    (pacerIn .pointStop withCar).halt.state = .clear ∧ (pacerIn .pointStop withCar).gate.phase ≠ .ready :=
  ⟨⟨edge_of 1 1 (by decide +kernel), rfl, rfl, by decide +kernel⟩, ⟨edge_of 1 1 (by decide +kernel), by decide +kernel⟩,
    ⟨edge_of 1 1 (by decide +kernel), by decide⟩, edge_of 1 0 (by decide +kernel), edge_of 1 0 (by decide +kernel), rfl, by decide⟩

/-- An ARM station whose order waits. -/
def armed (w : Wait) (h : HaltState) : State :=
  let s := station base 1 { phase := .releasing, current := some { order .out 5 w with transmitted := true } }
  { s with halt := (inIncident h .halted .acked).halt, pacer := (inIncident h .halted .acked).pacer }

theorem met_ArmReportsAreTaken :
    (base.hears (node 50) armPayload [2, 180] (.inn, 180) ∧ base.armOfNode 50 = none) ∧
    (base.hears (node 21) armPayload [2, 180] (.inn, 180) ∧ base.armOfNode 21 = some 1 ∧ base.map.table[(1 : StationId)].load = 180 ∧
      base.seq.stations[(1 : StationId)].current = none) ∧
    (∀ w ∈ [Wait.ack, .position], (armed w .halted).hears (node 21) armPayload [0, 9] (.out, 9) ∧
      (armed w .halted).armOfNode 21 = some 1 ∧
      (armed w .halted).seq.stations[(1 : StationId)].current = some (order .out 5 w) ∧ Action.out.asks = some .out) ∧
    ((armed .position .halting).hears (node 21) armPayload [0, 9] (.out, 9) ∧ (armed .position .halting).halt.state = .halting ∧
      (armed .position .halting).pacer.watch = .met ∧
      (after (.armState (node 21) [0, 9]) (armed .position .halting)).settled = true) ∧
    base.hears (node 21) armPayload [2, 181] (.inn, 181) ∧
    base.seq.stations[(1 : StationId)].load ≤ base.map.table[(1 : StationId)].load ∧ base.noticeRoom 1 :=
  ⟨⟨hears_of (by decide) (by decide), by decide +kernel⟩,
    ⟨hears_of (by decide) (by decide), by decide +kernel, by decide +kernel, by decide +kernel⟩,
    fun w _ => ⟨hears_of ⟨rfl, rfl⟩ (by decide), by cases w <;> decide +kernel, by cases w <;> decide +kernel, rfl⟩,
    ⟨hears_of ⟨rfl, rfl⟩ (by decide), rfl, rfl, by decide +kernel⟩, hears_of (by decide) (by decide), by decide +kernel,
    (by decide : 0 + 1 ≤ 32)⟩

theorem met_ArmReportsAreTaken_pending :
    ∀ q ∈ [Machine.Action.inn, .out], ∀ p ∈ [StationPhase.fault, .releasing],
      ∃ s : State, s.hears (node 21) armPayload [0, 9] (.out, 9) ∧ s.armOfNode 21 = some 1 ∧
        s.seq.stations[(1 : StationId)].current = some (order .out 5 .position) ∧
        s.seq.stations[(1 : StationId)].queued = some q ∧ s.seq.stations[(1 : StationId)].phase = p ∧
        s.halt.state ≠ .halting := by
  intro q hq p hp
  rcases List.mem_pair.1 hq with rfl | rfl <;> rcases List.mem_pair.1 hp with rfl | rfl
  all_goals exact ⟨station base 1 { phase := _, current := some (order .out 5 .position), queued := some _ },
    hears_of ⟨rfl, rfl⟩ (by decide), by decide +kernel, rfl, rfl, rfl, by decide⟩

theorem met_DriveReportsAreTaken :
    (base.hears (node 30) drivePayload [1, 0, 0] ⟨true, false, 0⟩ ∧ (node 30).src = base.pacer.drive ∧
      base.pacer.watch ≠ .watching) ∧
    (running.hears (node 30) drivePayload [1, 1, 255] ⟨true, true, 255⟩ ∧ (node 30).src = running.pacer.drive ∧
      running.pacer.state ≠ .stopped ∧ running.pacer.report = none) ∧
    (base.hears (node 31) drivePayload [1, 0, 0] ⟨true, false, 0⟩ ∧ base.pacer.freeze = false ∧ base.pacer.state = .stopped) ∧
    running.hears (node 31) drivePayload [1, 0, 0] ⟨true, false, 0⟩ ∧ running.pacer.drive ≠ 0 ∧ running.noticeRoom 1 :=
  ⟨⟨hears_of (by decide) (by decide), rfl, by decide⟩, ⟨hears_of ⟨rfl, rfl⟩ (by decide), rfl, by decide, rfl⟩,
    ⟨hears_of (by decide) (by decide), rfl, rfl⟩, hears_of ⟨rfl, rfl⟩ (by decide), by decide, (by decide : 0 + 1 ≤ 32)⟩

/-- The drive-stop watch runs. -/
def watching (s : State) : State := { s with pacer := { s.pacer with watch := .watching, stopTimer := some 0 } }

theorem met_DriveStopIsWatched :
    ((watching halted).hears (node 30) drivePayload [1, 0, 0] ⟨true, false, 0⟩ ∧ (node 30).src = (watching halted).pacer.drive ∧
      (watching halted).pacer.watch = .watching) ∧
    (base.live ∧ base.pacer.stopTimer = none) ∧
    ((watching base).live ∧ (watching base).pacer.stopTimer.isSome = true ∧ (watching base).halt.state = .clear) ∧
    ∀ h ∈ [HaltState.halting, .halted], (watching (inIncident h .halted .acked)).live ∧
      (watching (inIncident h .halted .acked)).halt.state = h ∧
      (watching (inIncident h .halted .acked)).pacer.stopTimer.isSome = true ∧
      (watching (inIncident h .halted .acked)).openIncident = some { incident with state := .acked } ∧
      (watching (inIncident h .halted .acked)).noticeRoom 1 :=
  ⟨⟨hears_of ⟨rfl, rfl⟩ (by decide), rfl, rfl⟩, ⟨rfl, rfl⟩, ⟨rfl, rfl, rfl⟩,
    fun _ _ => ⟨rfl, rfl, rfl, rfl, (by decide : 0 + 1 ≤ 32)⟩⟩

theorem met_CallEnds :
    ((calling true).hears (head 0 15 9) ackPayload [1] .done ∧ (calling true).stationAwaitingAck 9 = none ∧
      (head 0 15 9).src = (calling true).gate.roller ∧ (calling true).callAwaits 9 true = true) ∧
    CallFails (.orderAck (head 0 15 9) [2]) (calling true) 9 .refused ∧ CallFails .rollerAckTimeout (calling true) 9 .timeout ∧
    CallFails (.returnedOrder (head 15 0 9) [5, 0]) (calling false) 9 .returned ∧ (calling true).noticeRoom 1 :=
  ⟨⟨hears_of (by decide) (by decide), by decide +kernel, rfl, by decide⟩,
    .inl ⟨_, _, rfl, hears_of (by decide) (by decide), rfl, by decide +kernel, rfl, by decide, rfl⟩,
    .inr (.inl ⟨rfl, rfl, rfl, rfl, rfl⟩),
    .inr (.inr ⟨_, _, rfl, rfl, by decide, by decide, rfl, by decide +kernel, by decide, rfl⟩), (by decide : 0 + 1 ≤ 32)⟩

/-- A ROLLING call n counts of belt after its transmission. -/
def rolling (n : Nat) : State :=
  { forSale with gate := { forSale.gate with phase := .rolling, call := some { number := 9, transmitted := true }
                                             lastCall := some (BitVec.ofNat 32 (5000 - n)) } }

theorem met_CallEnds_advance :
    (∀ n ∈ [1500, 1501], (rolling n).gate.phase = .rolling ∧ (rolling n).gate.call = some { number := 9, transmitted := true } ∧
      ((rolling n).belt.count - BitVec.ofNat 32 (5000 - n)).toNat = n ∧ (rolling n).noticeRoom 1) ∧
    (rolling 1501).gate.reach = 1500 ∧ (gateIn .ready forSale).admissible = true ∧ (gateIn .ready base).admissible = false :=
  ⟨by
    intro n hn
    refine ⟨rfl, rfl, ?_, (by decide : 0 + 1 ≤ 32)⟩
    revert n
    decide +kernel, rfl, by decide +kernel⟩

/-- A START is out while an incident waits for its restart. -/
def restarting : State := { starting true with halt := (inIncident .restarting .starting .acked).halt }

theorem met_StartEnds :
    (∀ s ∈ [starting true, restarting], s.hears (head 0 30 9) ackPayload [1] .done ∧ s.stationAwaitingAck 9 = none ∧
      s.callAwaits 9 true = false ∧ (head 0 30 9).src = s.pacer.drive ∧ s.startAwaits 9 = true ∧ s.pacer.report = none ∧
      s.blockedBy = none ∧ s.gate.phase ≠ .ready ∧ s.noticeRoom 2) ∧
    restarting.openIncident = some { incident with state := .acked } ∧
    StartFails (.orderAck (head 0 30 9) [2]) (starting true) 9 .refused ∧ StartFails .startAckTimeout restarting 9 .timeout ∧
    StartFails (.returnedOrder (head 30 0 9) [6, 0]) (starting true) 9 .returned :=
  ⟨fun s h => by
      rcases List.mem_pair.1 h with rfl | rfl <;>
        exact ⟨hears_of ⟨rfl, rfl⟩ (by decide), by decide +kernel, by decide, rfl, by decide, rfl, by decide +kernel, by decide,
          (by decide : 0 + 2 ≤ 32)⟩,
    rfl, .inl ⟨_, _, rfl, hears_of (by decide) (by decide), rfl, by decide +kernel, by decide, rfl, by decide, rfl⟩,
    .inr (.inl ⟨rfl, rfl, rfl, rfl, rfl⟩),
    .inr (.inr ⟨_, _, rfl, rfl, by decide, by decide, rfl, by decide +kernel, by decide, by decide, rfl⟩)⟩

/-- A START that is in flight in the state given, with what the drive last reported. -/
def underway (s : State) (h : HaltState) (r : Option DriveReport) : State :=
  { s with pacer := { (starting true).pacer with report := r }
           halt := if h = .clear then s.halt else { (inIncident h .starting .acked).halt with state := h } }

theorem met_StartEnds_entry : ∀ h ∈ [HaltState.clear, .restarting],
    (∀ s ∈ [gateIn .ready forSale, eyeOn 3 (atBelt 11500 withCar), base], ∀ r ∈ [none, some (DriveReport.mk true true 1)],
      (underway s h r).hears (head 0 30 9) ackPayload [1] .done ∧ (underway s h r).stationAwaitingAck 9 = none ∧
      (underway s h r).callAwaits 9 true = false ∧ (underway s h r).startAwaits 9 = true ∧ (underway s h r).pacer.drive = 30 ∧
      (underway s h r).pacer.report = r ∧ (underway s h r).noticeRoom 2 ∧ (underway s h r).halt.state = h) ∧
    (underway (gateIn .ready forSale) h none).blockedBy = none ∧ (underway (gateIn .ready forSale) h none).gate.phase = .ready ∧
    (underway (eyeOn 3 (atBelt 11500 withCar)) h none).blockedBy = some rider ∧
    (underway (eyeOn 3 (atBelt 11500 withCar)) h none).gate.phase ≠ .ready := by
  intro h hh
  refine ⟨fun s hs r hr => ⟨hears_of ?_ rfl, ?_, ?_, ?_, rfl, rfl, ?_, ?_⟩, ?_, ?_, ?_, ?_⟩
  · revert s; revert h r; decide +kernel
  · revert s; revert h r; decide +kernel
  · revert s; revert h r; decide +kernel
  · revert s; revert h r; decide +kernel
  · unfold State.noticeRoom; revert s; revert h r; decide +kernel
  · revert s; revert h r; decide +kernel
  all_goals revert h; decide +kernel

/-- Station 2 with an OFF pending behind its ON. -/
def behind (a : Action) : State := engaging.onStation 2 fun st => { st with queued := some a }

theorem met_StationOrderCompletes :
    (OrderCompletes (.orderAck (head 0 22 5) [1]) engaging 2 (order .on 5 .ack) ∧ engaging.halt.state ≠ .halting ∧
      engaging.seq.stations[(2 : StationId)].queued = none) ∧
    (OrderCompletes (.orderAck (head 0 22 5) [1]) (behind .off) 2 (order .on 5 .ack) ∧
      (behind .off).seq.stations[(2 : StationId)].queued = some .off) ∧
    OrderCompletes (.returnWindowExpiry 0) (serving 0 .engaged (some 0) (order .on 5 .ret)) 0 (order .on 5 .ret) ∧
    (serving 1 .engaging (some 9) (order .inn 5 .ack)).hears (head 0 21 5) ackPayload [1] .done ∧
    (serving 1 .engaging (some 9) (order .inn 5 .ack)).stationAwaitingAck 5 = some 1 :=
  ⟨⟨⟨by decide +kernel, .inl ⟨_, _, rfl, hears_of ⟨rfl, rfl⟩ (by decide), by decide +kernel, by decide +kernel⟩⟩, by decide,
      by decide +kernel⟩,
    ⟨⟨by decide +kernel, .inl ⟨_, _, rfl, hears_of ⟨rfl, rfl⟩ (by decide), by decide +kernel, by decide +kernel⟩⟩,
      by decide +kernel⟩,
    ⟨by decide +kernel, .inr ⟨rfl, rfl, by decide +kernel, rfl⟩⟩, hears_of ⟨rfl, rfl⟩ (by decide), by decide +kernel⟩

theorem met_StationOrderFails :
    OrderFails (.orderAck (head 0 22 5) [2]) engaging 2 (order .on 5 .ack) .refused ∧
    OrderFails (.orderAckTimeout 2) engaging 2 (order .on 5 .ack) .timeout ∧
    OrderFails (.returnedOrder (head 22 0 5) [1, 2]) engaging 2 (order .on 5 .ack) .returned ∧
    OrderFails (.positionTimeout 1) (serving 1 .engaging (some 0) (order .inn 5 .position)) 1 (order .inn 5 .position) .position ∧
    OrderFails (.positionTimeout 1) (serving 1 .releasing (some 0) (order .out 5 .position)) 1 (order .out 5 .position) .position ∧
    engaging.noticeRoom 2 :=
  ⟨⟨by decide +kernel, .inl ⟨_, _, rfl, hears_of ⟨rfl, rfl⟩ (by decide), by decide +kernel, rfl⟩⟩,
    ⟨by decide +kernel, .inr (.inl ⟨rfl, rfl, by decide +kernel, rfl, rfl⟩)⟩,
    ⟨by decide +kernel, .inr (.inr (.inr ⟨_, _, rfl, rfl, by decide, by decide, by decide +kernel, rfl⟩))⟩,
    ⟨by decide +kernel, .inr (.inr (.inl ⟨rfl, rfl, by decide +kernel, rfl, rfl⟩))⟩,
    ⟨by decide +kernel, .inr (.inr (.inl ⟨rfl, rfl, by decide +kernel, rfl, rfl⟩))⟩, (by decide : 0 + 2 ≤ 32)⟩

theorem met_OtherArrivalsOfTheRing :
    (running.live ∧ isReturned (head 30 0 0) = true ∧ wordOperand [6, 64] = some 1600 ∧ running.pacer.state = .running ∧
      running.noticeRoom 1) ∧
    base.pacer.state = .stopped ∧ (isReturned (head 50 0 40) = true ∧ base.office.replies.length < 8) ∧
    (∀ n ∈ [32, 63], fromNode (head 0 50 n) = true ∧ 32 ≤ (head 0 50 n).order ∧ (head 0 50 n).order ≤ 63) ∧
    (head 0 50 31).order < 32 ∧ 63 < (head 0 50 64).order ∧
    fromNode (head 0 127 0) = false ∧ armPayload [3, 0] = none ∧ drivePayload [2, 0, 0] = none ∧ ackPayload [3] = none ∧
    orderForm [1, 32] = false ∧ wordOperand [0] = none ∧ isBroadcastReturn (head 127 1 0) = false :=
  ⟨⟨rfl, by decide, by decide, rfl, (by decide : 0 + 1 ≤ 32)⟩, by decide +kernel⟩

theorem met_OtherArrivalsOfTheRing_full : (noReply base).live ∧ 8 ≤ (noReply base).office.replies.length ∧
    isReturned (head 50 0 40) = true ∧ fromNode (head 0 50 40) = true :=
  ⟨rfl, by decide +kernel⟩

theorem met_RingIsSupervised :
    (∀ st ∈ [RingState.up, .down], (watched st (some 0) none).live ∧
      (watched st (some 0) none).ring.safety.any RingFrame.isBroadcast = false ∧ (watched st (some 0) none).noticeRoom 1) ∧
    isBroadcastReturn (head 127 0 0) = true ∧ stampPayload [0, 1] = some 1 ∧
    (watched .up none none).ring.outstanding = some 1 ∧ base.ring.timeout = none ∧
    (watched .up (some 0) none).ring.timeout.isSome = true :=
  ⟨fun _ _ => ⟨rfl, rfl, (by decide : 0 + 1 ≤ 32)⟩, by decide, by decide, rfl, rfl, rfl⟩

theorem met_FramesAreTransmitted :
    (∀ f ∈ [RingFrame.order 15 9 .call 0, .order 30 9 .start 0, .order 22 5 .on 2, .broadcast .release 1, .brake 30,
      .setpoint 30 0, .maint 50 40 []], (sending engaging f).live ∧ (sending engaging f).ring.tx = some f) ∧
    base.ring.tx = none ∧ engaging.stationOfOrder 5 = some 2 ∧ base.stationOfOrder 5 = none :=
  ⟨fun _ _ => ⟨rfl, rfl⟩, by decide +kernel⟩

/-- MOTION 2 and ORDER 3 wait; ORDER has lost once, so both stand at 2 and MOTION goes first. -/
def contested : Ring := { motion := [.setpoint 30 0], order := [.order 22 5 .on 2], ageOrder := 1 }

theorem met_ArbiterTakesTheLowest : (∀ c, ({} : Ring).queueOf c = []) ∧ contested.winner .motion := by
  refine ⟨fun c => by cases c <;> rfl, by decide, ?_⟩
  intro d
  cases d <;> decide

theorem met_QuotesAreMade :
    (base.acceptsTerminal (terminal 1) 0 ∧ base.acceptsTerminal (terminal 15) 14) ∧
    quotePayload [1, 0x12, 0x34, 0x12] = some (.code 0x1234, 0x12) ∧
    base.resolve (.code 0x1234) = some { plan := 3, discount := 20, granted := 0 } ∧ base.resolve (.code 0x2234) = none ∧
    base.offeredPlan 3 = some 3 ∧ base.offeredPlan 16 = none ∧ (0x12 : OptionSet) &&& ~~~base.book.plans[3].allow = 0 ∧
    (∀ i : StationId, hasStation base.book.plans[3].essential i = true →
      base.map.aliases[i] ≠ 0 ∧ base.seq.stations[i].phase ≠ .fault) ∧
    hasStation base.book.plans[3].essential 1 = true ∧
    (station base 1 { phase := .fault }).seq.stations[(1 : StationId)].phase = .fault :=
  ⟨⟨⟨rfl, rfl, rfl, by decide⟩, rfl, rfl, rfl, by decide⟩, by decide +kernel⟩

/-- A full sale queue. -/
def fullQueue : State :=
  { quoted with book := { quoted.book with queue := List.replicate 24 { sale := ticket, activity := 7 } } }

theorem met_ClosesQueueTheSale :
    quoted.acceptsTerminal (terminal 2) 1 ∧ fullQueue.acceptsTerminal (terminal 2) 1 ∧
    closePayload [0, 9, 3] = some (9, .free) ∧ quoted.book.quotes[(1 : Fin 15)] = some openQuote ∧ openQuote.number = 9 ∧
    quoted.book.queue.length + quoted.reserve < 24 ∧ 24 ≤ fullQueue.book.queue.length + fullQueue.reserve ∧
    base.book.quotes[(1 : Fin 15)] = none :=
  ⟨⟨rfl, rfl, rfl, by decide⟩, ⟨rfl, rfl, rfl, by decide⟩, by decide +kernel⟩

theorem met_DropsRemoveTheQuote :
    quoted.acceptsTerminal (terminal 2) 1 ∧ dropPayload [0, 9] = some 9 ∧ dropPayload [0, 9, 0] = none ∧
    quoted.book.quotes[(1 : Fin 15)] = some openQuote ∧ openQuote.number = 9 ∧
    (∀ j : Fin 15, j ≠ 1 → quoted.book.quotes[j] = none) ∧ quoted.book.queue = [] ∧ quoted.cars = [] ∧
    base.book.quotes[(1 : Fin 15)] = none :=
  ⟨⟨rfl, rfl, rfl, by decide⟩, by decide +kernel⟩

theorem met_MaintenanceIsForwarded :
    (∀ m, (windowed { enabled := true, base := 0, mask := 0, mode := m }).accepts site) ∧
    (∀ m, ∀ d ∈ [1, 126], (windowed { enabled := true, base := 0, mask := 0, mode := m }).office.decides d =
      some { enabled := true, base := 0, mask := 0, mode := m }) ∧
    base.office.decides 50 = none ∧ base.cars = [] ∧ base.pacer.state = .stopped ∧ base.halt.state ≠ .halted ∧
    base.ring.pass.length < 8 :=
  ⟨fun m => by cases m <;> exact accepts_of (by decide +kernel), fun m => by cases m <;> decide +kernel, by decide +kernel⟩

theorem met_MaintenanceIsForwarded_full :
    ∃ s : State, s.accepts site ∧ s.office.decides 50 = some { enabled := true, base := 0, mask := 0, mode := .haltedOnly } ∧
      s.halt.state ≠ .halted ∧ 8 ≤ s.ring.pass.length :=
  ⟨(windowed { enabled := true, base := 0, mask := 0, mode := .haltedOnly }).onRing fun r =>
    { r with pass := List.replicate 8 (.maint 50 40 []) }, accepts_of (by decide +kernel), by decide +kernel⟩

/-- The site, whose requests are accepted. -/
theorem base_accepts : base.accepts site := accepts_of (by decide +kernel)

theorem met_RequestsNotTaken :
    base.live ∧ (head 97 40 0).dst ≠ base.office.address ∧ (head 96 31 0).src ≤ 31 ∧ 64 ≤ (head 96 64 0).src ∧
    (noReply base).live ∧ site.dst = (noReply base).office.address ∧ 8 ≤ (noReply base).office.replies.length ∧
    base.accepts site ∧ (∀ k ∈ [0, 1, 2], [(0 : Byte)].length ≠ 7 + k) ∧
    (∀ k ∈ List.range 30, (List.replicate 45 (0 : Byte)).length ≠
      15 + k) ∧ (terminal 16).src = 16 ∧ (terminal 0).src < 1 ∧ dropPayload [0] = none :=
  ⟨rfl, by decide, by decide, by decide, rfl, rfl, by decide +kernel, base_accepts, by decide, by decide +kernel, rfl, by decide,
    by decide⟩

theorem met_TablesAreReadAndNamed : base.accepts site ∧ (14 : Byte).toNat = 14 ∧ (1 : Byte).toNat = 1 ∧
    (optionOperands [7, 1, 44, 0, 0, 0, 16]).map (fun w => w.1) = some (7 : Fin 8).val :=
  ⟨base_accepts, by decide⟩

/-- A STATION write of index i and kind k with a window up to 200. -/
def stationWrite (i k : Byte) : List Byte := [i, k, 0, 100, 0, 200, 0, 0, 0, 0, 0, 0, 7, 208, 255, 0, 0, 10]

theorem met_StationsAndAliasesAreWritten :
    base.accepts site ∧ (stationOperands (stationWrite 31 2)).map (fun w => (w.index, w.kind)) = some (31, 2) ∧
    (stationOperands (stationWrite 32 2)).map (fun w => w.index) = some 32 ∧ kindOf 2 = some .arm ∧ base.cars = [] ∧
    withCar.cars ≠ [] ∧ base.track.length ≠ 0 ∧ State.reset.track.length = 0 ∧
    base.seq.stations[(1 : StationId)].phase = .idle ∧ base.seq.stations[(1 : StationId)].current = none ∧
    engaging.seq.stations[(2 : StationId)].current.isSome = true ∧
    (∀ j : StationId, j ≠ 31 → base.map.table[j].kind = .arm → base.map.aliases[j] ≠ 126) ∧
    ∃ j : StationId, j ≠ 31 ∧ base.map.table[j].kind = .arm ∧ base.map.aliases[j] = 21 :=
  ⟨base_accepts, by decide +kernel⟩

theorem met_SaleAndPassTablesAreWritten :
    base.accepts site ∧ (∀ i ∈ [(0 : Byte), 1, 15, 16], (planOperands [i, 1, 0, 9, 0, 0, 0, 7, 0, 0, 0, 1, 9]).isSome = true) ∧
    (7 : StationSet) &&& ~~~(7 : StationSet) = 0 ∧ planStateOf 2 = some .withdrawn ∧ planStateOf 3 = none ∧
    (∀ i ∈ [(7 : Byte), 8], (optionOperands [i, 0, 9, 0, 0, 0, 1]).isSome = true) ∧
    (∀ i ∈ [(7 : Byte), 8], (codeOperands [i, 1, 0, 9, 0, 9, 15, 100, 1]).isSome = true) ∧ flagOf 1 = some true ∧
    (∀ i ∈ [(3 : Byte), 4], (passOperands [i, 1, 127, 127, 2]).isSome = true) ∧ passModeOf 2 = some .haltedOnly ∧
    passModeOf 3 = none :=
  ⟨base_accepts, by decide +kernel⟩

theorem met_SaleAndPassTablesAreWritten_flags :
    (codeOperands [7, 2, 0, 9, 0, 9, 15, 100, 2]).map (fun w => (w.index, w.plan, w.enabled, w.grant)) = some (7, 15, 2, 2) ∧
    (passOperands [3, 2, 127, 127, 3]).map (fun w => (w.index, w.enabled, w.mode)) = some (3, 2, 3) := by
  decide

theorem met_PacingTimingAndArbiterAreWritten :
    base.accepts site ∧ (∀ i ∈ [(0 : Byte), 1], (pacingOperands [i, 0, 16, 0, 32, 0, 120, 0, 100, 0, 100, 1, 44, 4, 176]).map
      (fun w => w.index) = some i.toNat) ∧
    (∀ i ∈ [(0 : Byte), 1], (timingOperands [i, 0, 100, 0, 40, 0, 200, 11, 184, 0, 120, 25, 20]).map (fun w => w.1) =
      some i.toNat) ∧
    ∀ i ∈ [(0 : Byte), 1], arbiterOperands [i, 2, 3, 8] = some (i.toNat, 2, 3, 8) :=
  ⟨base_accepts, by decide +kernel⟩

theorem met_GateAndTrackAreWritten :
    base.accepts site ∧ withCar.accepts site ∧
    (gateOperands [0, 9, 196, 2, 88, 5, 220, 1]).map (fun w => (w.index, w.admitUnsold)) = some (0, 1) ∧
    (gateOperands [0, 9, 196, 2, 88, 5, 220, 2]).map (fun w => w.admitUnsold) = some 2 ∧ base.gate.phase ≠ .ready ∧
    (trackOperands [0, 0x2E, 0xE0, 0, 150, 1, 144, 11, 184, 0, 200, 25, 0, 150, 5, 220]).map (fun w => (w.index, w.track)) =
      some (0, base.track) ∧
    (trackOperands [1, 0x0B, 0xB8, 0, 150, 1, 144, 11, 184, 0, 200, 25, 0, 150, 5, 220]).map
      (fun w => (w.index, w.track.length)) = some (1, 3000) ∧
    base.cars = [] ∧ withCar.cars ≠ [] ∧ base.eyes[(4 : Fin 10)].enabled = true ∧ base.eyes[(4 : Fin 10)].position = 3000 ∧
    ∀ k ∈ trackingEyes, base.eyes[k].enabled = true → base.eyes[k].position < 3001 :=
  ⟨base_accepts, accepts_of (by decide +kernel), by decide +kernel⟩

theorem met_GateAndTrackAreWritten_check : (gateIn .ready forSale).accepts site ∧ (gateIn .ready forSale).gate.phase = .ready ∧
    (gateIn .ready forSale).admissible = true ∧
    ({ gateIn .ready forSale with gate := { (gateIn .ready forSale).gate with admitUnsold := decide (1 = 1) } } : State).admissible =
      true :=
  ⟨accepts_of (by decide +kernel), by decide +kernel⟩

theorem met_EyesAreWritten :
    base.accepts site ∧
    ((eyeOperands [9, 1, 126, 7, 1, 0x17, 0x70]).map (fun w => (w.index, w.enabled, w.node)) = some (9, 1, 126) ∧
      (eyeOperands [9, 1, 126, 7, 1, 0x17, 0x70]).map (fun w => (w.input, w.polarity, w.position)) = some (7, 1, 6000)) ∧
    (eyeOperands [10, 1, 126, 7, 1, 0, 0]).map (fun w => w.index) = some 10 ∧ flagOf 1 = some true ∧
    polarityOf 1 = some .activeLow ∧ base.cars = [] ∧ withCar.cars ≠ [] ∧ base.pacer.state = .stopped ∧
    base.gate.phase ≠ .ready ∧
    (∀ j : Fin 10, j ≠ 9 → base.eyes[j].enabled = true → base.eyes[j].node = 126 → base.eyes[j].input ≠ 7) ∧
    (∀ j : Fin 10, 4 ≤ j.val → base.eyes[j].enabled = true →
      (j < 9 → base.eyes[j].position < 6000) ∧ (9 < j → 6000 < base.eyes[j].position)) ∧
    ∃ j : Fin 10, j ≠ 9 ∧ base.eyes[j].enabled = true ∧ base.eyes[j].node = 12 ∧ base.eyes[j].input = 0 :=
  ⟨base_accepts, by decide +kernel⟩

theorem met_EyesAreWritten_flag : ∃ w, eyeOperands [9, 2, 126, 7, 1, 0x17, 0x70] = some w ∧ w.enabled = 2 ∧ w.index < 10 :=
  ⟨{ index := 9, enabled := 2, node := 126, input := 7, polarity := 1, position := 6000 }, by decide +kernel⟩

theorem met_NodesAreWritten :
    base.accepts site ∧
    (∀ d ∈ [(126 : Byte), 127], (nodeOperands [0, 15, d, d, d, d]).map (fun w => (w.index, w.mask, w.drive)) =
      some (0, 15, d.toNat)) ∧
    (nodeOperands [1, 0, 0, 0, 0, 63]).map (fun w => (w.index, w.office)) = some (1, 63) ∧
    base.pacer.state = .stopped ∧ running.pacer.state ≠ .stopped ∧ base.gate.phase = .closed ∧ base.gate.isOpen = false :=
  ⟨base_accepts, by decide +kernel⟩

theorem met_GateOpensAndCloses :
    base.accepts site ∧ State.reset.gate.roller = 0 ∧ State.reset.accepts site ∧ base.gate.roller ≠ 0 ∧
    (base.onGate fun g => { g with isOpen := true }).admissible = false ∧ (eyeOn 0 forSale).accepts site ∧
    (eyeOn 0 forSale).gate.phase = .closed ∧ (eyeOn 0 forSale).eyes[(0 : Fin 10)].on = true ∧
    ((eyeOn 0 forSale).onGate fun g => { g with isOpen := true }).admissible = true :=
  ⟨base_accepts, rfl, accepts_of (by decide +kernel), by decide, by decide +kernel, accepts_of (by decide +kernel),
    by decide +kernel⟩

theorem met_RunIsTaken :
    (∀ p, (pacerIn p base).accepts site) ∧ wordOperand [0, 159] = some 159 ∧ wordOperand [0x12, 0xC1] = some 4801 ∧
    State.reset.accepts site ∧ State.reset.track.length = 0 ∧
    (base.track.length ≠ 0 ∧ base.eyes[(1 : Fin 10)].enabled = true ∧ base.eyes[(2 : Fin 10)].enabled = true ∧
      base.belt.encoder ≠ 0 ∧ base.pacer.drive ≠ 0 ∧ base.ring.state = .up) ∧
    (watched .down none none).ring.state = .down ∧ base.halt.state ≠ .restarting ∧ base.gate.phase ≠ .ready ∧
    (pacerIn .stopping base).blockedBy = none :=
  ⟨fun p => by cases p <;> exact accepts_of (by decide +kernel), by decide, by decide, accepts_of (by decide +kernel),
    by decide +kernel⟩

theorem met_StopIsTaken :
    (∀ p, (pacerIn p base).accepts site) ∧
    (∀ b, (starting b).accepts site ∧ (starting b).pacer.start = some { number := 9, transmitted := b }) ∧
    restarting.accepts site ∧ restarting.halt.state = .restarting ∧
    restarting.openIncident = some { incident with state := .acked } ∧ restarting.noticeRoom 1 :=
  ⟨fun p => by cases p <;> exact accepts_of (by decide +kernel),
    fun b => ⟨by cases b <;> exact accepts_of (by decide +kernel), rfl⟩, accepts_of (by decide +kernel), rfl, rfl,
    (by decide : 0 + 1 ≤ 32)⟩

/-- A profile interval while the belt trails by n counts, at V = 0. -/
def trailing (n : Int) (p : PacerState) : State :=
  { running with pacer := { running.pacer with state := p, speed := 0, runSpeed := 0, commanded := 5000 + BitVec.ofInt 32 n } }

theorem met_ProfileIntervalStepsTheBelt :
    (∀ n ∈ [(100 : Int), -100, 101, -101], ∀ p ∈ [PacerState.running, .stopping], (trailing n p).live ∧
      (trailing n p).pacer.profileTimer.isSome = true ∧ (trailing n p).pacer.state ≠ .pointStop ∧ (trailing n p).noticeRoom 1 ∧
      ((trailing n p).pacer.commanded - (trailing n p).belt.count).toInt = n) ∧
    (trailing 0 .running).pacer.slip = 100 ∧ (trailing 0 .running).pacer.overrun = 100 := by
  refine ⟨fun n hn p hp => ⟨rfl, rfl, ?_, (by decide : 0 + 1 ≤ 32), ?_⟩, rfl, rfl⟩
  · revert p; change ∀ p ∈ _, p ≠ PacerState.pointStop; decide
  · revert p; revert n; decide +kernel

/-- A point stop at V = 1600 with the front of the car n counts before the stop point. -/
def stopping (n : Nat) : State :=
  atBelt (12700 - n) (pacerIn .pointStop { withCar with pacer := { running.pacer with
    pointStop := some { decel := .dec, latched := false }, commanded := BitVec.ofNat 32 (12700 - n) } })

theorem met_PointStopRampsDown :
    (∀ n ∈ [0, 49, 50, 1000], (stopping n).live ∧ (stopping n).pacer.profileTimer.isSome = true ∧
      (stopping n).pacer.state = .pointStop ∧ (stopping n).pacer.pointStop = some { decel := .dec, latched := false } ∧
      leadCar (stopping n).cars = some rider ∧ (stopping n).noticeRoom 1 ∧ (stopping n).remaining rider = n) ∧
    rampDistance 1600 32 = 49 := by
  refine ⟨fun n hn => ⟨rfl, rfl, rfl, rfl, rfl, (by decide : 0 + 1 ≤ 32), ?_⟩, by decide +kernel⟩
  revert n
  decide +kernel

theorem met_AckAndResume :
    (inIncident .halted .halted .unacked).accepts site ∧
    (inIncident .halted .halted .unacked).openIncident = some incident ∧ base.accepts site ∧ base.openIncident = none ∧
    halted.accepts site ∧ halted.halt.state = .halted ∧
    halted.openIncident.map (fun r => r.state) = some .acked ∧ halted.halt.estop = .released ∧ halted.ring.state = .up ∧
    halted.armUnsafe = false ∧ (station halted 1 { phase := .fault, position := .inn }).accepts site ∧
    (station halted 1 { phase := .fault, position := .inn }).armUnsafe = true ∧ halted.pacer.resume = false ∧ halted.noticeRoom 1 :=
  ⟨accepts_of (by decide +kernel), rfl, base_accepts, rfl, accepts_of (by decide +kernel), rfl, rfl, rfl, rfl, by decide +kernel,
    accepts_of (by decide +kernel), by decide +kernel, rfl, (by decide : 0 + 1 ≤ 32)⟩

theorem met_StationEyeAndSaleRequests :
    base.accepts site ∧ byteOperand [31] = some 31 ∧ byteOperand [32] = some 32 ∧ byteOperand [3] = some 3 ∧
    byteOperand [9] = some 9 ∧ byteOperand [10] = some 10 ∧
    (station base 31 { phase := .fault }).accepts site ∧
    (station base 31 { phase := .fault }).seq.stations[(31 : StationId)].phase = .fault ∧
    (station base 31 { phase := .fault }).seq.stations[(31 : StationId)].current = none ∧ base.halt.state ≠ .halting ∧
    base.eyes[(9 : Fin 10)].enabled = false ∧ base.eyes[(4 : Fin 10)].enabled = true ∧ sold.accepts site ∧
    wordOperand [0, 9] = some 9 ∧ sold.book.queue = [] ++ { sale := ticket, activity := 7 } :: [] ∧ base.book.queue = [] :=
  ⟨base_accepts, by decide, by decide, by decide, by decide, by decide, accepts_of (by decide +kernel), by decide +kernel,
    by decide +kernel, by decide, by decide +kernel, by decide +kernel, accepts_of (by decide +kernel), by decide, rfl, rfl⟩

/-- The rider leaves; its rear stands at n while the belt is at n + 2000. -/
def leaving (n : Nat) : State :=
  eyeOn 2 (atBelt (n + 2000) { withCar with cars := [{ rider with phase := .leaving }] })

theorem met_CarsClose :
    CarCloses (.carClear site [7]) { withCar with pacer := base.pacer } rider .cleared [mgmtReply withCar site 0x23 .ok []] ∧
    CarCloses (.eye (node 11) [0, 0]) (leaving 11850) { rider with phase := .leaving } .exit [] ∧
    (∀ i : StationId, (leaving 11850).seq.stations[i].car ≠ some 7) ∧ (leaving 11850).gate.phase ≠ .ready ∧
    (leaving 11850).noticeRoom 1 ∧
    (withCar.accepts site ∧ withCar.halt.state ≠ .halted ∧ withCar.pacer.state ≠ .stopped ∧
      withCar.pacer.state ≠ .pointStop) ∧
    base.pacer.state = .stopped ∧ ∀ k ∈ base.cars, k.tag ≠ 255 :=
  ⟨.inl ⟨_, _, rfl, accepts_of (by decide +kernel), by decide, by decide +kernel, .inl rfl, rfl, rfl⟩,
    .inr ⟨_, _, 11850, rfl, edge_of 0 0 (by decide +kernel), rfl, rfl, by decide +kernel, by decide +kernel, rfl, rfl⟩,
    by decide +kernel, by decide, (by decide : 0 + 1 ≤ 32),
    ⟨accepts_of (by decide +kernel), by decide, by decide, by decide⟩, rfl, by decide⟩

theorem met_CarsClose_served : ∃ s : State, CarCloses (.carClear site [7]) s rider .cleared [mgmtReply s site 0x23 .ok []] ∧
    s.seq.stations[(2 : StationId)].car = some 7 ∧ s.engagedLaw ∧ s.noticeRoom 1 :=
  ⟨{ engaging with pacer := base.pacer }, .inl ⟨_, _, rfl, accepts_of (by decide +kernel), by decide, by decide +kernel, .inl rfl, rfl,
    rfl⟩, by decide +kernel, engaged_one (j := 2) (c := rider) (by decide +kernel) (by decide +kernel) (List.mem_singleton.2 rfl),
    (by decide : 0 + 1 ≤ 32)⟩

/-- The rear of the rider at, and one past, the point at which it is given up, and the front of an entering car likewise. -/
theorem met_CarsClose_lost :
    (∀ n ∈ [15500, 15501], carByTag (atBelt n withCar).cars 7 = some rider ∧ (atBelt n withCar).engagedLaw ∧
      (atBelt n withCar).noticeRoom 1) ∧
    (rider.rear 15500).map BitVec.toNat = some (base.track.length + base.track.expiry) ∧
    (rider.rear 15501).map BitVec.toNat = some (base.track.length + base.track.expiry + 1) ∧ entering.length = none ∧
    (entering.front 20501).toNat = base.track.length + base.track.maxCar + base.track.expiry + 1 :=
  ⟨fun n _ => ⟨rfl, engaged_none (s := atBelt n withCar) (by change ∀ i : StationId, withCar.seq.stations[i].car = none; decide +kernel),
    (by decide : 0 + 1 ≤ 32)⟩, by decide +kernel⟩

theorem met_TunnelResets :
    (halted.accepts site ∧ halted.halt.state = .halted ∧ halted.halt.estop = .released) ∧
    (base.accepts site ∧ base.halt.state = .clear ∧ base.pacer.state = .stopped ∧ base.cars = [] ∧ base.noticeRoom 1) ∧
    running.accepts site ∧ running.pacer.state ≠ .stopped :=
  ⟨⟨accepts_of (by decide +kernel), rfl, rfl⟩, ⟨base_accepts, rfl, rfl, rfl, (by decide : 0 + 1 ≤ 32)⟩,
    accepts_of (by decide +kernel), by decide⟩

theorem met_TunnelResets_cars : (cars 16 halted).accepts site ∧ (cars 16 halted).halt.state = .halted ∧ (cars 16 halted).listLaw ∧
    (cars 16 halted).engagedLaw ∧ (cars 16 halted).noticeRoom ((cars 16 halted).cars.length + 1) :=
  ⟨accepts_of (by decide +kernel), rfl, by unfold State.listLaw; decide +kernel, engaged_none (by decide +kernel),
    (by decide : 0 + 17 ≤ 32)⟩

theorem met_TalliesAreReadAndReset : base.accepts site ∧ (15 : Byte).toNat = (15 : Fin 16).val ∧ 16 ≤ (16 : Byte).toNat :=
  ⟨base_accepts, by decide⟩

theorem met_StatusIsReadAndCleared : base.accepts site := base_accepts

theorem met_SilenceAndHoldExpire : (base.live ∧ base.belt.silence.isSome = true ∧ base.pacer.state = .stopped) ∧
    (running.live ∧ running.belt.silence.isSome = true ∧ running.pacer.state ≠ .stopped ∧ running.noticeRoom 1) ∧
    State.powerOn.belt.silence = none :=
  ⟨⟨rfl, rfl, rfl⟩, ⟨rfl, rfl, by decide, (by decide : 0 + 1 ≤ 32)⟩, rfl⟩

/-- The rider with its front at n. -/
def frontAt (n : Nat) : State := atBelt (n + 1000) withCar

theorem met_StationTriggersAreTaken :
    (∀ n, (frontAt n).halt.state = .clear ∧ carByTag (frontAt n).cars 7 = some rider) ∧
    ((rider.front 6999).toNat : Int) < (frontAt 5999).map.table[(2 : StationId)].windowStart ∧
    ((rider.front 7000).toNat = 6000 ∧ rider.rear 7000 = some 5000 ∧ rider.unsettled 2 = true ∧
      (frontAt 6000).seq.stations[(2 : StationId)].car = none ∧ (frontAt 6000).seq.stations[(2 : StationId)].phase = .idle ∧
      (frontAt 6000).map.aliases[(2 : StationId)] ≠ 0 ∧ (frontAt 6000).seq.stations[(2 : StationId)].current = none) ∧
    rider.rear 9000 = some 7000 ∧
    (station withCar 2 { phase := .engaged, car := some 7 }).seq.stations[(2 : StationId)].phase = .engaged ∧
    (station withCar 2 { phase := .engaged, car := some 7 }).seq.stations[(2 : StationId)].car = some 7 :=
  ⟨fun _ => ⟨rfl, rfl⟩, by decide +kernel⟩

/-- Stations of the rider and of another car, in each phase, with and without an order in flight; station 2 is ACKED, 1 ARM. -/
theorem met_StationTriggersAreTaken_busy : ∀ p ∈ [StationPhase.engaging, .engaged, .releasing],
    ∀ k ∈ [none, some 6, some 7], ∀ o ∈ [none, some (order .on 5 .ack)], ∃ s : State,
      s.seq.stations[(2 : StationId)].phase = p ∧ s.seq.stations[(2 : StationId)].car = k ∧
      s.seq.stations[(2 : StationId)].current = o ∧ s.map.table[(2 : StationId)].kind = .acked ∧
      s.map.aliases[(2 : StationId)] ≠ 0 ∧ s.halt.state = .clear ∧ carByTag s.cars 7 = some rider ∧
      (rider.front s.belt.count).toNat = 6000 ∧ rider.unsettled 2 = true ∧ s.noticeRoom 1 := by
  intro p hp k hk o ho
  refine ⟨station (frontAt 6000) 2 { phase := p, car := k, current := o }, rfl, rfl, rfl, ?_, ?_, rfl, rfl, ?_, ?_,
    (by decide : 0 + 1 ≤ 32)⟩
  · exact (by decide +kernel : (frontAt 6000).map.table[(2 : StationId)].kind = .acked)
  · exact (by decide +kernel : (frontAt 6000).map.aliases[(2 : StationId)] ≠ 0)
  · exact (by decide +kernel : (rider.front (frontAt 6000).belt.count).toNat = 6000)
  · decide +kernel

theorem met_StationTriggersAreTaken_posted :
    (station withCar 0 { phase := .engaged, car := some 6 }).seq.stations[(0 : StationId)].car = some 6 ∧
    withCar.map.table[(0 : StationId)].kind = .posted ∧ rider.unsettled 0 = false ∧ base.halt.state = .clear ∧
    halted.halt.state ≠ .clear := by
  decide +kernel

theorem met_RampDownDistance : 32 < 1600 ∧ 49 = (1600 + 32 - 1) / 32 - 1 ∧ 2 * 39200 = 2 * 49 * 1600 - 32 * 49 * (49 + 1) := by
  decide

theorem met_FramesAreReadAsTheyAreSent : ∀ (f : Frame) (tail : List Byte), [0x60] ≠ f.wire ++ tail := by
  intro f tail h
  have := congrArg List.length h
  simp [Frame.wire, Frame.body] at this

/-- The laws hold at reset, where a step passes a millisecond, and in the states of an open incident. -/
theorem met_HaltLawIsKept : State.reset.haltLaw ∧ State.reset.startLaw ∧ (∃ t, step State.reset = .next t) ∧
    (inIncident .halted .halted .acked).haltLaw ∧ (inIncident .halted .halted .acked).startLaw ∧
    (inIncident .restarting .starting .acked).haltLaw ∧ (inIncident .restarting .starting .acked).startLaw ∧
    (starting true).startLaw ∧ (starting true).haltLaw := by
  refine ⟨?_, ?_, ⟨_, rfl⟩, ?_, ?_, ?_, ?_, ?_, ?_⟩ <;> first | unfold State.haltLaw | unfold State.startLaw
  all_goals decide +kernel

theorem met_ListsAreKept : (cars 16 base).listLaw ∧ fullQueue.roomLaw ∧ halted.logLaw ∧ halted.haltLaw ∧ halted.newestFirst ∧
    (withCar.listLaw ∧ withCar.roomLaw ∧ withCar.saleLaw ∧ withCar.saleNumbers = [9]) ∧ quoted.saleLaw ∧
    quoted.saleNumbers = [9] := by
  refine ⟨?_, ?_, ?_, ?_, ?_, ⟨?_, ?_, ?_, by decide +kernel⟩, ?_, by decide +kernel⟩ <;>
    first
    | unfold State.listLaw
    | unfold State.roomLaw
    | unfold State.logLaw
    | unfold State.haltLaw
    | unfold State.newestFirst
    | unfold State.saleLaw
  all_goals decide +kernel

theorem met_ServicesAreSettledOnce : withCar.setsLaw ∧ engaging.listLaw ∧ engaging.engagedLaw ∧
    (after (.carClear site [7]) { withCar with pacer := base.pacer }).tallyLaw :=
  ⟨by unfold State.setsLaw Car.setsLaw; decide +kernel, by unfold State.listLaw; decide +kernel,
    engaged_one (j := 2) (c := rider) (by decide +kernel) (by decide +kernel) (List.mem_singleton.2 rfl),
    by unfold State.tallyLaw TallyRow.law; decide +kernel⟩

theorem met_RangesAreKept : running.pacer.speedLaw ∧ (after .estopAssert running).ring.law ∧ (oneFree base).office.law := by
  refine ⟨by unfold Pacer.speedLaw; decide +kernel, ?_, by unfold Office.law; decide +kernel⟩
  refine ⟨fun c => ?_, by decide +kernel⟩
  cases c <;> decide +kernel

/-- The order of station 2 waits to be sent while another frame is. -/
def queuedOrder : State :=
  let s := serving 2 .engaging none { order .on 5 .ack with transmitted := false }
  { s with ring := { s.ring with tx := some (.brake 30), order := [.order 22 5 .on 2] }, pending := [.returnedOrder (head 22 0 6) [1, 2]] }

theorem met_RangesAreKept_orders :
    queuedOrder.haltLaw ∧ queuedOrder.startLaw ∧ queuedOrder.frameNumbersApart ∧ queuedOrder.orderLaw := by
  refine ⟨by unfold State.haltLaw; decide +kernel, by unfold State.startLaw; decide +kernel, ?_, ?_⟩
  · intro d n a k h
    cases List.mem_singleton.1 h
    refine ⟨fun d a k e => (nomatch e), fun h p e => ?_⟩
    cases e
    decide
  · refine ⟨?_, by decide +kernel, by decide +kernel, ?_, by decide +kernel, by decide +kernel, by decide +kernel, ?_⟩
    · intro f h
      cases List.mem_singleton.1 h
      exact ⟨2, rfl, _, rfl, rfl, rfl, rfl⟩
    · intro i h
      revert i
      decide +kernel
    · intro r h
      exact absurd h (by decide +kernel)

end Sys2Proof.Tests
end

section
/-! The ramp-down distance (R72): the stepped speeds of a ramp, their area, and the closed form the rule computes it by. -/

namespace Sys2Proof.Machine

/-- The area under the first `n` stepped speeds of a ramp from speed `v` by `d` per interval, in 1/800 count (R72). -/
def steppedArea (v d n : Nat) : Nat := ((List.range n).map fun k => v - (k + 1) * d).sum

@[simp] theorem steppedArea_zero (v d : Nat) : steppedArea v d 0 = 0 := rfl

@[simp] theorem steppedArea_succ (v d n : Nat) : steppedArea v d (n + 1) = steppedArea v d n + (v - (n + 1) * d) := by
  simp [steppedArea, List.sum_range_succ]

/-- The rule's interval count, ceil(v / d) − 1, counts the steps of `d` that leave a positive speed (R72). -/
theorem le_rampSteps_iff {v d : Nat} (hd : 1 ≤ d) (hv : 1 ≤ v) (k : Nat) : k ≤ (v + d - 1) / d - 1 ↔ k * d < v := by
  have hceil : (v + d - 1) / d = (v - 1) / d + 1 := by
    rw [show v + d - 1 = v - 1 + d by omega, Nat.add_div_right _ hd]
  rw [hceil, Nat.add_sub_cancel, Nat.le_div_iff_mul_le hd]
  omega

/-- While no step takes the speed below 0, the rule's closed form is twice the area: the subtraction is exact. -/
theorem two_mul_steppedArea_add {v d : Nat} (n : Nat) (h : n * d ≤ v) :
    2 * steppedArea v d n + d * (n * (n + 1)) = 2 * (n * v) := by
  induction n with
  | zero => simp
  | succ n ih =>
    have hprev : n * d ≤ v := le_trans (Nat.mul_le_mul_right d n.le_succ) h
    obtain ⟨rest, rfl⟩ := Nat.exists_eq_add_of_le h
    have hsum := ih hprev
    rw [steppedArea_succ, Nat.add_sub_cancel_left]
    linarith

/-- Past the first step the ramp-down distance is the area under its positive stepped speeds, rounded up to counts. -/
theorem rampDistance_eq_steppedArea {v d : Nat} (hd : 1 ≤ d) (h : d < v) :
    rampDistance v d = (steppedArea v d ((v + d - 1) / d - 1) + 799) / 800 := by
  have hn := (le_rampSteps_iff hd (by omega : 1 ≤ v) _).1 le_rfl
  simp only [rampDistance, if_neg h.not_ge]
  generalize (v + d - 1) / d - 1 = n at hn ⊢
  have harea := two_mul_steppedArea_add n hn.le
  have hhalf : 2 * (d * (n * (n + 1) / 2)) = d * (n * (n + 1)) := by
    rw [Nat.mul_left_comm, Nat.mul_div_cancel' (Nat.even_mul_succ_self n).two_dvd]
  have hexact : n * v - d * (n * (n + 1) / 2) = steppedArea v d n := by omega
  rw [hexact]

/-- Settles O54: the closed form of R72 is twice the area under the stepped speeds, so its half is their sum. -/
theorem rampDownDistance : Obligations.RampDownDistance := by
  intro v d n p hd
  refine ⟨fun h => by simp [rampDistance, h], fun h hn hp => ?_⟩
  have hsteps (k : Nat) : k ≤ n ↔ k * d < v := hn ▸ le_rampSteps_iff hd (by omega) k
  have hpArea : p = steppedArea v d n := by
    have harea := two_mul_steppedArea_add n ((hsteps n).1 le_rfl).le
    rw [mul_assoc, mul_assoc] at hp
    omega
  refine ⟨fun k _ => ?_, hpArea, ?_, fun a ha => ?_⟩
  · rw [hsteps, Nat.sub_pos_iff_lt]
  · rw [rampDistance_eq_steppedArea hd h, ← hn, hpArea]
  · omega

end Sys2Proof.Machine
end

section
/-! The Sale Book's quote entries and the DROP_REQ (R126): what the lookup of an open quote finds, what emptying an entry leaves,
when a sale number is free, and the two answers of a drop. -/

namespace Sys2Proof.Machine

variable {s t : State} {h : Head} {k : Fin 15} {number : Nat}

/-! ## The quote entries -/

theorem openQuote_eq_some_iff {q : Quote} : s.openQuote k number = some q ↔ s.book.quotes[k] = some q ∧ q.number = number := by
  simp [State.openQuote, Option.filter_eq_some_iff]

theorem openQuote_eq_none_iff : s.openQuote k number = none ↔ ∀ q, s.book.quotes[k] = some q → q.number ≠ number := by
  simp [State.openQuote, Option.filter_eq_none_iff]

@[simp] theorem clearQuote_book (s : State) (k : Fin 15) :
    (s.clearQuote k).book = { s.book with quotes := s.book.quotes.set k none } := rfl

@[simp] theorem clearQuote_office (s : State) (k : Fin 15) : (s.clearQuote k).office = s.office := rfl

theorem clearQuote_touches (s : State) (k : Fin 15) : Touches [.book] s (s.clearQuote k) := touches_onBook s _

/-- A sale number is free when no open quote, no queued sale and no car holds it (R123). -/
theorem saleNumberHeld_eq_false_iff : s.saleNumberHeld number = false ↔
    (∀ j : Fin 15, ∀ q, s.book.quotes[j] = some q → q.number ≠ number) ∧
    (∀ x ∈ s.book.queue, x.sale.number ≠ number) ∧
    ∀ c ∈ s.cars, ∀ x, c.sale = some x → x.number ≠ number := by
  simp [State.saleNumberHeld, and_assoc]

/-- Which sale numbers are held is a matter of the Sale Book and the car list. -/
theorem saleNumberHeld_congr (hbook : t.book = s.book) (hcars : t.cars = s.cars) (n : Nat) :
    t.saleNumberHeld n = s.saleNumberHeld n := by
  simp only [State.saleNumberHeld, hbook, hcars]

/-- With the entry emptied, its number is free unless something else holds it (R123, R126). -/
theorem saleNumberHeld_clearQuote (hquotes : ∀ j : Fin 15, j ≠ k → ∀ q, s.book.quotes[j] = some q → q.number ≠ number)
    (hqueue : ∀ x ∈ s.book.queue, x.sale.number ≠ number)
    (hcars : ∀ c ∈ s.cars, ∀ x, c.sale = some x → x.number ≠ number) : (s.clearQuote k).saleNumberHeld number = false := by
  refine saleNumberHeld_eq_false_iff.2 ⟨fun j q hq => ?_, hqueue, hcars⟩
  rw [clearQuote_book] at hq
  by_cases hj : j = k
  · rw [hj, getElem_set_eq'] at hq
    cases hq
  · rw [getElem_set_ne' _ _ _ _ hj] at hq
    exact hquotes j hj q hq

/-! ## DROP_REQ -/

/-- A terminal's request of another form than its kind's is discarded (R163, R172). -/
theorem terminalRequest_malformed {α : Type} (hl : s.live) (effect : State → Fin 15 → α → State) :
    terminalRequest s h none effect = .next s.officeKick := by
  rw [terminalRequest, live_of_released hl]
  cases terminalSlot h.src <;> rfl

theorem exec_dropReq (h : Head) (payload : List Byte) (s : State) :
    exec (.dropReq h payload) s = execDropReq h payload s := rfl

/-- A drop of the terminal's open quote empties its entry and answers DROPPED (R126). -/
theorem execDropReq_of_openQuote {payload : List Byte} {q : Quote} (ha : s.acceptsTerminal h k)
    (hform : dropPayload payload = some number) (hq : s.openQuote k number = some q) :
    ∃ t, execDropReq h payload s = .next t ∧ SameButOffice (s.clearQuote k) t ∧
      Replies [.book] s t { src := s.office.address, dst := h.src, body := .drop .dropped number } := by
  have ⟨_, _, _, hroom⟩ := ha
  have hqueues := Queues.after (hs := [.book]) (clearQuote_touches s k)
    (Queues.reply (s.clearQuote k) h.src (.drop .dropped number) hroom)
  refine ⟨_, ?_, .reply (s.clearQuote k) h.src (.drop .dropped number), hqueues.kick⟩
  rw [execDropReq, terminalRequest_taken ha hform, hq]

/-- A drop without the terminal's open quote of that number answers NO_QUOTE and changes nothing else (R126). -/
theorem execDropReq_of_noQuote {payload : List Byte} (ha : s.acceptsTerminal h k) (hform : dropPayload payload = some number)
    (hq : s.openQuote k number = none) :
    ∃ t, execDropReq h payload s = .next t ∧
      Replies [] s t { src := s.office.address, dst := h.src, body := .drop .noQuote number } := by
  have ⟨_, _, _, hroom⟩ := ha
  refine ⟨_, ?_, (Queues.reply s h.src (.drop .noQuote number) hroom).kick⟩
  rw [execDropReq, terminalRequest_taken ha hform, hq]

/-- Settles O31: the lookup of the open quote decides between the two answers; a payload of another form is discarded. -/
theorem dropsRemoveTheQuote : Obligations.DropsRemoveTheQuote := by
  intro s h payload k ha
  have ⟨hlive, _, _, _⟩ := ha
  simp only [exec_dropReq]
  refine ⟨fun hform => ?_, fun number hform => ?_⟩
  · rw [execDropReq, hform, terminalRequest_malformed hlive]
    exact ⟨_, rfl, (Queues.refl s).kick⟩
  · cases hq : s.openQuote k number with
    | none =>
      obtain ⟨t, hexec, hreply⟩ := execDropReq_of_noQuote ha hform hq
      exact ⟨t, hexec, fun q hentry hnumber => absurd hnumber (openQuote_eq_none_iff.1 hq q hentry), fun _ => hreply⟩
    | some found =>
      obtain ⟨t, hexec, hsame, hreply⟩ := execDropReq_of_openQuote ha hform hq
      obtain ⟨hentry, hnumber⟩ := openQuote_eq_some_iff.1 hq
      have hbook : t.book = (s.clearQuote k).book := hsame .book (by decide)
      have hcars : t.cars = (s.clearQuote k).cars := hsame .cars (by decide)
      refine ⟨t, hexec, fun _ _ _ => ⟨hbook, hreply, fun hquotes hqueue hfree => ?_⟩, fun hno => ?_⟩
      · rw [saleNumberHeld_congr hbook hcars]
        exact saleNumberHeld_clearQuote hquotes hqueue hfree
      · exact absurd hnumber (hno found hentry)

end Sys2Proof.Machine
end

section
/-! The tally requests (R139, R140): what a read answers for a plan's row and for no row, and what a reset leaves. -/

namespace Sys2Proof.Machine

variable {s : State} {h : Head} {plan : Byte}

/-- The data of a TALLY READ are the five totals, each in four bytes (R139). -/
theorem tallyRow_bytes (r : TallyRow) : r.bytes =
    fourNat r.washes ++ fourNat r.gross ++ fourNat r.credit ++ fourNat r.voids ++ fourNat r.voidAmount := rfl

/-! ## TALLY READ -/

theorem readTally_of_row (s : State) (p : Fin 16) : s.readTally p.val = s.stored false s.tallies[p].bytes := by
  simp [State.readTally]

theorem readTally_of_noRow {n : Nat} (hn : 16 ≤ n) : s.readTally n = s.refuse .badIndex := by
  simp [State.readTally, hn]

theorem exec_tallyRead (h : Head) (operands : List Byte) (s : State) :
    exec (.tallyRead h operands) s = execTallyRead h operands s := rfl

/-- A read of a plan's row answers its five totals and changes nothing else (R139). -/
theorem execTallyRead_of_row (ha : s.accepts h) {p : Fin 16} (hp : plan.toNat = p.val) :
    ∃ t, execTallyRead h [plan] s = .next t ∧ Replies [] s t (mgmtReply s h 0x30 .ok s.tallies[p].bytes) := by
  have hread : s.readTally plan.toNat = s.stored false s.tallies[p].bytes := by rw [hp, readTally_of_row]
  obtain ⟨t, hexec, -, hreply⟩ := request_sends ha (code := 0x30) (operands := byteOperand [plan]) rfl (f := State.readTally)
    (result := .ok) (by rw [hread]; exact Queues.refl s) (by rw [hread]; rfl) (congrArg Answer.data hread)
  exact ⟨t, hexec, hreply⟩

/-- A read past the last row answers BAD_INDEX and changes nothing else (R139). -/
theorem execTallyRead_of_noRow (ha : s.accepts h) (hplan : 16 ≤ plan.toNat) :
    ∃ t, execTallyRead h [plan] s = .next t ∧ Replies [] s t (mgmtReply s h 0x30 .badIndex []) :=
  request_refused ha rfl (readTally_of_noRow hplan)

/-! ## TALLY RESET -/

theorem resetTallies_row (s : State) (p : Fin 16) : s.resetTallies.tallies[p] = {} := by
  simp [State.resetTallies]

theorem resetTallies_touches (s : State) : Touches [.tallies] s s.resetTallies := touches_onTallies s _

theorem exec_tallyReset (h : Head) (operands : List Byte) (s : State) :
    exec (.tallyReset h operands) s = execTallyReset h operands s := rfl

/-- A reset leaves every row as it is before the first close, answers OK, and changes nothing else (R140). -/
theorem execTallyReset_of_accepts (ha : s.accepts h) :
    ∃ t, execTallyReset h [] s = .next t ∧ SameButOffice s.resetTallies t ∧
      Replies [.tallies] s t (mgmtReply s h 0x31 .ok []) :=
  request_sends ha rfl (.of_touches (resetTallies_touches s)) rfl rfl

/-- Settles O50: whether the plan has a row decides between the answers of a read; a reset replaces all sixteen rows. -/
theorem talliesAreReadAndReset : Obligations.TalliesAreReadAndReset := by
  intro s h ha
  simp only [exec_tallyRead, exec_tallyReset]
  refine ⟨fun plan => ?_, ?_⟩
  · by_cases hplan : plan.toNat < 16
    · obtain ⟨t, hexec, hreply⟩ := execTallyRead_of_row ha (p := ⟨plan.toNat, hplan⟩) rfl
      refine ⟨t, hexec, fun hno => absurd hplan hno.not_gt, fun p hp => ?_⟩
      obtain rfl : ⟨plan.toNat, hplan⟩ = p := Fin.ext hp
      rw [← tallyRow_bytes]
      exact hreply
    · have hno : 16 ≤ plan.toNat := Nat.not_lt.1 hplan
      obtain ⟨t, hexec, hreply⟩ := execTallyRead_of_noRow ha hno
      exact ⟨t, hexec, fun _ => hreply, fun p hp => absurd (hp ▸ p.isLt) hplan⟩
  · obtain ⟨t, hexec, hsame, hreply⟩ := execTallyReset_of_accepts ha
    have hrows : t.tallies = s.resetTallies.tallies := hsame .tallies (by decide)
    exact ⟨t, hexec, fun p => hrows ▸ resetTallies_row s p, hreply⟩

end Sys2Proof.Machine
end

section
/-! The halt law (R148) by cases: what a CLEAR state keeps (`State.Runs`), what every other state keeps (`State.Rests`), and what
the named updates and the shared operations of Ops.lean do to either. -/

set_option Elab.async false

namespace Sys2Proof.Machine

/-! ## The two cases of the law -/

/-- The records of a log that are not closed (R149). -/
def openCount (log : List Incident) : Nat := (log.filter Incident.isOpen).length

/-- The law of the start record, of the pacer alone. -/
def Pacer.StartLaw (p : Pacer) : Prop := (p.state ≠ .starting → p.start = none) ∧ (p.start = none → p.startTimer = none)

/-- The belt commanded still, as a halt state leaves it: HALTED, or STARTING in RESTARTING. -/
def Pacer.Still (p : Pacer) (h : HaltState) : Prop :=
  p.speed = 0 ∧ p.profileTimer = none ∧ p.state = if h = .restarting then .starting else .halted

/-- A call is in flight (R40). -/
def GatePhase.inCall : GatePhase → Bool
  | .calling | .rolling => true
  | _ => false

/-- The law in CLEAR. -/
structure State.Runs (s : State) : Prop where
  clear : s.halt.state = .clear
  noneOpen : openCount s.halt.log = 0
  start : s.pacer.StartLaw

/-- The law while the halt state is not CLEAR. -/
structure State.Rests (s : State) : Prop where
  notClear : s.halt.state ≠ .clear
  oneOpen : openCount s.halt.log = 1
  start : s.pacer.StartLaw
  still : s.pacer.Still s.halt.state
  noCall : s.gate.phase.inCall = false
  quiet : ∀ i : StationId, s.seq.stations[i].quiet = true

/-- The halt law with the law of the start record. -/
def State.HaltLawful (s : State) : Prop := s.Runs ∨ s.Rests

theorem inCall_eq_false_iff {p : GatePhase} : p.inCall = false ↔ p ≠ .calling ∧ p ≠ .rolling := by
  cases p <;> simp [GatePhase.inCall]

variable {fs : List Field} {s t : State}

theorem atRest_iff : s.atRest = true ↔ s.pacer.Still s.halt.state ∧ s.gate.phase.inCall = false ∧
    ∀ i : StationId, s.seq.stations[i].quiet = true := by
  simp only [State.atRest, Pacer.Still, inCall_eq_false_iff, Bool.and_eq_true, beq_iff_eq, bne_iff_ne, Option.isNone_iff_eq_none,
    List.all_eq_true, mem_stationIds, true_imp_iff]
  tauto

/-- The two cases are the law that is to be kept. -/
theorem haltLawful_iff : s.HaltLawful ↔ s.haltLaw ∧ s.startLaw := by
  unfold State.HaltLawful State.haltLaw
  split
  next hclear =>
    constructor
    · rintro (h | h)
      · exact ⟨h.noneOpen, h.start⟩
      · exact absurd hclear h.notClear
    · rintro ⟨hnone, hstart⟩
      exact .inl ⟨hclear, hnone, hstart⟩
  next hclear =>
    constructor
    · rintro (h | h)
      · exact absurd h.clear hclear
      · exact ⟨⟨h.oneOpen, atRest_iff.2 ⟨h.still, h.noCall, h.quiet⟩⟩, h.start⟩
    · rintro ⟨⟨hone, hrest⟩, hstart⟩
      obtain ⟨hstill, hcall, hquiet⟩ := atRest_iff.1 hrest
      exact .inr ⟨hclear, hone, hstart, hstill, hcall, hquiet⟩

/-! ## Quiet stations -/

theorem quiet_iff {st : Station} : st.quiet = true ↔ (st.phase ≠ .engaging ∧ st.phase ≠ .engaged) ∧ st.car = none ∧
    st.queued = none ∧ ∀ o, st.current = some o → o.action.begins = false := by
  simp only [Station.quiet, Bool.and_eq_true, bne_iff_ne, Option.isNone_iff_eq_none, Option.all_eq_true,
    Bool.not_eq_true', and_assoc]

/-- A station without its engaged car is as quiet as before. -/
theorem Station.quiet_dropCar {st : Station} (h : st.quiet = true) : ({ st with car := none } : Station).quiet = true := by
  obtain ⟨hphase, -, hqueued, hcurrent⟩ := quiet_iff.1 h
  exact quiet_iff.2 ⟨hphase, rfl, hqueued, hcurrent⟩

/-- A quiet station in a phase that serves no car. -/
theorem Station.quiet_phase {st : Station} (h : st.quiet = true) {p : StationPhase} (h1 : p ≠ .engaging) (h2 : p ≠ .engaged) :
    ({ st with phase := p } : Station).quiet = true := by
  obtain ⟨-, hcar, hqueued, hcurrent⟩ := quiet_iff.1 h
  exact quiet_iff.2 ⟨⟨h1, h2⟩, hcar, hqueued, hcurrent⟩

/-- A quiet station whose orders are gone. -/
theorem Station.quiet_dropOrders {st : Station} (h : st.quiet = true) :
    ({ st with current := none, queued := none, timer := none } : Station).quiet = true := by
  obtain ⟨hphase, hcar, -, -⟩ := quiet_iff.1 h
  exact quiet_iff.2 ⟨hphase, hcar, rfl, nofun⟩

/-- A quiet station whose order in flight changes in other fields than its action. -/
theorem Station.quiet_current {st : Station} (h : st.quiet = true) {c : Option StationOrder} {timer : Option Nat}
    (hc : ∀ o, c = some o → ∃ old, st.current = some old ∧ o.action = old.action) :
    ({ st with current := c, timer := timer } : Station).quiet = true := by
  obtain ⟨hphase, hcar, hqueued, hcurrent⟩ := quiet_iff.1 h
  refine quiet_iff.2 ⟨hphase, hcar, hqueued, fun o ho => ?_⟩
  obtain ⟨old, hold, haction⟩ := hc o ho
  rw [haction]
  exact hcurrent old hold

/-- Every station is quiet after a halt entry (R111). -/
theorem Station.quiet_halted (st : Station) (kind : StationKind) (node busy : Nat) : (st.halted kind node busy).quiet = true := by
  unfold Station.halted
  split
  next hfault => exact quiet_iff.2 ⟨by simp [hfault], rfl, rfl, nofun⟩
  next =>
    split
    · exact quiet_iff.2 ⟨by simp, rfl, rfl, nofun⟩
    · exact quiet_iff.2 ⟨by simp, rfl, rfl, fun o ho => by cases ho; rfl⟩

/-! ## Counting the open incidents -/

theorem openCount_cons (r : Incident) (log : List Incident) :
    openCount (r :: log) = (if r.isOpen then 1 else 0) + openCount log := by
  unfold openCount
  cases h : r.isOpen <;> simp [h, Nat.add_comm]

theorem openCount_eq_zero_iff {log : List Incident} : openCount log = 0 ↔ ∀ r ∈ log, r.isOpen = false := by
  simp [openCount, List.filter_eq_nil_iff]

theorem isOpen_eq_true_iff {r : Incident} : r.isOpen = true ↔ r.state ≠ .closed := by simp [Incident.isOpen]

/-- A change of the open records that leaves them open. -/
theorem openCount_map_of_open {f : Incident → Incident} (hf : ∀ r, (f r).isOpen = true) (log : List Incident) :
    openCount (log.map fun r => if r.state ≠ .closed then f r else r) = openCount log := by
  induction log with
  | nil => rfl
  | cons r log ih =>
    rw [List.map_cons, openCount_cons, openCount_cons, ih]
    by_cases hr : r.state ≠ .closed
    · rw [if_pos hr, hf r, isOpen_eq_true_iff.2 hr]
    · rw [if_neg hr]

/-- A change of the open records that closes them. -/
theorem openCount_map_of_closed {f : Incident → Incident} (hf : ∀ r, (f r).isOpen = false) (log : List Incident) :
    openCount (log.map fun r => if r.state ≠ .closed then f r else r) = 0 := by
  refine openCount_eq_zero_iff.2 fun r hr => ?_
  obtain ⟨old, -, rfl⟩ := List.mem_map.1 hr
  split
  next => exact hf old
  next hold => simpa [Incident.isOpen] using hold

/-- Making room removes no open record where there is none (R150). -/
theorem openCount_logWithRoom {log : List Incident} (h : openCount log = 0) : openCount (logWithRoom log) = 0 := by
  rw [openCount_eq_zero_iff] at h ⊢
  intro r hr
  unfold logWithRoom at hr
  split at hr
  · exact h r (List.mem_of_mem_dropLast hr)
  · exact h r hr

theorem openCount_eq_zero_of_openIncident (h : s.openIncident = none) : openCount s.halt.log = 0 := by
  refine openCount_eq_zero_iff.2 fun r hr => ?_
  simpa [Incident.isOpen] using List.find?_eq_none.1 h r hr

/-! ## Frames -/

/-- The law speaks of the Halt Controller, the pacer, the gate and the stations alone. -/
theorem State.HaltLawful.of_touches (h : s.HaltLawful) (k : Touches fs s t) (hhalt : Field.halt ∉ fs := by decide)
    (hpacer : Field.pacer ∉ fs := by decide) (hgate : Field.gate ∉ fs := by decide) (hseq : Field.seq ∉ fs := by decide) :
    t.HaltLawful := by
  have hhalt : t.halt = s.halt := k .halt hhalt
  have hpacer : t.pacer = s.pacer := k .pacer hpacer
  have hgate : t.gate = s.gate := k .gate hgate
  have hseq : t.seq = s.seq := k .seq hseq
  rcases h with ⟨hclear, hnone, hstart⟩ | ⟨hclear, hone, hstart, hstill, hcall, hquiet⟩
  · exact .inl ⟨hhalt ▸ hclear, hhalt ▸ hnone, hpacer ▸ hstart⟩
  · exact .inr ⟨hhalt ▸ hclear, hhalt ▸ hone, hpacer ▸ hstart, by rwa [hpacer, hhalt], hgate ▸ hcall, by rwa [hseq]⟩

/-- In CLEAR the law speaks of the Halt Controller and the pacer alone. -/
theorem State.Runs.of_touches (h : s.Runs) (k : Touches fs s t) (hhalt : Field.halt ∉ fs := by decide)
    (hpacer : Field.pacer ∉ fs := by decide) : t.Runs := by
  have hhalt : t.halt = s.halt := k .halt hhalt
  have hpacer : t.pacer = s.pacer := k .pacer hpacer
  obtain ⟨hclear, hnone, hstart⟩ := h
  exact ⟨hhalt ▸ hclear, hhalt ▸ hnone, hpacer ▸ hstart⟩

theorem State.HaltLawful.foldl {α : Type} {f : State → α → State} (hf : ∀ s a, s.HaltLawful → (f s a).HaltLawful)
    (l : List α) (h : s.HaltLawful) : (l.foldl f s).HaltLawful :=
  List.foldlRecOn l f h fun s hs a _ => hf s a hs

theorem State.Runs.foldl {α : Type} {f : State → α → State} (hf : ∀ s a, s.Runs → (f s a).Runs) (l : List α) (h : s.Runs) :
    (l.foldl f s).Runs :=
  List.foldlRecOn l f h fun s hs a _ => hf s a hs

/-! ## The named updates -/

/-- A change of the pacer in fields the law does not name. -/
theorem State.HaltLawful.onPacer {f : Pacer → Pacer} (h : s.HaltLawful) (hstart : (f s.pacer).StartLaw)
    (hstill : s.pacer.Still s.halt.state → (f s.pacer).Still s.halt.state) : (s.onPacer f).HaltLawful := by
  rcases h with ⟨hclear, hnone, -⟩ | ⟨hclear, hone, -, hrest, hcall, hquiet⟩
  · exact .inl ⟨hclear, hnone, hstart⟩
  · exact .inr ⟨hclear, hone, hstart, hstill hrest, hcall, hquiet⟩

theorem State.HaltLawful.onGate {f : Gate → Gate} (h : s.HaltLawful)
    (hf : s.gate.phase.inCall = false → (f s.gate).phase.inCall = false) : (s.onGate f).HaltLawful := by
  rcases h with ⟨hclear, hnone, hstart⟩ | ⟨hclear, hone, hstart, hstill, hcall, hquiet⟩
  · exact .inl ⟨hclear, hnone, hstart⟩
  · exact .inr ⟨hclear, hone, hstart, hstill, hf hcall, hquiet⟩

theorem State.HaltLawful.onStation {f : Station → Station} (h : s.HaltLawful) (i : StationId)
    (hf : s.seq.stations[i].quiet = true → (f s.seq.stations[i]).quiet = true) : (s.onStation i f).HaltLawful := by
  rcases h with ⟨hclear, hnone, hstart⟩ | ⟨hclear, hone, hstart, hstill, hcall, hquiet⟩
  · exact .inl ⟨hclear, hnone, hstart⟩
  · refine .inr ⟨hclear, hone, hstart, hstill, hcall, fun j => ?_⟩
    by_cases hj : j = i
    · rw [hj, onStation_self]
      exact hf (hquiet i)
    · rw [onStation_other hj]
      exact hquiet j

/-- A change of the incident log that neither opens nor closes a record. -/
theorem State.HaltLawful.onHalt {f : HaltBlock → HaltBlock} (h : s.HaltLawful) (hstate : (f s.halt).state = s.halt.state)
    (hlog : openCount (f s.halt).log = openCount s.halt.log) : (s.onHalt f).HaltLawful := by
  rcases h with ⟨hclear, hnone, hstart⟩ | ⟨hclear, hone, hstart, hstill, hcall, hquiet⟩
  · exact .inl ⟨hstate.trans hclear, hlog.trans hnone, hstart⟩
  · exact .inr ⟨fun e => hclear (hstate.symm.trans e), hlog.trans hone, hstart, hstate.symm ▸ hstill, hcall, hquiet⟩

/-- A change of the open incident that leaves it open. -/
theorem State.HaltLawful.changeIncident (h : s.HaltLawful) {f : Incident → Incident} (hf : ∀ r, (f r).isOpen = true) :
    (s.changeIncident f).HaltLawful :=
  h.onHalt rfl (openCount_map_of_open hf s.halt.log)

end Sys2Proof.Machine
end

section
/-! The halt law through the shared operations of Ops.lean: the admission check, the changes of the halt and pacer states, the
halt actions and the taking of a cause. -/

set_option Elab.async false

namespace Sys2Proof.Machine

variable {s t : State}

theorem State.HaltLawful.start (h : s.HaltLawful) : s.pacer.StartLaw := by
  rcases h with h | h
  · exact h.start
  · exact h.start

/-- Outside HALTED and STARTING the pacer stands in CLEAR alone (R148). -/
theorem State.HaltLawful.runs_of_pacer (h : s.HaltLawful) (hhalted : s.pacer.state ≠ .halted)
    (hstarting : s.pacer.state ≠ .starting) : s.Runs := by
  rcases h with h | h
  · exact h
  · obtain ⟨-, -, hstate⟩ := h.still
    split at hstate
    · exact absurd hstate hstarting
    · exact absurd hstate hhalted

/-! ## The gate -/

theorem gateRest_inCall (s : State) : s.gateRest.inCall = false := by
  unfold State.gateRest
  split
  · rfl
  · split <;> rfl

/-- An admission check calls no car while the halt state is not CLEAR (R42, R148). -/
theorem State.HaltLawful.admissionCheck (h : s.HaltLawful) : s.admissionCheck.HaltLawful := by
  rcases h with h | h
  · exact .inl (h.of_touches (admissionCheck_touches s))
  · rw [admissionCheck_of_halt h.notClear]
    exact .inr h

theorem State.HaltLawful.finishCall (h : s.HaltLawful) : s.finishCall.HaltLawful :=
  (h.onGate fun _ => gateRest_inCall s : s.endCall.HaltLawful).admissionCheck

/-! ## The halt state and the stations -/

theorem haltingCheck_of_clear (h : s.halt.state = .clear) : s.haltingCheck = s := by
  rw [haltingCheck_eq, if_neg]
  rintro ⟨hhalting, -⟩
  rw [h] at hhalting
  cases hhalting

/-- HALTED asks of the pacer and the stations what HALTING does (R148). -/
theorem State.Rests.haltingCheck (h : s.Rests) : s.haltingCheck.Rests := by
  rw [haltingCheck_eq]
  split
  next hmet =>
    obtain ⟨-, hone, hstart, ⟨hspeed, htimer, hstate⟩, hcall, hquiet⟩ := h
    rw [hmet.1] at hstate
    exact ⟨nofun, hone, hstart, ⟨hspeed, htimer, hstate⟩, hcall, hquiet⟩
  next => exact h

theorem State.HaltLawful.haltingCheck (h : s.HaltLawful) : s.haltingCheck.HaltLawful := by
  rcases h with h | h
  · rw [haltingCheck_of_clear h.clear]
    exact .inl h
  · exact .inr h.haltingCheck

theorem State.Runs.onStation (h : s.Runs) (i : StationId) (f : Station → Station) : (s.onStation i f).Runs :=
  h.of_touches (onStation_touches s i f)

theorem State.Runs.setStationPhase (h : s.Runs) (i : StationId) (p : StationPhase) : (s.setStationPhase i p).Runs := by
  rw [setStationPhase_quiet (.inr (by rw [h.clear]; decide))]
  exact h.onStation i _

/-- A change to a phase that serves no car. -/
theorem State.HaltLawful.setStationPhase (h : s.HaltLawful) (i : StationId) {p : StationPhase} (h1 : p ≠ .engaging)
    (h2 : p ≠ .engaged) : (s.setStationPhase i p).HaltLawful := by
  have hphase : (s.onStation i fun st => { st with phase := p }).HaltLawful :=
    h.onStation i fun hquiet => Station.quiet_phase hquiet h1 h2
  unfold State.setStationPhase
  dsimp only
  split
  · exact hphase.haltingCheck
  · exact hphase

theorem State.HaltLawful.missEngaged (h : s.HaltLawful) (i : StationId) : (s.missEngaged i).HaltLawful := by
  unfold State.missEngaged
  split
  · exact h
  next tag _ => exact (h.of_touches (recordMissed_touches s tag i)).onStation i Station.quiet_dropCar

/-! ## The end of RESTARTING (R157) -/

/-- The states in which a change of the pacer to RUNNING or STOPPED leads to, or stays in, CLEAR. -/
def State.Settles (s : State) : Prop := s.halt.state = .clear ∧ openCount s.halt.log = 0 ∨ s.halt.state = .restarting

theorem State.Settles.of_halt (h : s.Settles) (ht : t.halt = s.halt) : t.Settles := by
  unfold State.Settles
  rwa [ht]

theorem State.Settles.onPacer (h : s.Settles) (f : Pacer → Pacer) : (s.onPacer f).Settles := h

/-- The log once its open incident has been closed. -/
theorem closeIncident_openCount (s : State) (way : Way) : openCount (s.closeIncident way).halt.log = 0 := by
  unfold State.closeIncident
  split
  next hnone => exact openCount_eq_zero_of_openIncident hnone
  next r _ => exact openCount_map_of_closed (fun _ => rfl) s.halt.log

theorem setHaltState_halt (s : State) (h : HaltState) : (s.setHaltState h).halt = { s.halt with state := h } :=
  admissionCheck_touches (s.onHalt fun b => { b with state := h }) .halt (by decide)

/-- Outside RESTARTING a change to another state than STARTING leaves the Halt Controller alone (R157). -/
theorem setPacerState_halt {p : PacerState} (hp : p ≠ .starting) (hr : s.halt.state ≠ .restarting) :
    (s.setPacerState p).halt = s.halt := by
  rw [setPacerState_settles hp hr]
  exact admissionCheck_touches (s.onPacer fun q => { q with state := p }) .halt (by decide)

theorem endRestarting_halt (s : State) : s.endRestarting.halt = { (s.closeIncident .resumed).halt with state := .clear } :=
  setHaltState_halt _ _

/-- A pacer without a start record may take every state. -/
theorem Pacer.startLaw_of_none {p : Pacer} (h1 : p.start = none) (h2 : p.startTimer = none) : p.StartLaw :=
  ⟨fun _ => h1, fun _ => h2⟩

/-- A change to RUNNING or STOPPED leads to CLEAR, with every incident closed (R157). -/
theorem State.Settles.setPacerState (h : s.Settles) {p : PacerState} (hp : p = .running ∨ p = .stopped)
    (hstart : s.pacer.start = none) (htimer : s.pacer.startTimer = none) : (s.setPacerState p).Runs := by
  have hlaw : (s.setPacerState p).pacer.StartLaw := by
    rw [setPacerState_pacer]
    exact Pacer.startLaw_of_none hstart htimer
  rcases h with ⟨hclear, hnone⟩ | hrestarting
  · have hhalt : (s.setPacerState p).halt = s.halt :=
      setPacerState_halt (by rcases hp with rfl | rfl <;> decide) (by rw [hclear]; decide)
    exact ⟨by rw [hhalt, hclear], by rw [hhalt, hnone], hlaw⟩
  · have hhalt : (s.setPacerState p).halt = (s.onPacer fun q => { q with state := p }).endRestarting.halt := by
      rw [setPacerState_ends hp hrestarting]
      exact admissionCheck_touches _ .halt (by decide)
    rw [endRestarting_halt] at hhalt
    exact ⟨by rw [hhalt], by rw [hhalt]; exact closeIncident_openCount _ _, hlaw⟩

theorem State.Runs.settles (h : s.Runs) : s.Settles := .inl ⟨h.clear, h.noneOpen⟩

/-- While the pacer is not HALTED, no incident is open but in RESTARTING. -/
theorem State.HaltLawful.settles (h : s.HaltLawful) (hp : s.pacer.state ≠ .halted) : s.Settles := by
  rcases h with h | h
  · exact h.settles
  · obtain ⟨-, -, hstate⟩ := h.still
    split at hstate
    next hrestarting => exact .inr hrestarting
    next => exact absurd hstate hp

/-! ## The halt actions (R145) and the taking of a cause (9.3) -/

/-- What the halt actions make of the pacer, the gate and the stations. -/
structure State.Stilled (s : State) : Prop where
  start : s.pacer.StartLaw
  still : s.pacer.Still .halted
  noCall : s.gate.phase.inCall = false
  quiet : ∀ i : StationId, s.seq.stations[i].quiet = true

/-- The halt actions command the belt still, abandon a call and disengage every station, from every state (R145). -/
theorem haltActions_stilled (s : State) : s.haltActions.Stilled := by
  refine ⟨?_, ?_, ?_, fun i => ?_⟩
  · rw [haltActions_pacer]
    exact Pacer.startLaw_of_none rfl rfl
  · rw [haltActions_pacer]
    exact ⟨rfl, rfl, rfl⟩
  · rw [haltActions_gate]
    split
    next => exact gateRest_inCall s
    next hno => exact inCall_eq_false_iff.2 (not_or.1 hno)
  · rw [haltActions_station]
    exact Station.quiet_halted _ _ _ _

/-- With one open incident, the entry to HALTING completes the law (R144, R146). -/
theorem State.Stilled.enterHalting (h : s.Stilled) (hone : openCount s.halt.log = 1) : s.enterHalting.Rests := by
  obtain ⟨hstart, ⟨hspeed, htimer, hstate⟩, hcall, hquiet⟩ := h
  rw [enterHalting_eq]
  split
  · exact ⟨nofun, hone, hstart, ⟨hspeed, htimer, hstate⟩, hcall, hquiet⟩
  · exact ⟨nofun, hone, hstart, ⟨hspeed, htimer, hstate⟩, hcall, hquiet⟩

theorem State.Stilled.notify (h : s.Stilled) (n : Notice) : (s.notify n).Stilled := by
  obtain ⟨hstart, hstill, hcall, hquiet⟩ := h
  exact ⟨hstart, hstill, hcall, hquiet⟩

/-- A cause taken while no incident is open opens one and halts the part (R144). -/
theorem openBy_rests (c : Cause) (hnone : openCount s.halt.log = 0) : (s.openBy c).Rests := by
  have hone : openCount (s.newIncident c).haltActions.halt.log = 1 := by
    have hhalt : (s.newIncident c).haltActions.halt = (s.newIncident c).halt :=
      haltActions_touches (s.newIncident c) .halt (by decide)
    rw [hhalt]
    simp [State.newIncident, openCount_cons, openCount_logWithRoom hnone, Incident.isOpen]
  exact ((haltActions_stilled (s.newIncident c)).notify _).enterHalting (by rw [notify_halt]; exact hone)

theorem Incident.isOpen_addCause (r : Incident) (c : Cause) : (r.addCause c).isOpen = true := by
  unfold Incident.addCause
  split <;> rfl

theorem addSecondary_state (c : Cause) : (s.addSecondary c).halt.state = s.halt.state := by
  unfold State.addSecondary
  split <;> rfl

/-- A secondary cause neither opens nor closes an incident (R146). -/
theorem State.Rests.addSecondary (h : s.Rests) (c : Cause) : (s.addSecondary c).Rests := by
  have hadded : (s.addSecondary c).HaltLawful := by
    unfold State.addSecondary
    split
    · exact .inr h
    · exact (State.HaltLawful.changeIncident (.inr h) fun r => r.isOpen_addCause c).of_touches (notify_touches _ _)
  exact hadded.resolve_left fun hruns => h.notClear ((addSecondary_state c).symm.trans hruns.clear)

/-- A cause taken while an incident is open joins it, and in RESTARTING halts the part again (R146). -/
theorem State.Rests.secondaryBy (h : s.Rests) (c : Cause) : (s.secondaryBy c).Rests := by
  have hadded := h.addSecondary c
  unfold State.secondaryBy
  dsimp only
  split
  · refine (haltActions_stilled _).enterHalting ?_
    rw [show State.halt _ = _ from haltActions_touches _ .halt (by decide)]
    exact hadded.oneOpen
  · exact hadded

/-- The taking of a cause keeps the law (R142, R144, R146). -/
theorem State.HaltLawful.takeCause (h : s.HaltLawful) (c : Cause) : (s.takeCause c).HaltLawful := by
  have hmarked : (s.markStruck c).HaltLawful := h.of_touches (markStruck_touches s c)
  unfold State.takeCause
  dsimp only
  rcases hmarked with hruns | hrests
  · rw [if_pos (show s.halt.state = .clear from hruns.clear)]
    split
    · exact .inl hruns
    · exact .inr (openBy_rests c hruns.noneOpen)
  · rw [if_neg (show s.halt.state ≠ .clear from hrests.notClear)]
    exact .inr (hrests.secondaryBy c)

theorem State.HaltLawful.raise (h : s.HaltLawful) (kind : CauseKind) (tag tag2 station eye : Option Nat) :
    (s.raise kind tag tag2 station eye).HaltLawful := h.takeCause _

end Sys2Proof.Machine
end

section
/-! The halt law through the Station Sequencer (06): an order is issued or kept pending in CLEAR alone, and a halt state leaves no
station with a car, so that what a station does there is to rest. -/

set_option Elab.async false

namespace Sys2Proof.Machine

variable {s : State}

/-! ## Completion and failure (R104 to R106) -/

theorem handlePending_of_none {i : StationId} (h : s.seq.stations[i].queued = none) (a : Action) : s.handlePending i a = s := by
  unfold State.handlePending
  rw [h]

theorem State.Runs.completeOrder (h : s.Runs) (i : StationId) : (s.completeOrder i).Runs := by
  unfold State.completeOrder
  split
  · exact h
  next o _ =>
    have hpending := (h.onStation i fun st => { st with current := none, timer := none }).of_touches
      (handlePending_touches _ i o.action)
    dsimp only
    split
    · exact hpending
    · exact hpending.setStationPhase i _

theorem Station.remainingPhase_of_none {st : Station} (hcurrent : st.current = none) (hcar : st.car = none) :
    st.remainingPhase = .idle := by
  simp [Station.remainingPhase, hcurrent, hcar]

/-- A quiet station completes its order with nothing pending and no car: it ends in IDLE, or keeps its phase (R104). -/
theorem State.Rests.completeOrder (h : s.Rests) (i : StationId) : (s.completeOrder i).HaltLawful := by
  obtain ⟨-, hcar, hqueued, -⟩ := quiet_iff.1 (h.quiet i)
  unfold State.completeOrder
  split
  · exact .inr h
  next o _ =>
    have hdone : (s.onStation i fun st => { st with current := none, timer := none }).HaltLawful :=
      State.HaltLawful.onStation (.inr h) i fun hquiet => Station.quiet_current hquiet nofun
    rw [handlePending_of_none (by rw [onStation_self]; exact hqueued)]
    dsimp only
    split
    · exact hdone
    · have hidle : ((s.onStation i fun st => { st with current := none, timer := none }).seq.stations[i]).remainingPhase =
          .idle := by
        rw [onStation_self]
        exact Station.remainingPhase_of_none rfl hcar
      rw [hidle]
      exact hdone.setStationPhase i nofun nofun

theorem State.HaltLawful.completeOrder (h : s.HaltLawful) (i : StationId) : (s.completeOrder i).HaltLawful := by
  rcases h with h | h
  · exact .inl (h.completeOrder i)
  · exact h.completeOrder i

theorem State.HaltLawful.dropOrder (h : s.HaltLawful) (i : StationId) : (s.dropOrder i).HaltLawful :=
  (h.missEngaged i).onStation i Station.quiet_dropOrders

/-- The OUT that follows a failed IN is asked for in CLEAR alone: no station has an IN in flight in a halt state (R105). -/
theorem State.HaltLawful.requestOut (h : s.HaltLawful) {i : StationId} {o : StationOrder}
    (ho : s.seq.stations[i].current = some o) (arm : Bool) :
    (if o.action.begins && arm then (s.dropOrder i).requestOrder i .out o.car else s.dropOrder i).HaltLawful := by
  rcases h with h | h
  · have hdropped : (s.dropOrder i).Runs := h.of_touches (dropOrder_touches s i)
    split
    · exact .inl (hdropped.of_touches (requestOrder_touches _ i .out o.car))
    · exact .inl hdropped
  · obtain ⟨-, -, -, hcurrent⟩ := quiet_iff.1 (h.quiet i)
    simp only [hcurrent o ho, Bool.false_and, Bool.false_eq_true, if_false]
    exact State.HaltLawful.dropOrder (.inr h) i

theorem State.HaltLawful.failOrder (h : s.HaltLawful) (i : StationId) (reason : Reason) : (s.failOrder i reason).HaltLawful := by
  unfold State.failOrder
  split
  · exact h
  next o ho =>
    have hfault := ((h.requestOut ho (s.map.table[i].kind = .arm)).setStationPhase i (p := .fault) nofun nofun).of_touches
      (notify_touches _ (.stationFault i.val o.action reason s.seq.stations[i].car))
    dsimp only
    split
    · exact hfault.raise _ _ _ _ _
    · exact hfault

/-! ## Acknowledgments and arm reports (R101, R107, R110) -/

theorem State.HaltLawful.stationDone (h : s.HaltLawful) (i : StationId) : (s.stationDone i).HaltLawful := by
  unfold State.stationDone
  split
  · exact h
  next o ho =>
    split
    · exact h.onStation i fun hquiet => Station.quiet_current hquiet fun x hx => ⟨o, ho, by cases hx; rfl⟩
    · exact h.completeOrder i

theorem State.HaltLawful.stationAck (h : s.HaltLawful) (i : StationId) (r : AckResult) : (s.stationAck i r).HaltLawful := by
  cases r with
  | done => exact h.stationDone i
  | refused => exact h.failOrder i .refused

theorem State.HaltLawful.confirmPosition (h : s.HaltLawful) (i : StationId) (position : ArmPosition) :
    (s.confirmPosition i position).HaltLawful := by
  unfold State.confirmPosition
  split
  · exact h
  next o ho =>
    split
    · split
      · exact h.completeOrder i
      · split
        · exact h.onStation i fun hquiet => Station.quiet_current hquiet fun x hx => ⟨o, ho, by cases hx; rfl⟩
        · exact h
      · exact h
    · exact h

theorem State.HaltLawful.armReport (h : s.HaltLawful) (i : StationId) (position : ArmPosition) (load : Nat) :
    (s.armReport i position load).HaltLawful := by
  have hconfirmed := (h.onStation i (f := fun st => { st with position := position, load := load }) id).confirmPosition i position
  unfold State.armReport
  dsimp only
  split
  · exact hconfirmed.raise _ _ _ _ _
  · exact hconfirmed

/-! ## Releases (R99, R108) -/

theorem State.Runs.releaseStation (h : s.Runs) (i : StationId) (early : Bool) : (s.releaseStation i early).Runs := by
  have hserviced (tag : Nat) (served : Bool) :
      (((s.recordService tag i served).onStation i fun st => { st with car := none }).requestOrder i
        s.map.table[i].kind.offAction (some tag)).Runs :=
    ((h.of_touches (recordService_touches s tag i served)).onStation i _).of_touches (requestOrder_touches _ _ _ _)
  unfold State.releaseStation
  split
  · exact h
  · dsimp only
    split
    · exact h
    · exact h
    · exact (hserviced _ _).setStationPhase i _

/-- In a halt state there is no car to release. -/
theorem State.HaltLawful.releaseStation (h : s.HaltLawful) (i : StationId) (early : Bool) :
    (s.releaseStation i early).HaltLawful := by
  rcases h with h | h
  · exact .inl (h.releaseStation i early)
  · obtain ⟨-, hcar, -, -⟩ := quiet_iff.1 (h.quiet i)
    unfold State.releaseStation
    rw [hcar]
    exact .inr h

theorem State.HaltLawful.releaseCar (h : s.HaltLawful) (tag : Nat) (early : Bool) : (s.releaseCar tag early).HaltLawful := by
  refine h.foldl (fun s i h => ?_) stationIds
  split
  · exact h.releaseStation i early
  · exact h

theorem State.HaltLawful.dropCar (h : s.HaltLawful) (tag : Nat) : (s.dropCar tag).HaltLawful := by
  refine h.foldl (fun s i h => ?_) stationIds
  split
  · exact h.missEngaged i
  · exact h

theorem State.HaltLawful.settleOversize (h : s.HaltLawful) (tag : Nat) : (s.settleOversize tag).HaltLawful := by
  refine h.foldl (fun s i h => ?_) stationIds
  split
  · split
    · exact h.releaseStation i true
    · exact h.of_touches (recordMissed_touches s tag i)
  · exact h

/-! ## Trigger tests (R97 to R100), made in CLEAR alone -/

theorem State.Runs.offTest (h : s.Runs) (i : StationId) : (s.offTest i).Runs := by
  unfold State.offTest
  split
  · exact h
  · split
    · exact h.releaseStation i false
    · exact h

theorem State.Runs.crowdStation (h : s.Runs) (i : StationId) (ahead behind : Nat) : (s.crowdStation i ahead behind).Runs := by
  have hordered := h.of_touches (requestOrder_touches s i s.map.table[i].kind.offAction (some ahead))
  have hmissed := (hordered.of_touches (recordMissed_touches _ ahead i)).of_touches (recordMissed_touches _ behind i)
  exact ((hmissed.onStation i _).setStationPhase i .releasing).of_touches (notify_touches _ _)

theorem State.Runs.engage (h : s.Runs) (i : StationId) (tag : Nat) (action : Action) :
    ((s.onStation i fun st => { st with car := some tag }).requestOrder i action (some tag)).Runs :=
  (h.onStation i _).of_touches (requestOrder_touches _ _ _ _)

theorem State.Runs.onTriggerBusy (h : s.Runs) (i : StationId) (tag : Nat) : (s.onTriggerBusy i tag).Runs := by
  unfold State.onTriggerBusy
  split
  next other _ =>
    split
    · exact (h.of_touches (recordServed_touches s other i)).onStation i _
    · exact h.crowdStation i other tag
  · exact h.engage i tag _

theorem State.Runs.onTrigger (h : s.Runs) (i : StationId) (c : Car) : (s.onTrigger i c).Runs := by
  unfold State.onTrigger
  split
  · exact h.of_touches (recordMissed_touches s c.tag i)
  · split
    · exact h.of_touches (recordMissed_touches s c.tag i)
    · split
      · exact (h.engage i c.tag _).setStationPhase i _
      · exact h.onTriggerBusy i c.tag

theorem State.Runs.onTest (h : s.Runs) (i : StationId) (tag : Nat) : (s.onTest i tag).Runs := by
  unfold State.onTest
  split
  · exact h
  · split
    · exact h.onTrigger i _
    · exact h

theorem State.Runs.stationTests (h : s.Runs) (i : StationId) : (s.stationTests i).Runs :=
  (h.offTest i).foldl (fun _ tag h => h.onTest i tag) _

theorem State.HaltLawful.sequencerAdvance (h : s.HaltLawful) : s.sequencerAdvance.HaltLawful := by
  unfold State.sequencerAdvance
  split
  next hclear =>
    rcases h with h | h
    · exact .inl (h.foldl (fun _ i h => h.stationTests i) stationIds)
    · exact absurd hclear h.notClear
  · exact h

end Sys2Proof.Machine
end

section
/-! The halt law through the Car Track (02) and the Wash Close Unit (08): a car concerns the law only by the stations it engages,
by the admission checks its changes ask for, and by the causes its place raises. -/

set_option Elab.async false

namespace Sys2Proof.Machine

variable {s : State}

/-! ## Entry (R20 to R23) -/

theorem State.HaltLawful.appendCar (h : s.HaltLawful) : s.appendCar.HaltLawful := by
  have htagged : (s.onNextTag fun _ => nextInSequence 255 s.freeTag).HaltLawful := h.of_touches (touches_onNextTag s _)
  unfold State.appendCar
  dsimp only
  split
  · exact htagged.of_touches (touches_onCars _ _)
  · exact ((htagged.of_touches (touches_onCars _ _)).of_touches (touches_onBook _ _)).admissionCheck

theorem State.HaltLawful.gateEntryFront (h : s.HaltLawful) : s.gateEntryFront.HaltLawful := by
  unfold State.gateEntryFront
  split
  · exact h.finishCall
  · exact h.admissionCheck

theorem State.HaltLawful.entryOn (h : s.HaltLawful) : s.entryOn.HaltLawful := by
  unfold State.entryOn
  split
  · unfold State.entryFront
    split
    · exact h.raise _ _ _ _ _
    · exact (h.appendCar.of_touches (markUncalled_touches _ _)).gateEntryFront
  next c _ =>
    split
    · exact h.of_touches (onCar_touches s c.tag _)
    · exact h

/-! ## The close of a car (R35) -/

theorem State.HaltLawful.handOver (h : s.HaltLawful) (tag : Nat) (reason : CloseReason) : (s.handOver tag reason).HaltLawful := by
  unfold State.handOver
  split
  · exact h
  next c _ => exact ((h.of_touches (washClose_touches s c reason)).of_touches (touches_onCars _ _)).admissionCheck

theorem State.HaltLawful.closeCar (h : s.HaltLawful) (tag : Nat) (reason : CloseReason) : (s.closeCar tag reason).HaltLawful := by
  have hsettled : (s.settleClosing tag reason).HaltLawful := by
    cases reason with
    | exit => exact h.releaseCar tag false
    | lost => exact h.releaseCar tag true
    | cleared => exact h.releaseCar tag true
    | tunnelReset => exact h.dropCar tag
  exact (hsettled.of_touches (missUnsettled_touches _ tag)).handOver tag reason

/-! ## Crowding (R28) -/

theorem State.HaltLawful.crowdPair (h : s.HaltLawful) (ahead behind : Car) : (s.crowdPair ahead behind).HaltLawful := by
  unfold State.crowdPair
  split
  · exact h
  · split
    · exact h.raise _ _ _ _ _
    · exact h

theorem State.HaltLawful.crowdAhead (h : s.HaltLawful) (tag : Nat) : (s.crowdAhead tag).HaltLawful := by
  unfold State.crowdAhead
  split
  · exact h.crowdPair _ _
  · exact h

theorem State.HaltLawful.crowdBehind (h : s.HaltLawful) (tag : Nat) : (s.crowdBehind tag).HaltLawful := by
  unfold State.crowdBehind
  split
  · exact h.crowdPair _ _
  · exact h

/-! ## The tests at a belt advance (R24 to R27, R31, R34) -/

theorem State.HaltLawful.returnSale (h : s.HaltLawful) (c : Car) : (s.returnSale c).HaltLawful := by
  unfold State.returnSale
  split
  · exact h
  · exact ((h.of_touches (onCar_touches s c.tag _)).of_touches (touches_onBook _ _)).admissionCheck

theorem State.HaltLawful.foreignObject (h : s.HaltLawful) (c : Car) : (s.foreignObject c).HaltLawful := by
  have hmarked := h.of_touches (onCar_touches s c.tag fun k => { k with flags := { k.flags with foreign := true } })
  have hreleased :=
    ((hmarked.returnSale c).of_touches (onCar_touches _ c.tag fun k => { k with plan := 0 })).releaseCar c.tag true
  exact (hreleased.of_touches (onCar_touches _ c.tag _)).raise _ _ _ _ _

theorem State.HaltLawful.foreignTest (h : s.HaltLawful) (tag : Nat) : (s.foreignTest tag).HaltLawful := by
  unfold State.foreignTest
  split
  · exact h
  · split
    · exact h
    · split
      · exact h.foreignObject _
      · exact h

theorem State.HaltLawful.confirmRear (h : s.HaltLawful) : s.confirmRear.HaltLawful := by
  unfold State.confirmRear
  split
  · exact h
  next c _ =>
    split
    · exact h
    next rear _ =>
      split
      · have hmeasured := (h.of_touches (onCar_touches s c.tag fun k => k.confirm rear)).onGate
          (f := fun g => { g with prevRear := some rear }) id
        exact (hmeasured.foreignTest c.tag).crowdAhead c.tag
      · exact h

theorem State.HaltLawful.oversizeTest (h : s.HaltLawful) : s.oversizeTest.HaltLawful := by
  unfold State.oversizeTest
  split
  · exact h
  next c _ =>
    split
    · exact ((h.of_touches (onCar_touches s c.tag _)).settleOversize c.tag).of_touches (notify_touches _ _)
    · exact h

theorem State.HaltLawful.expiryTest (h : s.HaltLawful) (tag : Nat) : (s.expiryTest tag).HaltLawful := by
  unfold State.expiryTest
  split
  · exact h
  · split
    · exact h.closeCar tag .lost
    · exact h

theorem State.HaltLawful.trackAdvance (h : s.HaltLawful) : s.trackAdvance.HaltLawful :=
  (h.confirmRear.oversizeTest.foldl (fun s tag h => h.of_touches (missTest_touches s tag 6)) _).foldl
    (fun _ tag h => h.expiryTest tag) _

/-! ## Tracking eyes and the exit (R29 to R33) -/

theorem State.HaltLawful.matchEye (h : s.HaltLawful) (e : Nat) (c : Car) : (s.matchEye e c).HaltLawful := by
  have hanchored := h.of_touches (onCar_touches s c.tag fun k =>
    { k.reAnchor s.belt.count (eyePosition s.eyes e) with nextEye := nextEyeAbove s.eyes e })
  refine State.HaltLawful.crowdBehind (State.HaltLawful.crowdAhead ?_ c.tag) c.tag
  split
  · exact hanchored.of_touches (notify_touches _ _)
  · exact hanchored

theorem State.HaltLawful.trackingOn (h : s.HaltLawful) (e : Nat) : (s.trackingOn e).HaltLawful := by
  unfold State.trackingOn
  split
  · exact h.raise _ _ _ _ _
  next c _ =>
    split
    · exact h.matchEye e c
    · exact (h.of_touches (onCar_touches s c.tag _)).raise _ _ _ _ _

theorem State.HaltLawful.exitOn (h : s.HaltLawful) : s.exitOn.HaltLawful := by
  unfold State.exitOn
  split
  · exact h.of_touches (notify_touches s _)
  next c _ =>
    have hleaving := h.of_touches (onCar_touches s c.tag fun k => { k with phase := .leaving })
    split
    · dsimp only
      split
      · exact hleaving.raise _ _ _ _ _
      · exact hleaving
    · exact h.of_touches (notify_touches s _)

theorem State.HaltLawful.exitOff (h : s.HaltLawful) : s.exitOff.HaltLawful := by
  unfold State.exitOff
  split
  · exact h
  · split
    · exact h.closeCar _ .exit
    · exact h

end Sys2Proof.Machine
end

section
/-! The halt law through the Belt Pacer (04): a profile interval and a point stop are in CLEAR alone, and a START ends RESTARTING
whichever way it comes out (R157). -/

set_option Elab.async false

namespace Sys2Proof.Machine

variable {s : State}

/-! ## Changes of the pacer's record -/

/-- A pacer that is not STARTING has no start record and no start timer (R55). -/
theorem Pacer.StartLaw.none_of_state {p : Pacer} (h : p.StartLaw) (hp : p.state ≠ .starting) :
    p.start = none ∧ p.startTimer = none := by
  obtain ⟨hstart, htimer⟩ := h
  exact ⟨hstart hp, htimer (hstart hp)⟩

/-- In CLEAR the law asks of the pacer only the law of its start record. -/
theorem State.Runs.onPacer {f : Pacer → Pacer} (h : s.Runs) (hstart : (f s.pacer).StartLaw) : (s.onPacer f).Runs :=
  ⟨h.clear, h.noneOpen, hstart⟩

/-- A change to POINT_STOP or STOPPING, made in CLEAR. -/
theorem State.Runs.setPacerState_between (h : s.Runs) {p : PacerState} (hp : p = .pointStop ∨ p = .stopping)
    (hstate : s.pacer.state ≠ .starting) : (s.setPacerState p).Runs := by
  obtain ⟨hstart, htimer⟩ := h.start.none_of_state hstate
  have heq : s.setPacerState p = s.onPacer fun q => { q with state := p } := by
    rcases hp with rfl | rfl
    · exact setPacerState_plain (by decide) (by decide) (by decide)
    · exact setPacerState_plain (by decide) (by decide) (by decide)
  rw [heq]
  exact h.onPacer (Pacer.startLaw_of_none hstart htimer)

theorem State.Runs.queueSetpoint (h : s.Runs) (speed : Nat) : (s.queueSetpoint speed).Runs :=
  (h.of_touches (touches_onRing s fun r => r.pushSetpoint s.pacer.drive speed)).onPacer h.start

/-! ## The point stop (R71, R74) -/

theorem State.HaltLawful.exitBlockedCheck (h : s.HaltLawful) : s.exitBlockedCheck.HaltLawful := by
  unfold State.exitBlockedCheck
  split
  next hrunning =>
    have hstarting : s.pacer.state ≠ .starting := by rw [hrunning]; decide
    have hruns := h.runs_of_pacer (by rw [hrunning]; decide) hstarting
    split
    · exact h
    next c _ =>
      exact .inl ((hruns.onPacer (f := fun p => { p with pointStop := some { decel := s.chooseDecel c, latched := false } })
        h.start).setPacerState_between (.inl rfl) hstarting)
  · exact h

theorem State.HaltLawful.exitZoneClear (h : s.HaltLawful) : s.exitZoneClear.HaltLawful := by
  unfold State.exitZoneClear
  split
  next hpoint =>
    have hstarting : s.pacer.state ≠ .starting := by rw [hpoint]; decide
    obtain ⟨hstart, htimer⟩ := h.start.none_of_state hstarting
    have hsettles := (h.settles (by rw [hpoint]; decide)).onPacer fun p => { p with pointStop := none }
    exact State.HaltLawful.exitBlockedCheck (.inl (hsettles.setPacerState (.inl rfl) hstart htimer))
  · exact h

/-! ## The outcome of a START (R61) -/

/-- A START succeeds: RUNNING ends RESTARTING, and only then a fault may halt the part again (R61, R63, R157). -/
theorem State.HaltLawful.startDone (h : s.HaltLawful) (hp : s.pacer.state = .starting) : s.startDone.HaltLawful := by
  have hrunning : ((s.onPacer fun p => { p with
      start := none, startTimer := none, commanded := s.belt.count, acc := 0, refresh := 0,
      profileTimer := some 20 }).setPacerState .running).Runs :=
    ((h.settles (by rw [hp]; decide)).onPacer _).setPacerState (.inl rfl) rfl rfl
  refine State.HaltLawful.exitBlockedCheck ?_
  unfold State.faultAtEntry
  split
  · exact State.HaltLawful.raise (.inl hrunning) _ _ _ _ _
  · exact .inl hrunning

/-- A START fails: STOPPED ends RESTARTING (R61, R157). -/
theorem State.HaltLawful.startFailure (h : s.HaltLawful) (hp : s.pacer.state = .starting) (reason : Reason) (number : Nat) :
    (s.startFailure reason number).HaltLawful := by
  have hstopped : ((s.onPacer fun p => { p with start := none, startTimer := none }).setPacerState .stopped).Runs :=
    ((h.settles (by rw [hp]; decide)).onPacer _).setPacerState (.inr rfl) rfl rfl
  exact .inl (hstopped.of_touches (notify_touches _ _))

theorem starting_of_startAwaits {number : Nat} (h : s.startAwaits number = true) : s.pacer.state = .starting := by
  simp only [State.startAwaits, Bool.and_eq_true, beq_iff_eq] at h
  exact h.1

/-- A start record is held in STARTING alone (R55). -/
theorem State.HaltLawful.starting_of_start (h : s.HaltLawful) {r : OrderRecord} (hr : s.pacer.start = some r) :
    s.pacer.state = .starting := by
  by_contra hne
  obtain ⟨hnone, -⟩ := h.start.none_of_state hne
  rw [hnone] at hr
  cases hr

theorem State.HaltLawful.startAck (h : s.HaltLawful) {number : Nat} (hawaits : s.startAwaits number = true) (r : AckResult) :
    (s.startAck number r).HaltLawful := by
  cases r with
  | done => exact h.startDone (starting_of_startAwaits hawaits)
  | refused => exact h.startFailure (starting_of_startAwaits hawaits) .refused number

/-! ## The drive's reports (R62, R63, R76) -/

theorem State.HaltLawful.takeReport (h : s.HaltLawful) (r : DriveReport) : (s.takeReport r).HaltLawful := by
  have hchecked : (s.faultCheck r).HaltLawful := by
    unfold State.faultCheck
    split
    · exact h.raise _ _ _ _ _
    · exact h
  have hrecorded := hchecked.onPacer (f := fun p => { p with report := some r }) hchecked.start id
  unfold State.takeReport
  dsimp only
  split
  · exact (hrecorded.onPacer (f := fun p => { p with watch := .met, stopTimer := none }) hrecorded.start id).haltingCheck
  · exact hrecorded

theorem State.HaltLawful.learnDrive (h : s.HaltLawful) (address : Nat) : (s.learnDrive address).HaltLawful :=
  (h.onPacer (f := fun p => { p with drive := address, report := none }) h.start id).of_touches (notify_touches _ _)

theorem State.HaltLawful.driveFrame (h : s.HaltLawful) (src : Nat) (r : DriveReport) : (s.driveFrame src r).HaltLawful := by
  unfold State.driveFrame
  split
  · exact h.takeReport r
  · split
    · exact (h.learnDrive src).takeReport r
    · exact h

/-! ## The profile interval (R65 to R70, R73), taken in CLEAR alone -/

theorem State.Runs.latchTest (h : s.Runs) : s.latchTest.Runs := by
  unfold State.latchTest
  split
  · split
    · exact h.onPacer h.start
    · exact h
  · exact h

theorem State.Runs.overshootTest (h : s.Runs) : s.overshootTest.Runs := by
  unfold State.overshootTest
  split
  next r c _ _ _ =>
    split
    · exact (h.onPacer (f := fun p => { p with speed := 0, pointStop := some { r with latched := true } }) h.start).of_touches
        (notify_touches _ _)
    · exact h
  · exact h

theorem State.Runs.intervalSpeed (h : s.Runs) : s.intervalSpeed.Runs := by
  have htarget := (h.onPacer (f := fun p => { p with target := s.targetSpeed, profileTimer := some 20 }) h.start).latchTest
  have hstepped := (htarget.onPacer (f := fun p => { p with speed := p.stepped }) htarget.start).overshootTest
  exact hstepped.onPacer hstepped.start

theorem State.Runs.setpointStep (h : s.Runs) : s.setpointStep.Runs := by
  unfold State.setpointStep
  split
  · exact h.queueSetpoint _
  · exact h.onPacer h.start

theorem State.Runs.stoppingEnd (h : s.Runs) : s.stoppingEnd.Runs := by
  unfold State.stoppingEnd
  split
  next hend =>
    obtain ⟨hstopping, -⟩ := hend
    obtain ⟨hstart, htimer⟩ := h.start.none_of_state (by rw [hstopping]; decide)
    exact ((h.queueSetpoint 0).settles.onPacer _).setPacerState (.inr rfl) hstart htimer
  · exact h

theorem State.Runs.interval (h : s.Runs) : s.interval.HaltLawful := by
  have hspeed := h.intervalSpeed
  unfold State.interval State.deviationStep
  split
  · exact State.HaltLawful.raise (.inl hspeed) _ _ _ _ _
  · split
    · exact State.HaltLawful.raise (.inl hspeed) _ _ _ _ _
    · exact .inl hspeed.setpointStep.stoppingEnd

/-- A profile interval is running in CLEAR alone (R148). -/
theorem State.HaltLawful.runs_of_profileTimer (h : s.HaltLawful) (htimer : s.pacer.profileTimer.isSome = true) : s.Runs := by
  rcases h with h | h
  · exact h
  · obtain ⟨-, hnone, -⟩ := h.still
    rw [hnone] at htimer
    cases htimer

/-! ## RUN and STOP (R57 to R59) -/

theorem issueStart_starting_touches (s : State) :
    Touches [.pacer, .seq, .ring, .belt] s (s.issueStart.setPacerState .starting) := by
  rw [setPacerState_starting]
  exact ((issueStart_touches s).andThen (touches_onPacer _ _) (hs := [.pacer, .seq, .ring])).andThen (restartSilence_touches _)

/-- The pacer after a START has been issued and STARTING entered (R60). -/
theorem issueStart_starting_pacer (s : State) : (s.issueStart.setPacerState .starting).pacer =
    { s.pacer with state := .starting, start := some { number := s.freeOrderNumber, transmitted := false } } := by
  rw [setPacerState_pacer]
  rfl

/-- A START takes an order number and leaves the stations as they are (R60, R95). -/
theorem issueStart_starting_stations (s : State) :
    (s.issueStart.setPacerState .starting).seq.stations = s.seq.stations := by
  rw [setPacerState_starting]
  rfl

theorem issueStart_starting_startLaw (s : State) : (s.issueStart.setPacerState .starting).pacer.StartLaw := by
  rw [issueStart_starting_pacer]
  exact ⟨fun hne => absurd rfl hne, nofun⟩

theorem State.Runs.issueStart_starting (h : s.Runs) : (s.issueStart.setPacerState .starting).Runs := by
  have hhalt : (s.issueStart.setPacerState .starting).halt = s.halt := issueStart_starting_touches s .halt (by decide)
  exact ⟨by rw [hhalt, h.clear], by rw [hhalt, h.noneOpen], issueStart_starting_startLaw s⟩

theorem State.HaltLawful.setRunSpeed (h : s.HaltLawful) (speed : Nat) : (s.setRunSpeed speed).HaltLawful := h.onPacer h.start id

theorem runAnswer_state (s : State) (speed : Nat) : (s.runAnswer speed).state = s := by
  unfold State.runAnswer
  split <;> rfl

theorem State.HaltLawful.runBelt (h : s.HaltLawful) (speed : Nat) : (s.runBelt speed).state.HaltLawful := by
  have hset := h.setRunSpeed speed
  unfold State.runBelt
  split
  next hstopped =>
    split
    · exact h
    · split
      · exact h
      · rw [runAnswer_state]
        exact .inl ((h.runs_of_pacer (by rw [hstopped]; decide) (by rw [hstopped]; decide)).onPacer h.start).issueStart_starting
  · rw [runAnswer_state]; exact hset
  · rw [runAnswer_state]; exact hset
  · rw [runAnswer_state]; exact hset
  next hstopping =>
    rw [runAnswer_state]
    obtain ⟨hstart, htimer⟩ := h.start.none_of_state (by rw [hstopping]; decide)
    have hsettles : (s.setRunSpeed speed).Settles := (h.settles (by rw [hstopping]; decide)).onPacer _
    exact State.HaltLawful.exitBlockedCheck (.inl (hsettles.setPacerState (.inl rfl) hstart htimer))
  · exact h

/-- An abandoned start leaves no record and no timer, and the halt state alone (R59). -/
theorem abandonStart_parts (h : s.pacer.StartLaw) :
    s.abandonStart.halt = s.halt ∧ s.abandonStart.pacer.start = none ∧ s.abandonStart.pacer.startTimer = none := by
  obtain ⟨-, htimer⟩ := h
  refine ⟨abandonStart_touches s .halt (by decide), ?_⟩
  unfold State.abandonStart
  split
  next hnone => exact ⟨hnone, htimer hnone⟩
  next r _ =>
    dsimp only
    split
    · exact ⟨rfl, rfl⟩
    · exact ⟨rfl, rfl⟩

theorem State.HaltLawful.stopBelt (h : s.HaltLawful) : s.stopBelt.HaltLawful := by
  have hpoint (hhalted : s.pacer.state ≠ .halted) (hstarting : s.pacer.state ≠ .starting) :
      ((s.onPacer fun p => { p with pointStop := none }).setPacerState .stopping).HaltLawful :=
    .inl (((h.runs_of_pacer hhalted hstarting).onPacer h.start).setPacerState_between (.inr rfl) hstarting)
  unfold State.stopBelt
  split
  next hrunning => exact hpoint (by rw [hrunning]; decide) (by rw [hrunning]; decide)
  next hstop => exact hpoint (by rw [hstop]; decide) (by rw [hstop]; decide)
  next hstarting =>
    obtain ⟨hhalt, hstart, htimer⟩ := abandonStart_parts h.start
    exact .inl (((h.settles (by rw [hstarting]; decide)).of_halt hhalt).setPacerState (.inr rfl) hstart htimer)
  · exact h.onPacer h.start id
  · exact h
  · exact h

/-! ## RESUME and TUNNEL RESET (R77, R78, R156, R159) -/

/-- A START issued in RESTARTING, from a belt at rest (R77). -/
theorem rests_of_issueStart_starting (hrestarting : s.halt.state = .restarting) (hone : openCount s.halt.log = 1)
    (hspeed : s.pacer.speed = 0) (hprofile : s.pacer.profileTimer = none) (hcall : s.gate.phase.inCall = false)
    (hquiet : ∀ i : StationId, s.seq.stations[i].quiet = true) : (s.issueStart.setPacerState .starting).Rests := by
  have hhalt : (s.issueStart.setPacerState .starting).halt = s.halt := issueStart_starting_touches s .halt (by decide)
  have hgate : (s.issueStart.setPacerState .starting).gate = s.gate := issueStart_starting_touches s .gate (by decide)
  refine ⟨by rw [hhalt, hrestarting]; decide, by rw [hhalt, hone], issueStart_starting_startLaw s, ?_, by rw [hgate, hcall],
    by rwa [issueStart_starting_stations]⟩
  rw [hhalt, hrestarting, issueStart_starting_pacer]
  exact ⟨hspeed, hprofile, rfl⟩

/-- A RESUME in HALTED: STARTING with a START, or STOPPED, which ends RESTARTING at once (R77, R156, R157). -/
theorem State.Rests.restart (h : s.Rests) (hhalted : s.halt.state = .halted) : s.restart.HaltLawful := by
  obtain ⟨-, hone, hlaw, ⟨hspeed, hprofile, hstate⟩, hcall, hquiet⟩ := h
  rw [hhalted] at hstate
  obtain ⟨hstart, htimer⟩ := hlaw.none_of_state (by rw [hstate]; decide)
  unfold State.restart State.pacerRestart
  rw [setHaltState_eq (by decide)]
  dsimp only
  split
  · exact .inr (rests_of_issueStart_starting rfl hone hspeed hprofile hcall hquiet)
  · exact .inl (State.Settles.setPacerState (.inr rfl) (.inr rfl) hstart htimer)

/-- The hand-over of a record does not touch the Halt Controller (R133). -/
theorem handOver_touches_of_close (s : State) (tag : Nat) (reason : CloseReason) :
    Touches [.tallies, .office, .cars, .seq, .gate, .ring] s (s.handOver tag reason) := by
  unfold State.handOver
  split
  · exact Touches.refl _ s
  · exact ((washClose_touches s _ reason).andThen (touches_onCars _ _) (hs := [.tallies, .office, .cars])).andThen
      (admissionCheck_touches _)

/-- At TUNNEL RESET a car is closed without an order, and so without a halting check (R108). -/
theorem closeCar_tunnelReset_touches (s : State) (tag : Nat) :
    Touches [.tallies, .office, .cars, .seq, .gate, .ring] s (s.closeCar tag .tunnelReset) :=
  ((dropCar_touches s tag).andThen (missUnsettled_touches _ tag) (hs := [.cars, .seq])).andThen
    (handOver_touches_of_close _ tag .tunnelReset)

theorem pacerReset_halt (hr : s.halt.state ≠ .restarting) : s.pacerReset.halt = s.halt :=
  setPacerState_halt (s := s.onPacer _) (by decide) hr

theorem pacerReset_pacer_startLaw (s : State) : s.pacerReset.pacer.StartLaw := by
  unfold State.pacerReset
  rw [setPacerState_pacer]
  exact Pacer.startLaw_of_none rfl rfl

theorem runs_of_setHaltState_clear (hnone : openCount s.halt.log = 0) (hstart : s.pacer.StartLaw) :
    (s.setHaltState .clear).Runs := by
  have hpacer : (s.setHaltState .clear).pacer = s.pacer := setHaltState_touches s .clear .pacer (by decide)
  exact ⟨by rw [setHaltState_halt], by rwa [setHaltState_halt], by rwa [hpacer]⟩

/-- The Halt Controller's part of a TUNNEL RESET leaves CLEAR with every incident closed (R159). -/
theorem haltReset_runs (hlog : s.halt.state = .halted ∨ openCount s.halt.log = 0) (hstart : s.pacer.StartLaw) :
    s.haltReset.Runs := by
  unfold State.haltReset
  dsimp only
  refine runs_of_setHaltState_clear ?_ ?_
  · simp only [State.onRing_halt, State.onHalt_halt]
    split
    next => exact closeIncident_openCount s .reset
    next hno => exact hlog.resolve_left hno
  · simp only [State.onRing_pacer, State.onHalt_pacer]
    split
    · have hpacer : (s.closeIncident .reset).pacer = s.pacer := closeIncident_touches s .reset .pacer (by decide)
      rwa [hpacer]
    · exact hstart

/-- A TUNNEL RESET is taken in CLEAR or HALTED and leaves CLEAR (R158, R159). -/
theorem State.HaltLawful.resetTunnel (h : s.HaltLawful) (hr : s.resetRefusal = none) : s.resetTunnel.Runs := by
  have htaken : s.halt.state = .halted ∨ s.halt.state = .clear := by
    cases hstate : s.halt.state <;> simp [State.resetRefusal, hstate] at hr ⊢
  have hclosed : (s.tags.foldl (fun s tag => s.closeCar tag .tunnelReset) s).halt = s.halt :=
    Touches.foldl closeCar_tunnelReset_touches s.tags s .halt (by decide)
  unfold State.resetTunnel
  generalize s.tags.foldl (fun s tag => s.closeCar tag .tunnelReset) s = u at hclosed
  have hreset : u.sequencerReset.pacerReset.halt = s.halt := by
    rw [pacerReset_halt (s := u.sequencerReset)]
    · exact hclosed
    · rw [show u.sequencerReset.halt = s.halt from hclosed]
      rcases htaken with e | e
      · rw [e]; decide
      · rw [e]; decide
  have hlaw := pacerReset_pacer_startLaw u.sequencerReset
  dsimp only
  generalize u.sequencerReset.pacerReset = v at hreset hlaw
  refine haltReset_runs ?_ hlaw
  simp only [State.onRing_halt, State.onGate_halt, hreset]
  refine htaken.imp_right fun hclear => ?_
  rcases h with h | h
  · exact h.noneOpen
  · exact absurd hclear h.notClear

end Sys2Proof.Machine
end

section
/-! The halt law through the Entry Gate (03), the belt advance (R4), the eye edges (R12) and the passing of time (log 1). -/

set_option Elab.async false

namespace Sys2Proof.Machine

variable {s : State}

theorem State.HaltLawful.rollerFault (h : s.HaltLawful) (reason : Reason) : (s.rollerFault reason).HaltLawful := by
  unfold State.rollerFault
  split
  · exact h
  · exact ((h.of_touches (notify_touches s _)).onGate (f := fun g => { g with isOpen := false }) id).finishCall

/-- A roller that takes its call is ROLLING, in CLEAR alone (R45). -/
theorem State.HaltLawful.callAck (h : s.HaltLawful) {number : Nat} {transmitted : Bool}
    (hawaits : s.callAwaits number transmitted = true) (r : AckResult) : (s.callAck r).HaltLawful := by
  cases r with
  | done =>
    simp only [State.callAwaits, Bool.and_eq_true, beq_iff_eq] at hawaits
    obtain ⟨hcalling, -⟩ := hawaits
    refine h.onGate (f := fun g => { g with phase := .rolling, ackTimer := none }) fun hno => ?_
    rw [hcalling] at hno
    cases hno
  | refused => exact h.rollerFault .refused

theorem State.HaltLawful.reachTest (h : s.HaltLawful) : s.reachTest.HaltLawful := by
  unfold State.reachTest
  split
  · split
    · exact (h.of_touches (notify_touches s _)).finishCall
    · exact h
  · exact h

theorem State.HaltLawful.blockAdvance (h : s.HaltLawful) (b : Block) : (s.blockAdvance b).HaltLawful := by
  cases b with
  | track => exact h.trackAdvance
  | sequencer => exact h.sequencerAdvance
  | gate => exact (h.onGate id).reachTest.admissionCheck
  | pacer => exact h.exitBlockedCheck

/-- A belt advance keeps the law in every order of the blocks (R4, log 3). -/
theorem State.HaltLawful.beltAdvance (h : s.HaltLawful) : s.beltAdvance.HaltLawful := by
  obtain ⟨o, ho⟩ := beltAdvance_eq s
  rw [ho]
  have hadvanced : (s.advanceIn o).HaltLawful := h.foldl (fun _ b h => h.blockAdvance b) (blockOrder o)
  exact hadvanced.of_touches (onChoices_touches _ _)

theorem State.HaltLawful.sample (h : s.HaltLawful) (r : BitVec 16) : (s.sample r).HaltLawful := by
  have hseen := (h.of_touches (touches_onBelt s fun b => { b with lastRaw := some r })).of_touches (restartSilence_touches _)
  unfold State.sample
  dsimp only
  split
  · exact hseen
  · split
    · exact hseen
    · split
      · exact (hseen.of_touches (touches_onBelt _ _)).beltAdvance
      · exact hseen.raise _ _ _ _ _

/-! ## Eye edges (R12) -/

theorem afterLoading_inCall (p : GatePhase) (on : Bool) : (p.afterLoading on).inCall = p.inCall := by
  cases p <;> cases on <;> rfl

theorem State.HaltLawful.loadingEdge (h : s.HaltLawful) (on : Bool) : (s.loadingEdge on).HaltLawful :=
  (h.onGate (f := fun g => { g with phase := g.phase.afterLoading on }) fun hno =>
    (afterLoading_inCall s.gate.phase on).trans hno).admissionCheck

theorem State.HaltLawful.deliverEdge (h : s.HaltLawful) (e : Fin 10) (on : Bool) : (s.deliverEdge e on).HaltLawful := by
  unfold State.deliverEdge
  split
  · exact h.loadingEdge on
  · split
    · exact h.entryOn
    · exact h.of_touches (entryOff_touches s)
  · split
    · exact h.exitOn
    · exact h.exitOff
  · unfold State.zoneEdge
    split
    · exact h.exitBlockedCheck
    · exact h.exitZoneClear
  · split
    · exact h.trackingOn _
    · exact h

theorem State.HaltLawful.eyeReport (h : s.HaltLawful) (e : Fin 10) (level : Nat) : (s.eyeReport e level).HaltLawful := by
  unfold State.eyeReport
  dsimp only
  split
  · exact h
  · exact (h.of_touches (touches_onEyes s _)).deliverEdge e _

/-! ## The passing of time (log 1) -/

theorem countDown_eq_none_iff {t : Option Nat} : countDown t = none ↔ t = none := by simp [countDown]

/-- A millisecond runs timers down and starts or stops none. -/
theorem State.HaltLawful.millisecond (h : s.HaltLawful) : s.millisecond.HaltLawful := by
  have hstart : s.millisecond.pacer.StartLaw := by
    obtain ⟨hstart, htimer⟩ := h.start
    exact ⟨hstart, fun hnone => countDown_eq_none_iff.2 (htimer hnone)⟩
  rcases h with ⟨hclear, hnone, -⟩ | ⟨hclear, hone, -, ⟨hspeed, hprofile, hstate⟩, hcall, hquiet⟩
  · exact .inl ⟨hclear, hnone, hstart⟩
  · refine .inr ⟨hclear, hone, hstart, ⟨hspeed, countDown_eq_none_iff.2 hprofile, hstate⟩, hcall, fun i => ?_⟩
    have hstation : s.millisecond.seq.stations[i] = { s.seq.stations[i] with timer := countDown s.seq.stations[i].timer } := by
      simp [State.millisecond]
    rw [hstation]
    exact hquiet i

theorem State.HaltLawful.tick (h : s.HaltLawful) : s.tick.HaltLawful := by
  unfold State.tick
  split
  · exact h
  · split
    · exact h.millisecond
    · exact (h.of_touches (touches_onPending s _)).of_touches (onChoices_touches _ _)

end Sys2Proof.Machine
end


section
/-! The halt law through the table writes (R180): they change tables, and what the law names only by what the gate and the pacer
then do. -/

set_option Elab.async false

namespace Sys2Proof.Machine

variable {s : State}

/-! ## STATION and ALIAS (R88, R89, R91) -/

/-- A STATION write is refused, or stores an entry (R88). -/
theorem writeStation_state (s : State) (w : StationWrite) :
    (s.writeStation w).state = s ∨ ∃ i e, (s.writeStation w).state = s.storeStation i e := by
  unfold State.writeStation
  split
  · exact .inl rfl
  · split
    · exact .inl rfl
    · split
      · exact .inl rfl
      · split
        · exact .inl rfl
        · split
          · exact .inl rfl
          · split
            · exact .inl rfl
            · split
              · exact .inl rfl
              · exact .inr ⟨_, _, rfl⟩

theorem State.HaltLawful.writeStation (h : s.HaltLawful) (w : StationWrite) : (s.writeStation w).state.HaltLawful := by
  rcases writeStation_state s w with hw | ⟨i, e, hw⟩
  · rwa [hw]
  · have hstored := h.of_touches (touches_onMap s fun m => { m with table := m.table.set i e })
    rw [hw]
    unfold State.storeStation
    dsimp only
    split
    · exact hstored
    · exact hstored.onStation i id

theorem State.HaltLawful.writeAlias (h : s.HaltLawful) (w : Nat × Nat) : (s.writeAlias w).state.HaltLawful := by
  unfold State.writeAlias
  split
  · exact h
  next i _ =>
    split
    · exact h
    · split
      · exact h
      · split
        · exact h
        · have hstored := h.of_touches (touches_onMap s fun m => { m with aliases := m.aliases.set i w.2 })
          show (s.storeAlias i w.2).HaltLawful
          unfold State.storeAlias
          dsimp only
          split
          · exact hstored.onStation i id
          · exact hstored

/-! ## PLAN, OPTION, CODE, PASS, TRACK, TIMING, ARBITER (R7, R80, R117 to R119, R171, R173) -/

/-- A taken write touches what its store touches. -/
theorem stored_touches {fs : List Field} {t : State} (h : Touches fs s t) (clamped : Bool) (data : List Byte) :
    Touches fs s (t.stored clamped data).state := h

theorem storePlan_touches (s : State) (k : Fin 16) (p : Plan) : Touches [.book] s (s.storePlan k p) := touches_onBook s _

theorem writePlan_touches (s : State) (w : PlanWrite) : Touches [.book] s (s.writePlan w).state := by
  unfold State.writePlan
  split
  · exact Touches.refl _ s
  · split
    · exact stored_touches (storePlan_touches s _ _) _ _
    · split
      · exact Touches.refl _ s
      · split
        · exact Touches.refl _ s
        · exact stored_touches (storePlan_touches s _ _) _ _

theorem writeOption_touches (s : State) (w : Nat × OptionEntry) : Touches [.book] s (s.writeOption w).state := by
  unfold State.writeOption
  split
  · exact Touches.refl _ s
  · exact stored_touches (touches_onBook s _) _ _

theorem writeCode_touches (s : State) (w : CodeWrite) : Touches [.book] s (s.writeCode w).state := by
  unfold State.writeCode
  split
  · exact Touches.refl _ s
  · split
    · exact stored_touches (touches_onBook s _) _ _
    · exact Touches.refl _ s

theorem writePass_touches (s : State) (w : PassWrite) : Touches [.office] s (s.writePass w).state := by
  unfold State.writePass
  split
  · exact Touches.refl _ s
  · split
    · exact Touches.refl _ s
    · split
      · exact stored_touches (touches_onOffice s _) _ _
      · exact Touches.refl _ s

theorem writeTrack_touches (s : State) (w : TrackWrite) : Touches [.track, .map] s (s.writeTrack w).state := by
  unfold State.writeTrack
  split
  · exact Touches.refl _ s
  · dsimp only
    split
    · exact Touches.refl _ s
    · split
      · exact Touches.refl _ s
      · exact ((touches_onTrack s _).mono (by decide)).ite ((touches_onTrack s _).andThen (touches_onMap _ _))

theorem writeTiming_touches (s : State) (w : Nat × Timing) : Touches [.timing] s (s.writeTiming w).state := by
  unfold State.writeTiming
  split
  · exact Touches.refl _ s
  · exact stored_touches (touches_onTiming s _) _ _

theorem writeArbiter_touches (s : State) (w : Nat × Nat × Nat × Nat) : Touches [.ring] s (s.writeArbiter w).state := by
  unfold State.writeArbiter
  split
  · exact Touches.refl _ s
  · exact stored_touches (touches_onRing s _) _ _

/-! ## EYE, PACING, GATE, NODE (R9, R53, R79, R181) -/

theorem State.HaltLawful.eyeRewritten (h : s.HaltLawful) (k : Fin 10) : (s.eyeRewritten k).HaltLawful := by
  unfold State.eyeRewritten
  split
  · exact h.loadingEdge false
  · exact h.exitZoneClear
  · exact h

theorem State.HaltLawful.writeEye (h : s.HaltLawful) (w : EyeWrite) : (s.writeEye w).state.HaltLawful := by
  unfold State.writeEye
  split
  · exact h
  next k _ =>
    split
    · exact h
    · split
      · exact h
      · split
        · dsimp only
          split
          · exact (h.of_touches (touches_onEyes s _)).eyeRewritten k
          · exact h
        · exact h

/-- A PACING write changes parameters alone (R79). -/
theorem State.HaltLawful.writePacing (h : s.HaltLawful) (w : PacingWrite) : (s.writePacing w).state.HaltLawful := by
  unfold State.writePacing
  split
  · exact h
  · exact h.onPacer (f := fun _ => (w.raw s.pacer).clamped) h.start id

/-- A GATE write changes parameters alone, and is an admission check (R53). -/
theorem State.HaltLawful.writeGate (h : s.HaltLawful) (w : GateWrite) : (s.writeGate w).state.HaltLawful := by
  unfold State.writeGate
  split
  · exact h
  · split
    · exact h
    next unsold _ => exact (h.onGate (f := fun _ => (w.raw s.gate unsold).clamped) id).admissionCheck

theorem State.HaltLawful.storeNodes (h : s.HaltLawful) (w : NodeWrite) : (s.storeNodes w).HaltLawful := by
  have hencoder : (if w.mask.getLsbD 0 then s.storeEncoder w.encoder else s).HaltLawful := by
    split
    · exact h.of_touches ((Touches.refl [.belt] s).ite (touches_onBelt s _))
    · exact h
  have hdrive {u : State} (hu : u.HaltLawful) : (if w.mask.getLsbD 1 then u.storeDrive w.drive else u).HaltLawful := by
    split
    · exact hu.onPacer hu.start id
    · exact hu
  have hroller {u : State} (hu : u.HaltLawful) :
      (if w.mask.getLsbD 2 then u.onGate fun g => { g with roller := w.roller } else u).HaltLawful := by
    split
    · exact hu.onGate id
    · exact hu
  have hoffice {u : State} (hu : u.HaltLawful) :
      (if w.mask.getLsbD 3 then u.onOffice fun o => { o with address := w.office } else u).HaltLawful :=
    hu.of_touches ((touches_onOffice u _).ite (Touches.refl _ u))
  exact hoffice (hroller (hdrive hencoder))

theorem State.HaltLawful.writeNodes (h : s.HaltLawful) (w : NodeWrite) : (s.writeNodes w).state.HaltLawful := by
  unfold State.writeNodes
  split
  · exact h
  · split
    · exact h
    · exact h.storeNodes w

/-! ## TABLE WRITE by identifier (R180) -/

/-- A write with the operands of its table is a write of that table. -/
theorem writeWith_state {α : Type} {operands : Option α} {write : State → α → Answer} {g : State → Answer}
    (hg : writeWith operands write = some g) (hw : ∀ w, (write s w).state.HaltLawful) : (g s).state.HaltLawful := by
  obtain ⟨w, -, rfl⟩ := Option.map_eq_some_iff.1 hg
  exact hw w

theorem State.HaltLawful.tableWrite (h : s.HaltLawful) {operands : List Byte} {write : State → Answer}
    (hw : tableWriteOperands operands = some write) : (write s).state.HaltLawful := by
  cases operands with
  | nil => cases hw
  | cons table rest =>
    simp only [tableWriteOperands] at hw
    split at hw
    · exact writeWith_state hw h.writeStation
    · exact writeWith_state hw h.writeAlias
    · exact writeWith_state hw fun w => h.of_touches (writePlan_touches s w)
    · exact writeWith_state hw fun w => h.of_touches (writeOption_touches s w)
    · exact writeWith_state hw fun w => h.of_touches (writeCode_touches s w)
    · exact writeWith_state hw h.writeEye
    · exact writeWith_state hw fun w => h.of_touches (writePass_touches s w)
    · exact writeWith_state hw h.writePacing
    · exact writeWith_state hw h.writeGate
    · exact writeWith_state hw fun w => h.of_touches (writeTrack_touches s w)
    · exact writeWith_state hw fun w => h.of_touches (writeTiming_touches s w)
    · exact writeWith_state hw fun w => h.of_touches (writeArbiter_touches s w)
    · exact writeWith_state hw h.writeNodes
    · split at hw
      · cases hw
      · cases hw
        exact h

end Sys2Proof.Machine
end

section
/-! The halt law through every command, and through the step: O57. -/

set_option Elab.async false

namespace Sys2Proof.Machine

variable {s : State}

/-! ## The forms of a command -/

/-- Every state an outcome leads to keeps the law. -/
def KeepsHaltLaw (o : Host.Outcome State Fault Refusal) : Prop := ∀ t, o = .next t → t.HaltLawful

theorem keepsHaltLaw_next (h : s.HaltLawful) : KeepsHaltLaw (.next s) := by
  rintro t ⟨⟩
  exact h

theorem keepsHaltLaw_live (h : s.HaltLawful) {effect : State → State} (he : (effect s).HaltLawful) :
    KeepsHaltLaw (live s effect) := by
  refine keepsHaltLaw_next ?_
  split
  · exact h
  · exact he.of_touches (officeKick_touches _)

theorem keepsHaltLaw_ringFrame {α : Type} (h : s.HaltLawful) {accepted : Bool} {form : Option α} {effect : State → α → State}
    (he : ∀ x, (effect s x).HaltLawful) : KeepsHaltLaw (ringFrame s accepted form effect) := by
  refine keepsHaltLaw_live h ?_
  split
  · exact he _
  · exact h

theorem keepsHaltLaw_terminalRequest {α : Type} (h : s.HaltLawful) {hd : Head} {form : Option α}
    {effect : State → Fin 15 → α → State} (he : ∀ k x, (effect s k x).HaltLawful) :
    KeepsHaltLaw (terminalRequest s hd form effect) := by
  refine keepsHaltLaw_live h ?_
  split
  · split
    · exact h
    · split
      · exact h.of_touches (touches_onOffice s _)
      · exact he _ _
  · exact h

theorem keepsHaltLaw_request {α : Type} (h : s.HaltLawful) {hd : Head} {code : Nat} {operands : Option α}
    {effect : State → α → Answer} (he : ∀ x, operands = some x → (effect s x).state.HaltLawful) :
    KeepsHaltLaw (request s hd code operands effect) := by
  refine keepsHaltLaw_live h ?_
  split
  · exact h
  · split
    · exact h.of_touches (touches_onOffice s _)
    · split
      · exact h
      · exact (he _ rfl).of_touches (reply_touches _ _ _)

/-! ## Pins (R152, R175, R176) -/

/-- A part held or released by RST stands in CLEAR with an empty log (R132, R141). -/
theorem powerOn_runs {t : State} (hstate : t.halt.state = .clear) (hlog : t.halt.log = []) (hpacer : t.pacer = {}) : t.Runs :=
  ⟨hstate, by rw [hlog]; rfl, by rw [hpacer]; exact Pacer.startLaw_of_none rfl rfl⟩

theorem execRstRelease_keeps (straps : BitVec 3) (estop : Level) (s : State) : KeepsHaltLaw (execRstRelease straps estop s) := by
  have hreleased : (s.released straps estop).HaltLawful := .inl (powerOn_runs rfl rfl rfl)
  refine keepsHaltLaw_next (State.HaltLawful.of_touches (s := (s.released straps estop).firstBroadcast estop) ?_
    (officeKick_touches _))
  cases estop with
  | asserted => exact hreleased.raise _ _ _ _ _
  | released =>
    exact hreleased.of_touches (touches_onRing _ fun r => r.periodic (s.released straps .released).halt.state)

theorem execEstopAssert_keeps (h : s.HaltLawful) : KeepsHaltLaw (execEstopAssert s) := by
  refine keepsHaltLaw_live h ?_
  split
  · exact h
  · exact (h.onHalt (f := fun b => { b with estop := .asserted }) rfl rfl).raise _ _ _ _ _

theorem State.HaltLawful.setOhold (h : s.HaltLawful) (level : Level) : (s.setOhold level).HaltLawful :=
  (h.of_touches (touches_onPins s _)).of_touches (officeKick_touches _)

/-! ## Frames from the ring (R165, R166) -/

theorem execEnc_keeps (h : s.HaltLawful) (hd : Head) (payload : List Byte) : KeepsHaltLaw (execEnc hd payload s) := by
  refine keepsHaltLaw_ringFrame h fun r => ?_
  split
  · exact h.sample r
  · exact h

theorem execEye_keeps (h : s.HaltLawful) (hd : Head) (payload : List Byte) : KeepsHaltLaw (execEye hd payload s) := by
  refine keepsHaltLaw_ringFrame h fun r => ?_
  split
  · exact h
  · exact h.eyeReport _ _

theorem execArmState_keeps (h : s.HaltLawful) (hd : Head) (payload : List Byte) : KeepsHaltLaw (execArmState hd payload s) := by
  refine keepsHaltLaw_ringFrame h fun r => ?_
  split
  · exact h
  · exact h.armReport _ _ _

/-- An acknowledgment goes to a station, to the gate or to the pacer (R165). -/
theorem execOrderAck_keeps (h : s.HaltLawful) (hd : Head) (payload : List Byte) : KeepsHaltLaw (execOrderAck hd payload s) := by
  refine keepsHaltLaw_ringFrame h fun r => ?_
  split
  · exact h.stationAck _ r
  · split
    next hcall =>
      obtain ⟨-, hawaits⟩ := hcall
      exact h.callAck hawaits r
    next =>
      split
      next hstart =>
        obtain ⟨-, hawaits⟩ := hstart
        exact h.startAck hawaits r
      next => exact h

theorem execMaintReply_keeps (h : s.HaltLawful) (hd : Head) (payload : List Byte) :
    KeepsHaltLaw (execMaintReply hd payload s) := by
  refine keepsHaltLaw_ringFrame h fun data => ?_
  split
  · exact h.of_touches (reply_touches s _ _)
  · exact h

theorem execReturnedOrder_keeps (h : s.HaltLawful) (hd : Head) (payload : List Byte) :
    KeepsHaltLaw (execReturnedOrder hd payload s) := by
  refine keepsHaltLaw_ringFrame h fun _ => ?_
  split
  · exact h.failOrder _ .returned
  · split
    · exact h.rollerFault .returned
    · split
      next hawaits => exact h.startFailure (starting_of_startAwaits hawaits) .returned hd.order
      next => exact h

theorem execReturnedSetpoint_keeps (h : s.HaltLawful) (hd : Head) (payload : List Byte) :
    KeepsHaltLaw (execReturnedSetpoint hd payload s) := by
  refine keepsHaltLaw_ringFrame h fun _ => ?_
  split
  · exact h.raise _ _ _ _ _
  · exact h

theorem execBroadcastReturn_keeps (h : s.HaltLawful) (hd : Head) (payload : List Byte) :
    KeepsHaltLaw (execBroadcastReturn hd payload s) := by
  refine keepsHaltLaw_ringFrame h fun _ => ?_
  split
  · exact h.of_touches (touches_onRing s _)
  · exact h

theorem execBadFrame_keeps (h : s.HaltLawful) (port : Port) : KeepsHaltLaw (execBadFrame port s) := by
  refine keepsHaltLaw_live h ?_
  cases port with
  | ring => exact h.of_touches (touches_onRing s _)
  | office => exact h.of_touches (touches_onOffice s _)

/-! ## Ends of transmission (R169, R175) -/

theorem State.HaltLawful.ringFinish (h : s.HaltLawful) : s.ringFinish.HaltLawful := h.of_touches (touches_onRing s _)

theorem State.HaltLawful.callSent (h : s.HaltLawful) (number : Nat) : (s.callSent number).HaltLawful := by
  unfold State.callSent
  split
  · exact h.onGate id
  · exact h

theorem execCallTransmitted_keeps (h : s.HaltLawful) : KeepsHaltLaw (execCallTransmitted s) := by
  refine keepsHaltLaw_live h ?_
  split
  next => exact (h.callSent _).ringFinish
  next => exact h

/-- The start timer begins to run with the record it is for (R60). -/
theorem State.HaltLawful.startSent (h : s.HaltLawful) (number : Nat) : (s.startSent number).HaltLawful := by
  unfold State.startSent
  split
  next hnumber =>
    obtain ⟨r, hr, -⟩ := Option.map_eq_some_iff.1 hnumber
    exact h.onPacer ⟨fun hne => absurd (h.starting_of_start hr) hne, nofun⟩ id
  next => exact h

theorem execStartTransmitted_keeps (h : s.HaltLawful) : KeepsHaltLaw (execStartTransmitted s) := by
  refine keepsHaltLaw_live h ?_
  split
  next => exact (h.startSent _).ringFinish
  next => exact h

theorem State.HaltLawful.orderSent (h : s.HaltLawful) (number : Nat) : (s.orderSent number).HaltLawful := by
  unfold State.orderSent
  split
  · exact h
  next i _ =>
    refine h.onStation i fun hquiet => Station.quiet_current hquiet fun o ho => ?_
    obtain ⟨old, hold, rfl⟩ := Option.map_eq_some_iff.1 ho
    exact ⟨old, hold, rfl⟩

theorem execStationOrderTransmitted_keeps (h : s.HaltLawful) : KeepsHaltLaw (execStationOrderTransmitted s) := by
  refine keepsHaltLaw_live h ?_
  split
  · split
    · exact (h.orderSent _).ringFinish
    · exact h
  · exact h

theorem execBroadcastTransmitted_keeps (h : s.HaltLawful) : KeepsHaltLaw (execBroadcastTransmitted s) := by
  refine keepsHaltLaw_live h ?_
  split
  next stamp _ =>
    have hsent : (s.broadcastSent stamp).HaltLawful := h.of_touches (touches_onRing s _)
    exact hsent.ringFinish
  next => exact h

theorem execRingFrameTransmitted_keeps (h : s.HaltLawful) : KeepsHaltLaw (execRingFrameTransmitted s) := by
  refine keepsHaltLaw_live h ?_
  split
  · exact h.ringFinish
  · exact h.ringFinish
  · exact h.ringFinish
  · exact h

/-! ## Requests of the terminals and the office MAINT (R120 to R126, R173) -/

theorem makeQuote_touches (s : State) (k : Fin 15) (x : Offer) : Touches [.book] s (s.makeQuote k x) := by
  unfold State.makeQuote
  exact (clearQuote_touches s k).andThen (touches_onBook _ _)

theorem execQuoteReq_keeps (h : s.HaltLawful) (hd : Head) (payload : List Byte) : KeepsHaltLaw (execQuoteReq hd payload s) := by
  refine keepsHaltLaw_terminalRequest h fun k r => ?_
  split
  · exact h.of_touches (reply_touches s _ _)
  next x _ =>
    exact (h.of_touches (makeQuote_touches s k x)).of_touches (reply_touches _ _ _)

theorem execCloseReq_keeps (h : s.HaltLawful) (hd : Head) (payload : List Byte) : KeepsHaltLaw (execCloseReq hd payload s) := by
  refine keepsHaltLaw_terminalRequest h fun k r => ?_
  split
  · exact h.of_touches (reply_touches s _ _)
  next q _ =>
    split
    · exact h.of_touches (reply_touches s _ _)
    · have hclosed : (s.closeQuote k q r.2).HaltLawful :=
        ((h.of_touches (clearQuote_touches s k)).of_touches (touches_onBook _ _)).admissionCheck
      exact hclosed.of_touches (reply_touches _ _ _)

theorem execDropReq_keeps (h : s.HaltLawful) (hd : Head) (payload : List Byte) : KeepsHaltLaw (execDropReq hd payload s) := by
  refine keepsHaltLaw_terminalRequest h fun k number => ?_
  split
  · exact h.of_touches (reply_touches s _ _)
  · exact (h.of_touches (clearQuote_touches s k)).of_touches (reply_touches _ _ _)

theorem execMaint_keeps (h : s.HaltLawful) (hd : Head) (payload : List Byte) : KeepsHaltLaw (execMaint hd payload s) := by
  refine keepsHaltLaw_live h ?_
  split
  · split
    · exact h
    · split
      · exact h.of_touches (touches_onOffice s _)
      · split
        · exact h.of_touches (reply_touches s _ _)
        · exact h.of_touches (touches_onRing s _)
  · exact h

/-! ## Management requests (R48, R49, R113, R129, R139, R154 to R159, R179, R183) -/

@[simp] theorem done_state (s : State) : s.done.state = s := rfl

theorem readTable_state (s : State) (table index part : Nat) : (s.readTable table index part).state = s := by
  unfold State.readTable
  split
  · rfl
  · split <;> rfl

theorem readTally_state (s : State) (plan : Nat) : (s.readTally plan).state = s := by
  unfold State.readTally
  split <;> rfl

theorem opened_inCall (p : GatePhase) (loading : Bool) : (p.opened loading).inCall = p.inCall := by
  cases p <;> cases loading <;> rfl

theorem shut_inCall (p : GatePhase) : p.shut.inCall = p.inCall := by cases p <;> rfl

theorem State.HaltLawful.openGate (h : s.HaltLawful) : s.openGate.state.HaltLawful := by
  unfold State.openGate
  split
  · exact h
  · exact (h.onGate (f := fun g => { g with isOpen := true, phase := g.phase.opened s.loadingOn }) fun hno =>
      (opened_inCall _ _).trans hno).admissionCheck

theorem State.HaltLawful.closeGate (h : s.HaltLawful) : s.closeGate.HaltLawful :=
  h.onGate (f := fun g => { g with isOpen := false, phase := g.phase.shut }) fun hno => (shut_inCall _).trans hno

/-- An acknowledged incident is still open (R149, R154). -/
theorem State.HaltLawful.acknowledge (h : s.HaltLawful) : s.acknowledge.state.HaltLawful := by
  unfold State.acknowledge
  split
  · exact h
  · split
    · exact h.changeIncident fun _ => rfl
    · exact h

theorem halted_of_resumeRefusal (h : s.resumeRefusal = none) : s.halt.state = .halted := by
  by_contra hne
  rw [State.resumeRefusal, if_pos hne] at h
  cases h

/-- A RESUME is taken in HALTED alone (R155). -/
theorem State.HaltLawful.restart (h : s.HaltLawful) (hr : s.resumeRefusal = none) : s.restart.HaltLawful := by
  have hhalted := halted_of_resumeRefusal hr
  rcases h with h | h
  · rw [h.clear] at hhalted
    cases hhalted
  · exact h.restart hhalted

theorem execResume_keeps (h : s.HaltLawful) (hd : Head) (operands : List Byte) : KeepsHaltLaw (execResume hd operands s) := by
  refine keepsHaltLaw_request h fun _ _ => ?_
  split
  · exact h
  next hr => exact h.restart hr

theorem execTunnelReset_keeps (h : s.HaltLawful) (hd : Head) (operands : List Byte) :
    KeepsHaltLaw (execTunnelReset hd operands s) := by
  refine keepsHaltLaw_request h fun _ _ => ?_
  split
  · exact h
  next hr =>
    rw [done_state]
    exact .inl (h.resetTunnel hr)

theorem State.HaltLawful.clearStation (h : s.HaltLawful) (index : Nat) : (s.clearStation index).state.HaltLawful := by
  unfold State.clearStation
  split
  · dsimp only
    split
    · exact h
    · split
      · exact h
      · exact h.setStationPhase _ nofun nofun
  · exact h

theorem done_touches {fs : List Field} {t : State} (h : Touches fs s t) : Touches fs s t.done.state := h

theorem restoreEye_touches (s : State) (index : Nat) : Touches [.eyes] s (s.restoreEye index).state := by
  unfold State.restoreEye
  split
  · dsimp only
    split
    · exact Touches.refl _ s
    · split
      · exact Touches.refl _ s
      · exact done_touches (touches_onEyes s _)
  · exact Touches.refl _ s

theorem State.HaltLawful.voidSale (h : s.HaltLawful) (number : Nat) : (s.voidSale number).state.HaltLawful := by
  unfold State.voidSale
  split
  · exact h
  next q _ =>
    have hremoved := h.of_touches (touches_onBook s fun b => { b with queue := b.queue.filter fun x => x.sale.number != number })
    exact (hremoved.of_touches (onTally_touches _ q.sale.plan fun r => r.addVoid q.sale.amount)).admissionCheck

theorem State.HaltLawful.clearCar (h : s.HaltLawful) (tag : Nat) : (s.clearCar tag).state.HaltLawful := by
  unfold State.clearCar
  split
  · exact h
  · split
    · exact h
    · rw [done_state]
      exact h.closeCar tag .cleared

theorem clearStatus_touches (s : State) : Touches [.ring, .office] s s.clearStatus :=
  (touches_onRing s _).andThen (touches_onOffice _ _)

/-! ## Expiries -/

theorem execEncoderSilenceExpiry_keeps (h : s.HaltLawful) : KeepsHaltLaw (execEncoderSilenceExpiry s) := by
  refine keepsHaltLaw_live h ?_
  split
  · exact h
  · have hexpired := h.of_touches (touches_onBelt s fun b => { b with silence := none })
    dsimp only
    split
    · exact hexpired
    · exact hexpired.raise _ _ _ _ _

theorem execRollerAckTimeout_keeps (h : s.HaltLawful) : KeepsHaltLaw (execRollerAckTimeout s) := by
  refine keepsHaltLaw_live h ?_
  split
  · exact h
  · exact (h.onGate (f := fun g => { g with ackTimer := none }) id).rollerFault .timeout

theorem execStartAckTimeout_keeps (h : s.HaltLawful) : KeepsHaltLaw (execStartAckTimeout s) := by
  refine keepsHaltLaw_live h ?_
  split
  next r _ hr => exact h.startFailure (h.starting_of_start hr) .timeout r.number
  next =>
    obtain ⟨hstart, -⟩ := h.start
    exact h.onPacer ⟨hstart, fun _ => rfl⟩ id

theorem execProfileInterval_keeps (h : s.HaltLawful) : KeepsHaltLaw (execProfileInterval s) := by
  refine keepsHaltLaw_live h ?_
  split
  next htimer => exact (h.runs_of_profileTimer htimer).interval
  next => exact h

theorem execDriveStopTimeout_keeps (h : s.HaltLawful) : KeepsHaltLaw (execDriveStopTimeout s) := by
  refine keepsHaltLaw_live h ?_
  split
  · exact h
  · exact ((h.onPacer (f := fun p => { p with watch := .met, stopTimer := none }) h.start id).raise _ _ _ _ _).haltingCheck

theorem execOrderAckTimeout_keeps (h : s.HaltLawful) (station : Nat) : KeepsHaltLaw (execOrderAckTimeout station s) := by
  refine keepsHaltLaw_live h ?_
  split
  · exact h
  · exact h.failOrder _ .timeout

theorem execReturnWindowExpiry_keeps (h : s.HaltLawful) (station : Nat) : KeepsHaltLaw (execReturnWindowExpiry station s) := by
  refine keepsHaltLaw_live h ?_
  split
  · exact h
  · exact h.completeOrder _

theorem execPositionTimeout_keeps (h : s.HaltLawful) (station : Nat) : KeepsHaltLaw (execPositionTimeout station s) := by
  refine keepsHaltLaw_live h ?_
  split
  · exact h
  · exact h.failOrder _ .position

theorem execQuoteHoldExpiry_keeps (h : s.HaltLawful) (terminal : Nat) : KeepsHaltLaw (execQuoteHoldExpiry terminal s) := by
  refine keepsHaltLaw_live h ?_
  split
  · exact h
  · exact h.of_touches (touches_onBook s _)

theorem execRingCheckExpiry_keeps (h : s.HaltLawful) : KeepsHaltLaw (execRingCheckExpiry s) := by
  refine keepsHaltLaw_live h ?_
  split
  · exact h
  · exact h.of_touches (touches_onRing s _)
  · exact h.of_touches (touches_onRing s _)

theorem execRingTimeout_keeps (h : s.HaltLawful) : KeepsHaltLaw (execRingTimeout s) := by
  refine keepsHaltLaw_live h ?_
  split
  · exact h
  · have hcleared := h.of_touches (touches_onRing s fun r => ({ r with state := .down } : Ring).clearOutstanding s.halt.state)
    dsimp only
    split
    · exact hcleared.raise _ _ _ _ _
    · exact hcleared

/-! ## Every command and every step -/

/-- Every command keeps the law. -/
theorem exec_keeps (h : s.HaltLawful) (c : Instr) : KeepsHaltLaw (exec c s) := by
  unfold exec
  cases c with
  | rstAssert => exact keepsHaltLaw_next (.inl (powerOn_runs rfl rfl rfl))
  | rstRelease straps estop => exact execRstRelease_keeps straps estop s
  | estopAssert => exact execEstopAssert_keeps h
  | estopRelease => exact keepsHaltLaw_live h (h.onHalt rfl rfl)
  | oholdAssert => exact keepsHaltLaw_next (h.setOhold .asserted)
  | oholdRelease => exact keepsHaltLaw_next (h.setOhold .released)
  | enc hd payload => exact execEnc_keeps h hd payload
  | eye hd payload => exact execEye_keeps h hd payload
  | armState hd payload => exact execArmState_keeps h hd payload
  | driveState hd payload => exact keepsHaltLaw_ringFrame h fun r => h.driveFrame hd.src r
  | orderAck hd payload => exact execOrderAck_keeps h hd payload
  | maintReply hd payload => exact execMaintReply_keeps h hd payload
  | returnedOrder hd payload => exact execReturnedOrder_keeps h hd payload
  | returnedSetpoint hd payload => exact execReturnedSetpoint_keeps h hd payload
  | returnedBrake hd payload => exact keepsHaltLaw_ringFrame h fun _ => h
  | returnedMaint hd payload => exact keepsHaltLaw_ringFrame h fun _ => h.of_touches (reply_touches s _ _)
  | broadcastReturn hd payload => exact execBroadcastReturn_keeps h hd payload
  | badFrame port => exact execBadFrame_keeps h port
  | callTransmitted => exact execCallTransmitted_keeps h
  | startTransmitted => exact execStartTransmitted_keeps h
  | stationOrderTransmitted => exact execStationOrderTransmitted_keeps h
  | broadcastTransmitted => exact execBroadcastTransmitted_keeps h
  | ringFrameTransmitted => exact execRingFrameTransmitted_keeps h
  | officeFrameSent => exact keepsHaltLaw_live h (h.of_touches (touches_onOffice s _))
  | quoteReq hd payload => exact execQuoteReq_keeps h hd payload
  | closeReq hd payload => exact execCloseReq_keeps h hd payload
  | dropReq hd payload => exact execDropReq_keeps h hd payload
  | maint hd payload => exact execMaint_keeps h hd payload
  | tableRead hd operands => exact keepsHaltLaw_request h fun r _ => by rwa [readTable_state]
  | tableWrite hd operands => exact keepsHaltLaw_request h fun _ hw => h.tableWrite hw
  | stationWrite hd operands => exact keepsHaltLaw_request h fun w _ => h.writeStation w
  | aliasWrite hd operands => exact keepsHaltLaw_request h fun w _ => h.writeAlias w
  | planWrite hd operands => exact keepsHaltLaw_request h fun w _ => h.of_touches (writePlan_touches s w)
  | optionWrite hd operands => exact keepsHaltLaw_request h fun w _ => h.of_touches (writeOption_touches s w)
  | codeWrite hd operands => exact keepsHaltLaw_request h fun w _ => h.of_touches (writeCode_touches s w)
  | eyeWrite hd operands => exact keepsHaltLaw_request h fun w _ => h.writeEye w
  | passWrite hd operands => exact keepsHaltLaw_request h fun w _ => h.of_touches (writePass_touches s w)
  | pacingWrite hd operands => exact keepsHaltLaw_request h fun w _ => h.writePacing w
  | gateWrite hd operands => exact keepsHaltLaw_request h fun w _ => h.writeGate w
  | trackWrite hd operands => exact keepsHaltLaw_request h fun w _ => h.of_touches (writeTrack_touches s w)
  | timingWrite hd operands => exact keepsHaltLaw_request h fun w _ => h.of_touches (writeTiming_touches s w)
  | arbiterWrite hd operands => exact keepsHaltLaw_request h fun w _ => h.of_touches (writeArbiter_touches s w)
  | nodeEncoderWrite hd operands => exact keepsHaltLaw_request h fun w _ => h.writeNodes w
  | nodeDriveWrite hd operands => exact keepsHaltLaw_request h fun w _ => h.writeNodes w
  | nodeRollerWrite hd operands => exact keepsHaltLaw_request h fun w _ => h.writeNodes w
  | nodeOfficeWrite hd operands => exact keepsHaltLaw_request h fun w _ => h.writeNodes w
  | gateOpen hd operands => exact keepsHaltLaw_request h fun _ _ => h.openGate
  | gateClose hd operands => exact keepsHaltLaw_request h fun _ _ => h.closeGate
  | run hd operands => exact keepsHaltLaw_request h fun speed _ => h.runBelt speed
  | stop hd operands => exact keepsHaltLaw_request h fun _ _ => h.stopBelt
  | halt hd operands => exact keepsHaltLaw_request h fun _ _ => h.raise .manual none none none none
  | ack hd operands => exact keepsHaltLaw_request h fun _ _ => h.acknowledge
  | resume hd operands => exact execResume_keeps h hd operands
  | stationClear hd operands => exact keepsHaltLaw_request h fun index _ => h.clearStation index
  | eyeRestore hd operands => exact keepsHaltLaw_request h fun index _ => h.of_touches (restoreEye_touches s index)
  | saleVoid hd operands => exact keepsHaltLaw_request h fun number _ => h.voidSale number
  | carClear hd operands => exact keepsHaltLaw_request h fun tag _ => h.clearCar tag
  | tunnelReset hd operands => exact execTunnelReset_keeps h hd operands
  | tallyRead hd operands => exact keepsHaltLaw_request h fun plan _ => by rwa [readTally_state]
  | tallyReset hd operands => exact keepsHaltLaw_request h fun _ _ => h.of_touches (resetTallies_touches s)
  | statusRead hd operands => exact keepsHaltLaw_request h fun _ _ => h.of_touches (clearStatus_touches s)
  | encoderSilenceExpiry => exact execEncoderSilenceExpiry_keeps h
  | rollerAckTimeout => exact execRollerAckTimeout_keeps h
  | startAckTimeout => exact execStartAckTimeout_keeps h
  | profileInterval => exact execProfileInterval_keeps h
  | driveStopTimeout => exact execDriveStopTimeout_keeps h
  | orderAckTimeout station => exact execOrderAckTimeout_keeps h station
  | returnWindowExpiry station => exact execReturnWindowExpiry_keeps h station
  | positionTimeout station => exact execPositionTimeout_keeps h station
  | quoteHoldExpiry terminal => exact execQuoteHoldExpiry_keeps h terminal
  | ringCheckExpiry => exact execRingCheckExpiry_keeps h
  | ringTimeout => exact execRingTimeout_keeps h

/-- A step is a waiting command or the passing of time. -/
theorem step_keeps (h : s.HaltLawful) : KeepsHaltLaw (step s) := by
  unfold step
  split
  · exact keepsHaltLaw_next h.tick
  next c rest _ => exact exec_keeps (h.of_touches (touches_onPending s _)) c

/-- Settles O57: the two laws are the two cases of `State.HaltLawful`, which every command and every tick keep. -/
theorem haltLawIsKept : Obligations.HaltLawIsKept := by
  intro s t hhalt hstart hstep
  exact haltLawful_iff.1 (step_keeps (haltLawful_iff.2 ⟨hhalt, hstart⟩) t hstep)

end Sys2Proof.Machine
end

section
/-! The ranges (O60): an order that waits for its arm's position before it has been transmitted. -/

namespace Sys2Proof.Machine

/-- An ARM station whose OUT waits for the position while its frame is still queued: the laws say of an order timer alone, and not
of this wait, that the order has been transmitted. -/
def untransmittedWait : State :=
  { pins := { rst := .released }
    pending := [.armState { dst := 0, src := 1 } [0, 0]]
    map := { table := Vector.replicate 32 { kind := .arm }, aliases := (Vector.replicate 32 0).set 0 1 }
    seq := { stations := (Vector.replicate 32 {}).set 0 { current := some { action := .out, number := some 5, car := none, wait := .position } } }
    ring := { order := [.order 1 5 .out 0] } }

theorem untransmittedWait_haltLaw : untransmittedWait.haltLaw ∧ untransmittedWait.startLaw := by
  refine ⟨?_, fun _ => rfl, fun _ => rfl⟩
  unfold State.haltLaw
  rw [if_pos (show untransmittedWait.halt.state = .clear from rfl)]
  rfl

theorem untransmittedWait_apart : untransmittedWait.frameNumbersApart := by
  intro dst number action station _
  exact ⟨fun d a k => nofun, fun h payload => nofun⟩

theorem untransmittedWait_orderLaw : untransmittedWait.orderLaw := by
  refine ⟨fun f hf => ?_, by decide +kernel, by decide +kernel, by decide +kernel, nofun, nofun, nofun, nofun⟩
  cases List.mem_singleton.1 hf
  exact ⟨0, rfl, _, rfl, rfl, rfl, rfl⟩

/-- The arm's report completes the order, and its frame stays in the queue without an owner. -/
theorem untransmittedWait_step :
    ∃ t, step untransmittedWait = .next t ∧ t.ring.order = [.order 1 5 .out 0] ∧ t.seq.stations[(0 : Fin 32)].current = none :=
  ⟨_, rfl, by decide +kernel, by decide +kernel⟩

/-- Refutes O60: an arm report completes an order that waits for its position and whose frame is still queued. -/
theorem not_rangesAreKept : ¬ Obligations.RangesAreKept := by
  intro h
  obtain ⟨t, hstep, hqueue, hnone⟩ := untransmittedWait_step
  obtain ⟨hhalt, hstart⟩ := untransmittedWait_haltLaw
  obtain ⟨-, -, -, horder⟩ := h _ t hstep
  obtain ⟨howned, -⟩ := horder hhalt hstart untransmittedWait_apart untransmittedWait_orderLaw
  obtain ⟨i, hi, o, ho, -⟩ := howned (.order 1 5 .out 0) (by simp [hqueue])
  obtain rfl : i = 0 := Fin.ext hi
  rw [hnone] at ho
  cases ho

end Sys2Proof.Machine
end

section
/-! The laws of the lists and of the services (O58, O59): what each law reads, and how it fares under the changes of the stations
and of the cars that the operations are made of. -/

set_option Elab.async false

namespace Sys2Proof.Machine

/-! ## The laws -/

/-- The laws of O58 and O59. -/
inductive Law where
  | log
  | newest
  | list
  | room
  | sales
  | sets
  | engaged
  | tally

/-- A law together with the laws its statement needs: that of the newest record with what R148 says of CLEAR. -/
def State.Upholds (s : State) : Law → Prop
  | .log => s.logLaw
  | .newest => s.newestFirst ∧ (s.halt.state = .clear → openCount s.halt.log = 0)
  | .list => s.listLaw
  | .room => s.listLaw ∧ s.roomLaw
  | .sales => s.listLaw ∧ s.roomLaw ∧ s.saleLaw
  | .sets => s.setsLaw
  | .engaged => s.listLaw ∧ s.engagedLaw
  | .tally => s.setsLaw ∧ s.tallyLaw

/-- The fields a law reads. -/
def Law.reads : Law → List Field
  | .log | .newest => [.halt]
  | .list => [.cars, .nextTag]
  | .room | .sales => [.cars, .nextTag, .book]
  | .sets => [.cars]
  | .engaged => [.cars, .nextTag, .seq]
  | .tally => [.cars, .tallies]

/-- The fields some law reads, but for the stations. -/
abbrev listFields : List Field := [.halt, .cars, .nextTag, .book, .tallies]

/-- The law of the engagements alone reads the stations. -/
theorem Law.reads_subset (l : Law) : l = .engaged ∨ l.reads ⊆ listFields := by
  cases l with
  | engaged => exact .inl rfl
  | _ => exact .inr (by decide)

variable {fs : List Field} {s t u : State} {l : Law}

theorem State.Upholds.of_reads (h : s.Upholds l) (k : ∀ f ∈ l.reads, f.same s t) : t.Upholds l := by
  cases l with
  | log =>
    have hhalt : t.halt = s.halt := k .halt (by decide)
    simpa only [State.Upholds, State.logLaw, hhalt] using h
  | newest =>
    have hhalt : t.halt = s.halt := k .halt (by decide)
    simpa only [State.Upholds, State.newestFirst, hhalt] using h
  | list =>
    have hcars : t.cars = s.cars := k .cars (by decide)
    have htag : t.nextTag = s.nextTag := k .nextTag (by decide)
    simpa only [State.Upholds, State.listLaw, hcars, htag] using h
  | room =>
    have hcars : t.cars = s.cars := k .cars (by decide)
    have htag : t.nextTag = s.nextTag := k .nextTag (by decide)
    have hbook : t.book = s.book := k .book (by decide)
    simpa only [State.Upholds, State.listLaw, State.roomLaw, State.reserve, hcars, htag, hbook] using h
  | sales =>
    have hcars : t.cars = s.cars := k .cars (by decide)
    have htag : t.nextTag = s.nextTag := k .nextTag (by decide)
    have hbook : t.book = s.book := k .book (by decide)
    simpa only [State.Upholds, State.listLaw, State.roomLaw, State.reserve, State.saleLaw, State.saleNumbers, hcars, htag, hbook]
      using h
  | sets =>
    have hcars : t.cars = s.cars := k .cars (by decide)
    simpa only [State.Upholds, State.setsLaw, hcars] using h
  | engaged =>
    have hcars : t.cars = s.cars := k .cars (by decide)
    have htag : t.nextTag = s.nextTag := k .nextTag (by decide)
    have hseq : t.seq = s.seq := k .seq (by decide)
    simpa only [State.Upholds, State.listLaw, State.engagedLaw, hcars, htag, hseq] using h
  | tally =>
    have hcars : t.cars = s.cars := k .cars (by decide)
    have htallies : t.tallies = s.tallies := k .tallies (by decide)
    simpa only [State.Upholds, State.setsLaw, State.tallyLaw, hcars, htallies] using h

/-- A change of the stations that keeps the engagements lawful, and of nothing else a law reads. -/
theorem State.Upholds.of_seq (h : s.Upholds l) (k : Touches fs s t) (hstations : s.engagedLaw → t.engagedLaw)
    (hfs : ∀ f ∈ listFields, f ∉ fs := by decide) : t.Upholds l := by
  have hsame (f : Field) (hf : f ∈ listFields) : f.same s t := k f (hfs f hf)
  rcases l.reads_subset with rfl | hreads
  · obtain ⟨hlist, hengaged⟩ := h
    have hlist : t.Upholds .list := State.Upholds.of_reads (l := .list) hlist fun f hf => hsame f ((show Law.list.reads ⊆ listFields by decide) hf)
    exact ⟨hlist, hstations hengaged⟩
  · exact h.of_reads fun f hf => hsame f (hreads hf)

/-! ## Stations -/

/-- Every station has the car and the phase it had. -/
def SameService (s t : State) : Prop :=
  ∀ i : StationId, t.seq.stations[i].car = s.seq.stations[i].car ∧ t.seq.stations[i].phase = s.seq.stations[i].phase

theorem SameService.refl (s : State) : SameService s s := fun _ => ⟨rfl, rfl⟩

theorem SameService.trans (h : SameService s t) (k : SameService t u) : SameService s u := fun i =>
  ⟨(k i).1.trans (h i).1, (k i).2.trans (h i).2⟩

theorem SameService.of_stations (h : t.seq.stations = s.seq.stations) : SameService s t := fun i => by rw [h]; exact ⟨rfl, rfl⟩

theorem SameService.of_touches (k : Touches fs s t) (hseq : Field.seq ∉ fs := by decide) : SameService s t :=
  .of_stations (congrArg Sequencer.stations (k .seq hseq))

theorem onStation_sameService (i : StationId) {f : Station → Station} (hf : ∀ st, (f st).car = st.car ∧ (f st).phase = st.phase) :
    SameService s (s.onStation i f) := by
  intro j
  by_cases hj : j = i
  · rw [hj, onStation_self]
    exact hf _
  · rw [onStation_other hj]
    exact ⟨rfl, rfl⟩

theorem issueStationOrder_sameService (i : StationId) (a : Action) (car : Option Nat) :
    SameService s (s.issueStationOrder i a car) :=
  SameService.trans (.of_stations rfl) ((onStation_sameService (s := s.takeOrderNumber) i (f := fun st =>
    { st with current := some { action := a, number := some s.freeOrderNumber, car := car,
                                wait := s.map.table[i].kind.firstWait } }) fun _ => ⟨rfl, rfl⟩).trans
    (.of_touches (pushOrder_touches _ _ _ _ _)))

theorem requestOrder_sameService (i : StationId) (a : Action) (car : Option Nat) : SameService s (s.requestOrder i a car) := by
  unfold State.requestOrder
  split
  · exact onStation_sameService i fun _ => ⟨rfl, rfl⟩
  · exact issueStationOrder_sameService i a car

theorem handlePending_sameService (i : StationId) (a : Action) : SameService s (s.handlePending i a) := by
  unfold State.handlePending
  split
  · exact .refl s
  · have hcleared : SameService s (s.onStation i fun st => { st with queued := none }) :=
      onStation_sameService i fun _ => ⟨rfl, rfl⟩
    dsimp only
    split
    · exact hcleared
    · exact hcleared.trans (requestOrder_sameService i _ _)

theorem admissionCheck_sameService : SameService s s.admissionCheck := by
  unfold State.admissionCheck
  split
  · exact .of_stations rfl
  · exact .refl s

/-- What the law of the engagements says of one station. -/
def State.EngagedAt (s : State) (i : StationId) : Prop :=
  ∀ tag, s.seq.stations[i].car = some tag →
    s.seq.stations[i].phase ≠ .idle ∧ s.seq.stations[i].phase ≠ .fault ∧ ∃ c ∈ s.cars, c.tag = tag ∧ c.unsettled i = true

theorem engagedLaw_iff : s.engagedLaw ↔ ∀ i, s.EngagedAt i := Iff.rfl

theorem State.EngagedAt.of_none {i : StationId} (h : s.seq.stations[i].car = none) : s.EngagedAt i := by
  intro tag htag
  rw [h] at htag
  cases htag

theorem State.EngagedAt.of_same {i : StationId} (h : s.EngagedAt i) (hcar : t.seq.stations[i].car = s.seq.stations[i].car)
    (hphase : t.seq.stations[i].phase = s.seq.stations[i].phase) (hcars : t.cars = s.cars) : t.EngagedAt i := by
  intro tag htag
  rw [hphase, hcars]
  exact h tag (hcar ▸ htag)

/-- A change that leaves every station its car and its phase. -/
theorem State.Upholds.of_same (h : s.Upholds l) (k : Touches fs s t) (hsame : SameService s t)
    (hfs : ∀ f ∈ listFields, f ∉ fs := by decide) : t.Upholds l :=
  h.of_seq k (fun hengaged i => State.EngagedAt.of_same (hengaged i) (hsame i).1 (hsame i).2 (k .cars (hfs .cars (by decide)))) hfs

/-- A change of nothing that a law reads. -/
theorem State.Upholds.of_touches (h : s.Upholds l) (k : Touches fs s t) (hfs : ∀ f ∈ listFields, f ∉ fs := by decide)
    (hseq : Field.seq ∉ fs := by decide) : t.Upholds l := h.of_same k (.of_touches k hseq) hfs

theorem State.Upholds.foldl {α : Type} {f : State → α → State} (hf : ∀ s a, s.Upholds l → (f s a).Upholds l) (as : List α)
    (h : s.Upholds l) : (as.foldl f s).Upholds l :=
  List.foldlRecOn as f h fun s hs a _ => hf s a hs

/-- A change of one station, whose engagement stays lawful. -/
theorem State.Upholds.onStation (h : s.Upholds l) (i : StationId) {f : Station → Station}
    (hi : s.engagedLaw → (s.onStation i f).EngagedAt i) : (s.onStation i f).Upholds l := by
  refine h.of_seq (onStation_touches s i f) fun hengaged j => ?_
  by_cases hj : j = i
  · rw [hj]
    exact hi hengaged
  · exact State.EngagedAt.of_same (hengaged j) (by rw [onStation_other hj]) (by rw [onStation_other hj]) rfl

/-- A change of one station that leaves its car and its phase alone. -/
theorem State.Upholds.onStation_same (h : s.Upholds l) (i : StationId) {f : Station → Station}
    (hf : ∀ st, (f st).car = st.car ∧ (f st).phase = st.phase) : (s.onStation i f).Upholds l :=
  h.of_same (onStation_touches s i f) (onStation_sameService i hf)

/-- A station that is left without a car may take every phase. -/
theorem State.Upholds.onStation_free (h : s.Upholds l) (i : StationId) {f : Station → Station}
    (hf : (f s.seq.stations[i]).car = none) : (s.onStation i f).Upholds l :=
  h.onStation i fun _ => .of_none (by rw [onStation_self]; exact hf)

/-- A station takes a car that it has yet to serve (R98, R100). -/
theorem State.Upholds.engage (h : s.Upholds l) {i : StationId} {tag : Nat} (hidle : s.seq.stations[i].phase ≠ .idle)
    (hfault : s.seq.stations[i].phase ≠ .fault) (hcar : ∃ c ∈ s.cars, c.tag = tag ∧ c.unsettled i = true) :
    (s.onStation i fun st => { st with car := some tag }).Upholds l := by
  refine h.onStation i fun _ => fun other hother => ?_
  rw [onStation_self] at hother ⊢
  cases hother
  exact ⟨hidle, hfault, hcar⟩

/-! ## Cars -/

/-- A change of a record that leaves its tag, keeps what the list asks of its length, and keeps its service sets lawful. -/
structure Car.Stays (c d : Car) : Prop where
  tag : d.tag = c.tag
  length : c.length.isSome = true → d.length.isSome = true
  phase : (c.phase = .entering → c.length = none) → d.phase = .entering → d.length = none
  sets : c.setsLaw → d.setsLaw

/-- A change of a record that no law forbids: its sale stays too. -/
structure Car.Amends (c d : Car) : Prop extends c.Stays d where
  sale : d.sale = c.sale

theorem Car.Amends.refl (c : Car) : c.Amends c := { tag := rfl, length := id, phase := id, sets := id, sale := rfl }

theorem Car.Amends.trans {c d e : Car} (h : c.Amends d) (k : d.Amends e) : c.Amends e where
  tag := k.tag.trans h.tag
  length := k.length ∘ h.length
  phase := k.phase ∘ h.phase
  sets := k.sets ∘ h.sets
  sale := k.sale.trans h.sale

/-- A record whose activity, service sets, phase and length stay. -/
theorem Car.Stays.of_fields {c d : Car} (htag : d.tag = c.tag) (hlength : d.length = c.length)
    (hphase : d.phase = c.phase) (hactivity : d.activity = c.activity) (hserved : d.served = c.served)
    (hmissed : d.missed = c.missed) : c.Stays d where
  tag := htag
  length := by rw [hlength]; exact id
  phase := by rw [hlength, hphase]; exact id
  sets := by unfold Car.setsLaw; rw [hserved, hmissed, hactivity]; exact id

theorem Car.Amends.of_fields {c d : Car} (htag : d.tag = c.tag) (hsale : d.sale = c.sale) (hlength : d.length = c.length)
    (hphase : d.phase = c.phase) (hactivity : d.activity = c.activity) (hserved : d.served = c.served)
    (hmissed : d.missed = c.missed) : c.Amends d where
  toStays := .of_fields htag hlength hphase hactivity hserved hmissed
  sale := hsale

/-- A car that holds a place of the sale queue: it is entering, with a sale (R125). -/
def Car.holdsPlace (c : Car) : Bool := c.length.isNone && c.sale.isSome

theorem enteringCar_concat (cars : List Car) (c : Car) :
    enteringCar (cars ++ [c]) = if c.length.isNone then some c else none := by
  simp [enteringCar]

theorem enteringCar_eq_some_iff {cars : List Car} {c : Car} :
    enteringCar cars = some c ↔ cars.getLast? = some c ∧ c.length = none := by
  unfold enteringCar
  cases cars.getLast? with
  | none => simp
  | some d =>
    by_cases hd : d.length = none
    · simp only [hd, Option.isNone_none, if_true, Option.some.injEq]
      constructor
      · rintro rfl; exact ⟨rfl, hd⟩
      · exact And.left
    · simp only [Option.isNone_iff_eq_none, hd, if_false, Option.some.injEq, reduceCtorEq, false_iff, not_and]
      rintro rfl; exact hd

/-- The reserve counts the cars that hold a place (R125). -/
theorem reserve_eq_countP (h : s.listLaw) : s.reserve = s.cars.countP Car.holdsPlace := by
  obtain ⟨-, -, -, hlengths, -⟩ := h
  unfold State.reserve
  rcases List.eq_nil_or_concat s.cars with hnil | ⟨cars, c, hcars⟩
  · rw [hnil]; rfl
  · rw [List.concat_eq_append] at hcars
    rw [hcars] at hlengths ⊢
    rw [List.dropLast_concat] at hlengths
    have hnone : cars.countP Car.holdsPlace = 0 := by
      refine List.countP_eq_zero.2 fun d hd => ?_
      simp [Car.holdsPlace, Option.isNone_eq_false_iff.2 (hlengths d hd)]
    rw [enteringCar_concat, List.countP_append, hnone]
    cases hlength : c.length <;> cases hsale : c.sale <;> simp [Car.holdsPlace, hlength, hsale]

/-- The sale queue with the places held (R125). -/
theorem roomLaw_iff (h : s.listLaw) : s.roomLaw ↔ s.book.queue.length + s.cars.countP Car.holdsPlace ≤ 24 := by
  rw [State.roomLaw, reserve_eq_countP h]

theorem State.listLaw.mapCars (h : s.listLaw) {f : Car → Car} (hf : ∀ c ∈ s.cars, c.Stays (f c)) :
    (s.onCars (List.map f)).listLaw := by
  obtain ⟨hcount, htags, hcars, hlengths, hnext⟩ := h
  refine ⟨by simpa using hcount, ?_, ?_, ?_, hnext⟩
  · have hsame : s.cars.map ((fun c => c.tag) ∘ f) = s.cars.map fun c => c.tag :=
      List.map_congr_left fun c hc => (hf c hc).tag
    rw [State.onCars_cars, List.map_map, hsame]
    exact htags
  · intro d hd
    obtain ⟨c, hc, rfl⟩ := List.mem_map.1 hd
    obtain ⟨hlow, hhigh, hphase⟩ := hcars c hc
    rw [(hf c hc).tag]
    exact ⟨hlow, hhigh, (hf c hc).phase hphase⟩
  · intro d hd
    rw [State.onCars_cars, ← List.map_dropLast] at hd
    obtain ⟨c, hc, rfl⟩ := List.mem_map.1 hd
    exact (hf c (List.mem_of_mem_dropLast hc)).length (hlengths c hc)

theorem countP_holdsPlace_map {f : Car → Car} {cars : List Car} (hf : ∀ c ∈ cars, c.Amends (f c)) :
    (cars.map f).countP Car.holdsPlace ≤ cars.countP Car.holdsPlace := by
  rw [List.countP_map]
  refine List.countP_mono_left fun c hc hplace => ?_
  simp only [Function.comp_apply, Car.holdsPlace, Bool.and_eq_true, (hf c hc).sale] at hplace ⊢
  refine ⟨?_, hplace.2⟩
  cases hlength : c.length with
  | none => rfl
  | some x =>
    have hmeasured := (hf c hc).length (by rw [hlength]; rfl)
    rw [Option.isNone_iff_eq_none.1 hplace.1] at hmeasured
    cases hmeasured

theorem State.roomLaw.mapCars (hlist : s.listLaw) (h : s.roomLaw) {f : Car → Car} (hf : ∀ c ∈ s.cars, c.Amends (f c)) :
    (s.onCars (List.map f)).roomLaw := by
  rw [roomLaw_iff (hlist.mapCars fun c hc => (hf c hc).toStays)]
  rw [roomLaw_iff hlist] at h
  exact (Nat.add_le_add_left (countP_holdsPlace_map hf) _).trans h

theorem saleNumbers_mapCars {f : Car → Car} (hf : ∀ c ∈ s.cars, c.Amends (f c)) :
    (s.onCars (List.map f)).saleNumbers = s.saleNumbers := by
  unfold State.saleNumbers
  congr 1
  rw [State.onCars_cars, List.filterMap_map]
  exact List.filterMap_congr fun c hc => by rw [Function.comp_apply, (hf c hc).sale]

theorem State.saleLaw.mapCars (h : s.saleLaw) {f : Car → Car} (hf : ∀ c ∈ s.cars, c.Amends (f c)) :
    (s.onCars (List.map f)).saleLaw := by
  unfold State.saleLaw
  rw [saleNumbers_mapCars hf]
  exact h

theorem State.setsLaw.mapCars (h : s.setsLaw) {f : Car → Car} (hf : ∀ c ∈ s.cars, c.Stays (f c)) :
    (s.onCars (List.map f)).setsLaw := by
  intro d hd
  obtain ⟨c, hc, rfl⟩ := List.mem_map.1 hd
  exact (hf c hc).sets (h c hc)

theorem State.engagedLaw.mapCars (h : s.engagedLaw) {f : Car → Car} (hf : ∀ c ∈ s.cars, c.Stays (f c))
    (hserve : ∀ c ∈ s.cars, ∀ i : StationId, s.seq.stations[i].car = some c.tag → c.unsettled i = true →
      (f c).unsettled i = true) : (s.onCars (List.map f)).engagedLaw := by
  intro i tag htag
  obtain ⟨hidle, hfault, c, hc, rfl, hunsettled⟩ := h i tag htag
  exact ⟨hidle, hfault, f c, List.mem_map_of_mem hc, (hf c hc).tag, hserve c hc i htag hunsettled⟩

/-- A change of the car records that leaves every engaged service unsettled. -/
theorem State.Upholds.mapCars (h : s.Upholds l) {f : Car → Car} (hf : ∀ c ∈ s.cars, c.Amends (f c))
    (hserve : l = .engaged → ∀ c ∈ s.cars, ∀ i : StationId, s.seq.stations[i].car = some c.tag → c.unsettled i = true →
      (f c).unsettled i = true) : (s.onCars (List.map f)).Upholds l := by
  have hstays (c : Car) (hc : c ∈ s.cars) : c.Stays (f c) := (hf c hc).toStays
  cases l with
  | log => exact h
  | newest => exact h
  | list => exact State.listLaw.mapCars h hstays
  | room =>
    obtain ⟨hlist, hroom⟩ := h
    exact ⟨hlist.mapCars hstays, hroom.mapCars hlist hf⟩
  | sales =>
    obtain ⟨hlist, hroom, hsales⟩ := h
    exact ⟨hlist.mapCars hstays, hroom.mapCars hlist hf, hsales.mapCars hf⟩
  | sets => exact State.setsLaw.mapCars h hstays
  | engaged =>
    obtain ⟨hlist, hengaged⟩ := h
    exact ⟨hlist.mapCars hstays, hengaged.mapCars hstays (hserve rfl)⟩
  | tally =>
    obtain ⟨hsets, htally⟩ := h
    exact ⟨hsets.mapCars hstays, htally⟩

/-- A change of the car records that touches no service. -/
theorem State.Upholds.mapCars_same (h : s.Upholds l) {f : Car → Car} (hf : ∀ c : Car, c.Amends (f c))
    (hserve : ∀ c i, (f c).unsettled i = c.unsettled i) : (s.onCars (List.map f)).Upholds l :=
  h.mapCars (fun c _ => hf c) fun _ c _ i _ hunsettled => (hserve c i).trans hunsettled

/-- A change of the record with a tag. -/
theorem State.Upholds.onCar (h : s.Upholds l) (tag : Nat) {f : Car → Car} (hf : ∀ c : Car, c.Amends (f c))
    (hserve : l = .engaged → ∀ c ∈ s.cars, c.tag = tag → ∀ i : StationId, s.seq.stations[i].car = some tag →
      c.unsettled i = true → (f c).unsettled i = true) : (s.onCar tag f).Upholds l := by
  refine h.mapCars (f := fun c => if c.tag = tag then f c else c) (fun c _ => ?_) fun hl c hc i hcar hunsettled => ?_
  · split
    · exact hf c
    · exact .refl c
  · split
    next htag => exact hserve hl c hc htag i (htag ▸ hcar) hunsettled
    next => exact hunsettled

/-- A change of the record with a tag that touches no service. -/
theorem State.Upholds.onCar_same (h : s.Upholds l) (tag : Nat) {f : Car → Car} (hf : ∀ c : Car, c.Amends (f c))
    (hserve : ∀ c i, (f c).unsettled i = c.unsettled i) : (s.onCar tag f).Upholds l :=
  h.onCar tag hf fun _ c _ _ i _ hunsettled => (hserve c i).trans hunsettled

/-! ## Services (R96) -/

theorem hasStation_stationBit {i j : StationId} : hasStation (stationBit i) j = decide (i = j) := by
  simp only [hasStation, stationBit, BitVec.getLsbD_twoPow, Fin.ext_iff]
  simp

/-- A service counted in one of the two sets leaves the other services as they were. -/
theorem Car.unsettled_recordMissed (c : Car) {i j : StationId} (hij : j ≠ i) : (c.recordMissed i).unsettled j = c.unsettled j := by
  unfold Car.recordMissed
  split
  · have hbit : hasStation (stationBit i) j = false := by rw [hasStation_stationBit]; exact decide_eq_false (Ne.symm hij)
    simp only [Car.unsettled, hasStation, BitVec.getLsbD_or] at hbit ⊢
    rw [hbit, Bool.or_false]
  · rfl

theorem Car.unsettled_recordServed (c : Car) {i j : StationId} (hij : j ≠ i) : (c.recordServed i).unsettled j = c.unsettled j := by
  unfold Car.recordServed
  split
  · have hbit : hasStation (stationBit i) j = false := by rw [hasStation_stationBit]; exact decide_eq_false (Ne.symm hij)
    simp only [Car.unsettled, hasStation, BitVec.getLsbD_or] at hbit ⊢
    rw [hbit, Bool.or_false]
  · rfl

/-- The law of the sets, station by station. -/
theorem setsLaw_iff {c : Car} : c.setsLaw ↔ ∀ k < 32, (c.served.getLsbD k && c.missed.getLsbD k) = false ∧
    ((c.served.getLsbD k || c.missed.getLsbD k) = true → c.activity.getLsbD k = true) := by
  unfold Car.setsLaw
  constructor
  · rintro ⟨hboth, hwithin⟩ k hk
    have h1 := congrArg (fun x => x.getLsbD k) hboth
    have h2 := congrArg (fun x => x.getLsbD k) hwithin
    simp only [BitVec.getLsbD_and, BitVec.getLsbD_or, BitVec.getLsbD_not, hk, decide_true, Bool.true_and,
      BitVec.ofNat_eq_ofNat, BitVec.getLsbD_zero] at h1 h2
    refine ⟨h1, fun hin => ?_⟩
    rw [hin] at h2
    simpa using h2
  · intro h
    constructor
    · refine BitVec.eq_of_getLsbD_eq fun k hk => ?_
      simpa using (h k hk).1
    · refine BitVec.eq_of_getLsbD_eq fun k hk => ?_
      simp only [BitVec.getLsbD_and, BitVec.getLsbD_or, BitVec.getLsbD_not, hk, decide_true, Bool.true_and,
        BitVec.ofNat_eq_ofNat, BitVec.getLsbD_zero]
      cases hin : (c.served.getLsbD k || c.missed.getLsbD k) with
      | false => rfl
      | true => rw [(h k hk).2 hin]; rfl

theorem stationBit_getLsbD (i : StationId) (k : Nat) : (stationBit i).getLsbD k = decide (i.val = k) := by
  simp only [stationBit, BitVec.getLsbD_twoPow, i.isLt, decide_true, Bool.true_and]

theorem Car.setsLaw_recordMissed {c : Car} (h : c.setsLaw) (i : StationId) : (c.recordMissed i).setsLaw := by
  unfold Car.recordMissed
  split
  next hunsettled =>
    simp only [Car.unsettled, hasStation, Bool.and_eq_true, Bool.not_eq_true'] at hunsettled
    obtain ⟨⟨hactivity, hserved⟩, hmissed⟩ := hunsettled
    rw [setsLaw_iff] at h ⊢
    intro k hk
    simp only [BitVec.getLsbD_or, stationBit_getLsbD]
    by_cases hik : i.val = k
    · subst hik
      simp only [hserved, hactivity, Bool.false_and, implies_true, and_self]
    · simpa [hik] using h k hk
  next => exact h

theorem Car.setsLaw_recordServed {c : Car} (h : c.setsLaw) (i : StationId) : (c.recordServed i).setsLaw := by
  unfold Car.recordServed
  split
  next hunsettled =>
    simp only [Car.unsettled, hasStation, Bool.and_eq_true, Bool.not_eq_true'] at hunsettled
    obtain ⟨⟨hactivity, hserved⟩, hmissed⟩ := hunsettled
    rw [setsLaw_iff] at h ⊢
    intro k hk
    simp only [BitVec.getLsbD_or, stationBit_getLsbD]
    by_cases hik : i.val = k
    · subst hik
      simp only [hmissed, hactivity, Bool.and_false, implies_true, and_self]
    · simpa [hik] using h k hk
  next => exact h

theorem Car.amends_recordMissed (c : Car) (i : StationId) : c.Amends (c.recordMissed i) where
  tag := by unfold Car.recordMissed; split <;> rfl
  length := by unfold Car.recordMissed; split <;> exact id
  phase := by unfold Car.recordMissed; split <;> exact id
  sets := fun h => c.setsLaw_recordMissed h i
  sale := by unfold Car.recordMissed; split <;> rfl

theorem Car.amends_recordServed (c : Car) (i : StationId) : c.Amends (c.recordServed i) where
  tag := by unfold Car.recordServed; split <;> rfl
  length := by unfold Car.recordServed; split <;> exact id
  phase := by unfold Car.recordServed; split <;> exact id
  sets := fun h => c.setsLaw_recordServed h i
  sale := by unfold Car.recordServed; split <;> rfl

/-- A service is settled for a car that the station is not engaged with. -/
theorem State.Upholds.recordMissed (h : s.Upholds l) {tag : Nat} {i : StationId} (hfree : s.seq.stations[i].car ≠ some tag) :
    (s.recordMissed tag i).Upholds l :=
  h.onCar tag (fun c => c.amends_recordMissed i) fun _ c _ _ j hcar hunsettled => by
    have hji : j ≠ i := fun e => hfree (e ▸ hcar)
    rw [c.unsettled_recordMissed hji, hunsettled]

theorem State.Upholds.recordService (h : s.Upholds l) {tag : Nat} {i : StationId} (hfree : s.seq.stations[i].car ≠ some tag)
    (served : Bool) : (s.recordService tag i served).Upholds l := by
  unfold State.recordService
  split
  · exact h.onCar tag (fun c => c.amends_recordServed i) fun _ c _ _ j hcar hunsettled => by
      have hji : j ≠ i := fun e => hfree (e ▸ hcar)
      rw [c.unsettled_recordServed hji, hunsettled]
  · exact h.recordMissed hfree

end Sys2Proof.Machine
end

section
/-! The laws of the lists through the shared operations of Ops.lean: the admission check, the changes of the halt and pacer states,
the halt actions and the taking of a cause, which alone writes the incident log. -/

set_option Elab.async false

namespace Sys2Proof.Machine

variable {s t : State} {l : Law}

/-! ## The gate -/

theorem State.Upholds.admissionCheck (h : s.Upholds l) : s.admissionCheck.Upholds l :=
  h.of_same (admissionCheck_touches s) admissionCheck_sameService

theorem State.Upholds.finishCall (h : s.Upholds l) : s.finishCall.Upholds l :=
  (h.of_touches (endCall_touches s)).admissionCheck

/-! ## The Halt Controller's record -/

/-- A change of the Halt Controller's record alone. -/
theorem State.Upholds.onHalt (h : s.Upholds l) {f : HaltBlock → HaltBlock} (hlog : s.logLaw → (s.onHalt f).logLaw)
    (hnewest : s.Upholds .newest → (s.onHalt f).Upholds .newest) : (s.onHalt f).Upholds l := by
  cases l with
  | log => exact hlog h
  | newest => exact hnewest h
  | _ => exact h.of_reads fun g hg => touches_onHalt s f g (by revert g hg; decide)

/-- A change of the ESTOP level or of the HALT line. -/
theorem State.Upholds.onHalt_same (h : s.Upholds l) {f : HaltBlock → HaltBlock} (hstate : (f s.halt).state = s.halt.state)
    (hlog : (f s.halt).log = s.halt.log) (hnext : (f s.halt).nextNumber = s.halt.nextNumber) : (s.onHalt f).Upholds l := by
  refine h.onHalt (fun h => ?_) fun h => ?_
  · simpa only [State.logLaw, State.onHalt_halt, hlog, hnext] using h
  · simpa only [State.Upholds, State.newestFirst, State.onHalt_halt, hlog, hstate] using h

/-- A change of the halt state, to CLEAR only once every incident is closed. -/
theorem State.Upholds.setHaltState (h : s.Upholds l) {st : HaltState}
    (hclear : l = .newest → st = .clear → openCount s.halt.log = 0) : (s.setHaltState st).Upholds l := by
  have hset : (s.onHalt fun b => { b with state := st }).Upholds l := by
    cases l with
    | log => exact h
    | newest => exact ⟨h.1, hclear rfl⟩
    | _ => exact h.of_reads fun g hg => touches_onHalt s _ g (by revert g hg; decide)
  exact hset.admissionCheck

theorem State.Upholds.haltingCheck (h : s.Upholds l) : s.haltingCheck.Upholds l := by
  unfold State.haltingCheck
  split
  · exact h.setHaltState nofun
  · exact h

theorem State.Upholds.enterHalting (h : s.Upholds l) : s.enterHalting.Upholds l :=
  (h.setHaltState (st := .halting) nofun).haltingCheck

/-! ## The incident log (R149 to R151) -/

/-- A record of the log within its bounds. -/
def Incident.Bounded (r : Incident) : Prop := r.secondary.length ≤ 4 ∧ r.more ≤ 255 ∧ 1 ≤ r.number ∧ r.number ≤ 255

/-- A change of the open incident that keeps its number and its bounds. -/
theorem State.Upholds.changeIncident (h : s.Upholds l) {f : Incident → Incident} (hnumber : ∀ r, (f r).number = r.number)
    (hbounded : ∀ r : Incident, r.Bounded → (f r).Bounded)
    (hcount : openCount s.halt.log = 0 → openCount (s.changeIncident f).halt.log = 0) : (s.changeIncident f).Upholds l := by
  refine h.onHalt (fun h => ?_) fun h => ?_
  · obtain ⟨hlength, hrecords, hnumbers, hnext⟩ := h
    have hsame : (s.halt.log.map fun r => if r.state ≠ .closed then f r else r).map (fun r => r.number) =
        s.halt.log.map fun r => r.number := by
      rw [List.map_map]
      refine List.map_congr_left fun r _ => ?_
      rw [Function.comp_apply]
      split
      · exact hnumber r
      · rfl
    refine ⟨by simpa using hlength, fun r hr => ?_, hsame ▸ hnumbers, hnext⟩
    obtain ⟨old, hold, rfl⟩ := List.mem_map.1 hr
    split
    · exact hbounded old (hrecords old hold)
    · exact hrecords old hold
  · obtain ⟨hnewest, hclear⟩ := h
    refine ⟨fun r hr => ?_, fun hst => hcount (hclear hst)⟩
    rw [State.onHalt_halt, ← List.map_tail] at hr
    obtain ⟨old, hold, rfl⟩ := List.mem_map.1 hr
    have hclosed := hnewest old hold
    rw [if_neg (not_not.2 hclosed)]
    exact hclosed

theorem State.Upholds.closeIncident (h : s.Upholds l) (way : Way) : (s.closeIncident way).Upholds l := by
  unfold State.closeIncident
  split
  · exact h
  · refine State.Upholds.of_touches (State.Upholds.changeIncident h ?_ ?_ ?_) (notify_touches _ _)
    · exact fun _ => rfl
    · exact fun _ hbounded => hbounded
    · exact fun _ => openCount_map_of_closed (fun _ => rfl) s.halt.log

theorem State.Upholds.endRestarting (h : s.Upholds l) : s.endRestarting.Upholds l :=
  (h.closeIncident .resumed).setHaltState fun _ _ => closeIncident_openCount s .resumed

theorem State.Upholds.setPacerState (h : s.Upholds l) (p : PacerState) : (s.setPacerState p).Upholds l := by
  have hset := h.of_touches (touches_onPacer s fun q => { q with state := p })
  have hstarted : (if p = .starting then (s.onPacer fun q => { q with state := p }).restartSilence
      else s.onPacer fun q => { q with state := p }).Upholds l := by
    split
    · exact hset.of_touches (restartSilence_touches _)
    · exact hset
  have hended {u : State} (hu : u.Upholds l) :
      (if u.halt.state = .restarting ∧ (p = .running ∨ p = .stopped) then u.endRestarting else u).Upholds l := by
    split
    · exact hu.endRestarting
    · exact hu
  exact (hended hstarted).admissionCheck

theorem Incident.Bounded.addCause {r : Incident} (h : r.Bounded) (c : Cause) : (r.addCause c).Bounded := by
  obtain ⟨hheld, hmore, hlow, hhigh⟩ := h
  unfold Incident.addCause
  split
  next hroom => exact ⟨by simpa using hroom, hmore, hlow, hhigh⟩
  next => exact ⟨hheld, Nat.min_le_left _ _, hlow, hhigh⟩

theorem Incident.number_addCause (r : Incident) (c : Cause) : (r.addCause c).number = r.number := by
  unfold Incident.addCause
  split <;> rfl

theorem State.Upholds.addSecondary (h : s.Upholds l) (c : Cause) : (s.addSecondary c).Upholds l := by
  unfold State.addSecondary
  split
  · exact h
  · refine State.Upholds.of_touches (State.Upholds.changeIncident h ?_ ?_ fun hnone => ?_) (notify_touches _ _)
    · exact fun r => r.number_addCause c
    · exact fun _ hbounded => Incident.Bounded.addCause hbounded c
    · exact (openCount_map_of_open (fun r => r.isOpen_addCause c) s.halt.log).trans hnone

/-! ## Stations (R96, R111, R112) -/

theorem recordService_onStation (tag : Nat) (i : StationId) (served : Bool) (f : Station → Station) :
    (s.recordService tag i served).onStation i f = (s.onStation i f).recordService tag i served := by
  cases served <;> rfl

/-- An engagement is dropped and its service missed. -/
theorem State.Upholds.missEngaged (h : s.Upholds l) (i : StationId) : (s.missEngaged i).Upholds l := by
  unfold State.missEngaged
  split
  · exact h
  next tag _ =>
    exact (h.onStation_free i (f := fun st => { st with car := none }) rfl).recordMissed (by rw [onStation_self]; nofun)

/-- A change of phase, to IDLE or FAULT only without a car. -/
theorem State.Upholds.setStationPhase (h : s.Upholds l) (i : StationId) {p : StationPhase}
    (hp : s.engagedLaw → s.seq.stations[i].car = none ∨ p ≠ .idle ∧ p ≠ .fault) : (s.setStationPhase i p).Upholds l := by
  have hphase : (s.onStation i fun st => { st with phase := p }).Upholds l := by
    refine h.onStation i fun hengaged tag htag => ?_
    rw [onStation_self] at htag ⊢
    rcases hp hengaged with hnone | ⟨hidle, hfault⟩
    · rw [hnone] at htag
      cases htag
    · exact ⟨hidle, hfault, (hengaged i tag htag).2.2⟩
  unfold State.setStationPhase
  dsimp only
  split
  · exact hphase.haltingCheck
  · exact hphase

theorem State.Upholds.stationHaltEntry (h : s.Upholds l) (i : StationId) : (s.stationHaltEntry i).Upholds l := by
  refine (h.missEngaged i).onStation_free i ?_
  rw [missEngaged_self]
  split
  · rfl
  · split <;> rfl

theorem State.Upholds.haltActions (h : s.Upholds l) : s.haltActions.Upholds l := by
  have hring := h.of_touches (touches_onRing s fun r => r.haltPart s.pacer.drive)
  have hpacer := hring.of_same (pacerHaltEntry_touches _) (.of_stations (by rw [pacerHaltEntry_eq]; rfl))
  exact (hpacer.foldl (fun _ i h => h.stationHaltEntry i) stationIds).of_touches (gateHaltPart_touches _)

/-! ## Taking a cause (9.3) -/

/-- A new record is within its bounds, has a number that no other holds, and stands before closed records (R144, R150, R151). -/
theorem State.logLaw.openBy (h : s.logLaw) (c : Cause) : (s.openBy c).logLaw := by
  have hfree := freeIncidentNumber_free h
  obtain ⟨hlength, hrecords, hnumbers, hlow, hhigh⟩ := h
  have hsub : (logWithRoom s.halt.log).Sublist s.halt.log := by
    unfold logWithRoom
    split
    · exact List.dropLast_sublist _
    · exact List.Sublist.refl _
  have hroom : (logWithRoom s.halt.log).length ≤ 7 := by
    unfold logWithRoom
    split
    · rw [List.length_dropLast]; omega
    · omega
  obtain ⟨hone, htop⟩ : 1 ≤ s.freeIncidentNumber ∧ s.freeIncidentNumber ≤ 255 := firstFree_range (by decide) 255 hlow hhigh
  unfold State.logLaw
  rw [openBy_halt]
  refine ⟨Nat.succ_le_succ hroom, ?_, ?_, nextInSequence_range (by decide) _⟩
  · intro r hr
    rcases List.mem_cons.1 hr with rfl | hr
    · exact ⟨by simp, by simp, hone, htop⟩
    · exact hrecords r (hsub.subset hr)
  · rw [List.map_cons, List.nodup_cons]
    refine ⟨fun hmem => ?_, (hsub.map _).nodup hnumbers⟩
    obtain ⟨r, hr, hnumber⟩ := List.mem_map.1 hmem
    have hheld : s.incidentNumberHeld s.freeIncidentNumber = true :=
      List.any_eq_true.2 ⟨r, hsub.subset hr, by simpa using hnumber⟩
    rw [hfree] at hheld
    cases hheld

theorem newestFirst_openBy (hnone : openCount s.halt.log = 0) (c : Cause) : (s.openBy c).newestFirst := by
  intro r hr
  obtain ⟨hlog, -⟩ := openBy_parts (s := s) c
  rw [hlog] at hr
  have hclosed := openCount_eq_zero_iff.1 (openCount_logWithRoom hnone) r hr
  simpa [Incident.isOpen] using hclosed

/-- A cause taken in CLEAR (R144): the log gains its record, and the halt actions follow. -/
theorem State.Upholds.openBy (h : s.Upholds l) (hclear : s.halt.state = .clear) (c : Cause) : (s.openBy c).Upholds l := by
  have hother (hl : Field.halt ∉ l.reads) : (s.openBy c).Upholds l := by
    have hnew : (s.newIncident c).Upholds l := h.of_reads fun f hf =>
      newIncident_touches s c f fun hmem => hl (List.mem_singleton.1 hmem ▸ hf)
    exact (hnew.haltActions.of_touches (notify_touches _ _)).enterHalting
  cases l with
  | log => exact State.logLaw.openBy h c
  | newest =>
    obtain ⟨-, hnone⟩ := h
    refine ⟨newestFirst_openBy (hnone hclear) c, fun hst => ?_⟩
    obtain ⟨-, -, hhalting⟩ := openBy_parts (s := s) c
    rw [hst] at hhalting
    simp at hhalting
  | _ => exact hother (by decide)

/-- A cause taken while an incident is open (R146). -/
theorem State.Upholds.secondaryBy (h : s.Upholds l) (c : Cause) : (s.secondaryBy c).Upholds l := by
  have hadded := h.addSecondary c
  unfold State.secondaryBy
  dsimp only
  split
  · exact (hadded.onHalt_same (f := fun b => { b with line := .asserted }) rfl rfl rfl).haltActions.enterHalting
  · exact hadded

theorem State.Upholds.markStruck (h : s.Upholds l) (c : Cause) : (s.markStruck c).Upholds l := by
  refine h.mapCars_same (fun k => ?_) fun k i => ?_
  · split
    · exact .of_fields rfl rfl rfl rfl rfl rfl rfl
    · exact .refl k
  · split <;> rfl

theorem State.Upholds.takeCause (h : s.Upholds l) (c : Cause) : (s.takeCause c).Upholds l := by
  have hmarked := h.markStruck c
  unfold State.takeCause
  dsimp only
  split
  next hclear =>
    split
    · exact hmarked
    · exact hmarked.openBy hclear c
  next => exact hmarked.secondaryBy c

theorem State.Upholds.raise (h : s.Upholds l) (kind : CauseKind) (tag tag2 station eye : Option Nat) :
    (s.raise kind tag tag2 station eye).Upholds l := h.takeCause _

end Sys2Proof.Machine
end

section
/-! The laws of the lists through the Station Sequencer (06): a station is left without its car before the service is settled, and
takes a car only while the service is unsettled. -/

set_option Elab.async false

namespace Sys2Proof.Machine

variable {s t : State} {l : Law} {i : StationId} {tag : Nat}

/-! ## Completion and failure (R104 to R106) -/

theorem Station.remainingPhase_serves {st : Station} (h : st.car ≠ none) :
    st.remainingPhase ≠ .idle ∧ st.remainingPhase ≠ .fault := by
  obtain ⟨c, hc⟩ := Option.ne_none_iff_exists'.1 h
  unfold Station.remainingPhase
  split
  · split <;> simp
  · simp [hc]

theorem State.Upholds.completeOrder (h : s.Upholds l) (i : StationId) : (s.completeOrder i).Upholds l := by
  unfold State.completeOrder
  split
  · exact h
  next o _ =>
    have hdone := h.onStation_same i (f := fun st => { st with current := none, timer := none }) fun _ => ⟨rfl, rfl⟩
    have hpending := hdone.of_same (handlePending_touches _ i o.action) (handlePending_sameService i o.action)
    dsimp only
    split
    · exact hpending
    · exact hpending.setStationPhase i fun _ => or_iff_not_imp_left.2 Station.remainingPhase_serves

theorem State.Upholds.dropOrder (h : s.Upholds l) (i : StationId) : (s.dropOrder i).Upholds l :=
  (h.missEngaged i).onStation_same i fun _ => ⟨rfl, rfl⟩

theorem dropOrder_car (s : State) (i : StationId) : (s.dropOrder i).seq.stations[i].car = none := by
  unfold State.dropOrder
  rw [onStation_self, missEngaged_self]

theorem State.Upholds.requestOrder (h : s.Upholds l) (i : StationId) (a : Action) (car : Option Nat) :
    (s.requestOrder i a car).Upholds l :=
  h.of_same (requestOrder_touches s i a car) (requestOrder_sameService i a car)

theorem State.Upholds.failOrder (h : s.Upholds l) (i : StationId) (reason : Reason) : (s.failOrder i reason).Upholds l := by
  unfold State.failOrder
  split
  · exact h
  next o _ =>
    have hdropped := h.dropOrder i
    have hout (c : Bool) :
        (if c then (s.dropOrder i).requestOrder i .out o.car else s.dropOrder i).Upholds l ∧
        (if c then (s.dropOrder i).requestOrder i .out o.car else s.dropOrder i).seq.stations[i].car = none := by
      cases c with
      | false => exact ⟨hdropped, dropOrder_car s i⟩
      | true =>
        exact ⟨hdropped.requestOrder i .out o.car, (requestOrder_sameService i .out o.car i).1.trans (dropOrder_car s i)⟩
    obtain ⟨hrequested, hcar⟩ := hout (o.action.begins && decide (s.map.table[i].kind = .arm))
    have hfault := (hrequested.setStationPhase i (p := .fault) fun _ => .inl hcar).of_touches
      (notify_touches _ (.stationFault i.val o.action reason s.seq.stations[i].car))
    dsimp only
    split
    · exact hfault.raise _ _ _ _ _
    · exact hfault

/-! ## Acknowledgments and arm reports (R101, R107, R110) -/

theorem State.Upholds.stationDone (h : s.Upholds l) (i : StationId) : (s.stationDone i).Upholds l := by
  unfold State.stationDone
  split
  · exact h
  · split
    · exact h.onStation_same i fun _ => ⟨rfl, rfl⟩
    · exact h.completeOrder i

theorem State.Upholds.stationAck (h : s.Upholds l) (i : StationId) (r : AckResult) : (s.stationAck i r).Upholds l := by
  cases r with
  | done => exact h.stationDone i
  | refused => exact h.failOrder i .refused

theorem State.Upholds.confirmPosition (h : s.Upholds l) (i : StationId) (position : ArmPosition) :
    (s.confirmPosition i position).Upholds l := by
  unfold State.confirmPosition
  split
  · exact h
  · split
    · split
      · exact h.completeOrder i
      · split
        · exact h.onStation_same i fun _ => ⟨rfl, rfl⟩
        · exact h
      · exact h
    · exact h

theorem State.Upholds.armReport (h : s.Upholds l) (i : StationId) (position : ArmPosition) (load : Nat) :
    (s.armReport i position load).Upholds l := by
  have hrecorded := h.onStation_same i (f := fun st => { st with position := position, load := load }) fun _ => ⟨rfl, rfl⟩
  have hconfirmed := hrecorded.confirmPosition i position
  unfold State.armReport
  dsimp only
  split
  · exact hconfirmed.raise _ _ _ _ _
  · exact hconfirmed

/-! ## Releases (R99, R108) -/

theorem setStationPhase_car (s : State) (i : StationId) (p : StationPhase) (j : StationId) :
    (s.setStationPhase i p).seq.stations[j].car = s.seq.stations[j].car := by
  have hphase : (s.onStation i fun st => { st with phase := p }).seq.stations[j].car = s.seq.stations[j].car := by
    by_cases hj : j = i
    · rw [hj, onStation_self]
    · rw [onStation_other hj]
  unfold State.setStationPhase
  dsimp only
  rw [haltingCheck_eq]
  split
  · split
    · exact hphase
    · exact hphase
  · exact hphase

/-- What is left of a release: the station without its car, the service settled, the OFF or OUT requested (R99). -/
def State.releaseParts (s : State) (i : StationId) (tag : Nat) (served : Bool) : State :=
  ((s.onStation i fun st => { st with car := none }).recordService tag i served).requestOrder i s.map.table[i].kind.offAction
    (some tag)

/-- A release leaves the state, or takes the parts and the phase after them. -/
theorem releaseStation_cases (s : State) (i : StationId) (early : Bool) :
    (s.releaseStation i early = s ∧
      (s.seq.stations[i].car = none ∨ s.seq.stations[i].phase = .idle ∨ s.seq.stations[i].phase = .fault)) ∨
    ∃ tag served p, s.seq.stations[i].car = some tag ∧
      s.releaseStation i early = (s.releaseParts i tag served).setStationPhase i p := by
  unfold State.releaseStation
  split
  next hnone => exact .inl ⟨rfl, .inl hnone⟩
  next tag htag =>
    dsimp only
    split
    next hidle => exact .inl ⟨rfl, .inr (.inl hidle)⟩
    next hfault => exact .inl ⟨rfl, .inr (.inr hfault)⟩
    next => exact .inr ⟨tag, _, _, htag, by rw [recordService_onStation]; rfl⟩

theorem releaseParts_car_self (s : State) (i : StationId) (tag : Nat) (served : Bool) :
    (s.releaseParts i tag served).seq.stations[i].car = none := by
  unfold State.releaseParts
  rw [(requestOrder_sameService i _ _ i).1]
  have hseq : ((s.onStation i fun st => { st with car := none }).recordService tag i served).seq =
      (s.onStation i fun st => { st with car := none }).seq := recordService_touches _ tag i served .seq (by decide)
  rw [hseq, onStation_self]

theorem releaseParts_car_other {j : StationId} (hj : j ≠ i) (served : Bool) :
    (s.releaseParts i tag served).seq.stations[j].car = s.seq.stations[j].car := by
  unfold State.releaseParts
  rw [(requestOrder_sameService i _ _ j).1]
  have hseq : ((s.onStation i fun st => { st with car := none }).recordService tag i served).seq =
      (s.onStation i fun st => { st with car := none }).seq := recordService_touches _ tag i served .seq (by decide)
  rw [hseq, onStation_other hj]

theorem State.Upholds.releaseStation (h : s.Upholds l) (i : StationId) (early : Bool) :
    (s.releaseStation i early).Upholds l := by
  rcases releaseStation_cases s i early with ⟨heq, -⟩ | ⟨tag, served, p, -, heq⟩
  · rwa [heq]
  · rw [heq]
    have hfree := h.onStation_free i (f := fun st => { st with car := none }) rfl
    have hserviced := (hfree.recordService (tag := tag) (i := i) (by rw [onStation_self]; nofun) served).requestOrder i
      s.map.table[i].kind.offAction (some tag)
    exact State.Upholds.setStationPhase (s := s.releaseParts i tag served) hserviced i fun _ =>
      .inl (releaseParts_car_self s i tag served)

/-- A release takes no car to any station. -/
theorem releaseStation_car_ne {j : StationId} (early : Bool) (h : s.seq.stations[j].car ≠ some tag) :
    (s.releaseStation i early).seq.stations[j].car ≠ some tag := by
  rcases releaseStation_cases s i early with ⟨heq, -⟩ | ⟨other, served, p, -, heq⟩
  · rwa [heq]
  · rw [heq, setStationPhase_car]
    by_cases hj : j = i
    · rw [hj, releaseParts_car_self]
      nofun
    · rwa [releaseParts_car_other hj]

/-- A station whose engagement is lawful has no car after its release. -/
theorem releaseStation_car_self (h : s.EngagedAt i) (early : Bool) : (s.releaseStation i early).seq.stations[i].car = none := by
  rcases releaseStation_cases s i early with ⟨heq, hnone⟩ | ⟨tag, served, p, -, heq⟩
  · rw [heq]
    cases hcar : s.seq.stations[i].car with
    | none => rfl
    | some tag =>
      obtain ⟨hidle, hfault, -⟩ := h tag hcar
      rcases hnone with hno | hno | hno
      · rw [hno] at hcar; cases hcar
      · exact absurd hno hidle
      · exact absurd hno hfault
  · rw [heq, setStationPhase_car, releaseParts_car_self]

/-- Operations taken station by station, each of which leaves its own station without the car, leave no station with it. -/
theorem foldl_disengages {f : State → StationId → State} (hkeeps : ∀ s i, s.Upholds .engaged → (f s i).Upholds .engaged)
    (hself : ∀ s i, s.Upholds .engaged → (f s i).seq.stations[i].car ≠ some tag)
    (hother : ∀ s i (j : StationId), s.seq.stations[j].car ≠ some tag → (f s i).seq.stations[j].car ≠ some tag)
    (is : List StationId) (h : s.Upholds .engaged) {j : StationId} (hj : j ∈ is ∨ s.seq.stations[j].car ≠ some tag) :
    (is.foldl f s).seq.stations[j].car ≠ some tag := by
  induction is generalizing s with
  | nil => exact hj.resolve_left List.not_mem_nil
  | cons i is ih =>
    refine ih (hkeeps s i h) ?_
    rcases hj with hj | hj
    · rcases List.mem_cons.1 hj with rfl | hj
      · exact .inr (hself s j h)
      · exact .inl hj
    · exact .inr (hother s i j hj)

theorem State.Upholds.releaseEngaged (h : s.Upholds l) (tag : Nat) (i : StationId) (early : Bool) :
    (if s.seq.stations[i].car = some tag then s.releaseStation i early else s).Upholds l := by
  split
  · exact h.releaseStation i early
  · exact h

theorem State.Upholds.releaseCar (h : s.Upholds l) (tag : Nat) (early : Bool) : (s.releaseCar tag early).Upholds l :=
  h.foldl (fun _ i h => h.releaseEngaged tag i early) stationIds

theorem releaseCar_disengages (h : s.Upholds .engaged) (tag : Nat) (early : Bool) (j : StationId) :
    (s.releaseCar tag early).seq.stations[j].car ≠ some tag := by
  have hj := mem_stationIds j
  unfold State.releaseCar
  generalize stationIds = is at hj ⊢
  refine foldl_disengages (f := fun s i => if s.seq.stations[i].car = some tag then s.releaseStation i early else s)
    (fun _ i h => h.releaseEngaged tag i early) (fun s i h => ?_) (fun s i j hj => ?_) is h
    (.inl hj)
  · split
    · rw [releaseStation_car_self (h.2 i)]
      nofun
    · assumption
  · split
    · exact releaseStation_car_ne early hj
    · exact hj

theorem State.Upholds.missCar (h : s.Upholds l) (tag : Nat) (i : StationId) :
    (if s.seq.stations[i].car = some tag then s.missEngaged i else s).Upholds l := by
  split
  · exact h.missEngaged i
  · exact h

theorem State.Upholds.dropCar (h : s.Upholds l) (tag : Nat) : (s.dropCar tag).Upholds l :=
  h.foldl (fun _ i h => h.missCar tag i) stationIds

theorem dropCar_disengages (h : s.Upholds .engaged) (tag : Nat) (j : StationId) :
    (s.dropCar tag).seq.stations[j].car ≠ some tag := by
  have hj := mem_stationIds j
  unfold State.dropCar
  generalize stationIds = is at hj ⊢
  refine foldl_disengages (f := fun s i => if s.seq.stations[i].car = some tag then s.missEngaged i else s)
    (fun _ i h => h.missCar tag i) (fun s i h => ?_) (fun s i j hj => ?_) is h
    (.inl hj)
  · split
    · rw [missEngaged_self]
      nofun
    · assumption
  · split
    · by_cases hji : j = i
      · rw [hji, missEngaged_self]
        nofun
      · rwa [missEngaged_other hji]
    · exact hj

theorem State.Upholds.settleOversize (h : s.Upholds l) (tag : Nat) : (s.settleOversize tag).Upholds l := by
  refine h.foldl (fun s i h => ?_) stationIds
  split
  · split
    · exact h.releaseStation i true
    next hfree => exact h.recordMissed hfree
  · exact h

/-! ## Trigger tests (R97 to R100) -/

theorem State.Upholds.offTest (h : s.Upholds l) (i : StationId) : (s.offTest i).Upholds l := by
  unfold State.offTest
  split
  · exact h
  · split
    · exact h.releaseStation i false
    · exact h

/-- Two services missed where one of the two cars was served (R100). -/
theorem State.Upholds.crowdStation (h : s.Upholds l) (i : StationId) (ahead behind : Nat) :
    (s.crowdStation i ahead behind).Upholds l := by
  have hordered := h.requestOrder i s.map.table[i].kind.offAction (some ahead)
  generalize hu : s.requestOrder i s.map.table[i].kind.offAction (some ahead) = u at hordered
  have hfree := hordered.onStation_free i (f := fun st => { st with car := none }) rfl
  have hcar : (u.onStation i fun st => { st with car := none }).seq.stations[i].car = none := by rw [onStation_self]
  have hmissed := (hfree.recordMissed (tag := ahead) (by rw [hcar]; nofun)).recordMissed (tag := behind) (i := i)
    (by rw [show State.seq _ = _ from recordMissed_touches _ ahead i .seq (by decide), hcar]; nofun)
  unfold State.crowdStation
  rw [hu]
  exact (hmissed.setStationPhase i (p := .releasing) fun _ => .inr ⟨nofun, nofun⟩).of_touches (notify_touches _ _)

/-- A car of the list at the on trigger of a station that has yet to serve it (R98). -/
structure State.Arrives (s : State) (i : StationId) (c : Car) : Prop where
  listed : c ∈ s.cars
  unsettled : c.unsettled i = true
  free : s.seq.stations[i].car ≠ some c.tag

theorem State.Upholds.onTriggerBusy (h : s.Upholds l) {c : Car} (ha : s.Arrives i c) (hidle : s.seq.stations[i].phase ≠ .idle)
    (hfault : s.seq.stations[i].phase ≠ .fault) : (s.onTriggerBusy i c.tag).Upholds l := by
  have hengaged := h.engage hidle hfault ⟨c, ha.listed, rfl, ha.unsettled⟩
  unfold State.onTriggerBusy
  split
  next other hother =>
    split
    · have hne : c.tag ≠ other := fun e => ha.free (e ▸ hother)
      exact hengaged.recordService (tag := other) (by rw [onStation_self]; simpa using hne) true
    · exact h.crowdStation i other c.tag
  · exact hengaged.requestOrder i _ _

/-- An IDLE station takes its car together with the phase that serves it (R98). -/
theorem State.Upholds.onTriggerIdle (h : s.Upholds l) {c : Car} (ha : s.Arrives i c) : (s.onTriggerIdle i c.tag).Upholds l := by
  unfold State.onTriggerIdle
  dsimp only
  generalize hp : (if s.map.table[i].kind = .posted then StationPhase.engaged else .engaging) = p
  have hserves : p ≠ .idle ∧ p ≠ .fault := by
    subst hp
    split
    · exact ⟨nofun, nofun⟩
    · exact ⟨nofun, nofun⟩
  generalize s.map.table[i].kind.onAction = a
  have hsame := requestOrder_sameService (s := s.onStation i fun st => { st with car := some c.tag }) i a (some c.tag)
  have htouches : Touches [.seq, .ring] s
      (((s.onStation i fun st => { st with car := some c.tag }).requestOrder i a (some c.tag)).onStation i fun st =>
        { st with phase := p }) :=
    ((onStation_touches s i _).andThen (requestOrder_touches _ _ _ _) (hs := [.seq, .ring])).andThen (onStation_touches _ _ _)
  have hcars : _ = s.cars := htouches .cars (by decide)
  have hphase : (((s.onStation i fun st => { st with car := some c.tag }).requestOrder i a (some c.tag)).onStation i fun st =>
      { st with phase := p }).Upholds l := by
    refine h.of_seq htouches fun hengaged j => ?_
    by_cases hj : j = i
    · subst hj
      intro tag htag
      rw [onStation_self] at htag ⊢
      rw [(hsame j).1, onStation_self] at htag
      cases htag
      exact ⟨hserves.1, hserves.2, c, hcars ▸ ha.listed, rfl, ha.unsettled⟩
    · refine State.EngagedAt.of_same (hengaged j) ?_ ?_ hcars
      · rw [onStation_other hj, (hsame j).1, onStation_other hj]
      · rw [onStation_other hj, (hsame j).2, onStation_other hj]
  unfold State.setStationPhase
  dsimp only
  split
  · exact hphase.haltingCheck
  · exact hphase

theorem State.Upholds.onTrigger (h : s.Upholds l) {c : Car} (ha : s.Arrives i c) : (s.onTrigger i c).Upholds l := by
  unfold State.onTrigger
  split
  · exact h.recordMissed ha.free
  next hworks =>
    split
    · exact h.recordMissed ha.free
    · split
      · exact h.onTriggerIdle ha
      next hidle => exact h.onTriggerBusy ha hidle fun hfault => hworks (.inr hfault)

theorem State.Upholds.onTest (h : s.Upholds l) (i : StationId) (tag : Nat) : (s.onTest i tag).Upholds l := by
  unfold State.onTest
  split
  · exact h
  next c hc =>
    split
    next hreaches =>
      simp only [State.reachesOn, Bool.and_eq_true, bne_iff_ne] at hreaches
      obtain ⟨⟨hunsettled, hfree⟩, -⟩ := hreaches
      exact h.onTrigger ⟨List.mem_of_find?_eq_some hc, hunsettled, hfree⟩
    next => exact h

theorem State.Upholds.stationTests (h : s.Upholds l) (i : StationId) : (s.stationTests i).Upholds l :=
  (h.offTest i).foldl (fun _ tag h => h.onTest i tag) _

theorem State.Upholds.sequencerAdvance (h : s.Upholds l) : s.sequencerAdvance.Upholds l := by
  unfold State.sequencerAdvance
  split
  · exact h.foldl (fun _ i h => h.stationTests i) stationIds
  · exact h

end Sys2Proof.Machine
end

section
/-! The laws of the lists through the Car Track (02) and the Wash Close Unit (08): how the list grows by a car and loses one, what a
close adds to a tally row, and how a sale goes back to the queue. -/

set_option Elab.async false

namespace Sys2Proof.Machine

variable {s t : State} {l : Law}

/-! ## Sale numbers (R123, R127) -/

/-- Fewer sale numbers, in whatever order. -/
theorem State.saleLaw.of_subperm (h : s.saleLaw) (hsub : t.saleNumbers.Subperm s.saleNumbers)
    (hnext : t.book.nextNumber = s.book.nextNumber) : t.saleLaw := by
  obtain ⟨hnodup, hrange, hlow, hhigh⟩ := h
  obtain ⟨m, hperm, hm⟩ := hsub
  refine ⟨hperm.nodup_iff.1 (hm.nodup hnodup), fun n hn => hrange n (hm.subset (hperm.mem_iff.2 hn)), ?_, ?_⟩
  · rwa [hnext]
  · rwa [hnext]

/-- The sale numbers that cars hold. -/
def carNumbers (cars : List Car) : List Nat := cars.filterMap fun c => c.sale.map fun x => x.number

/-- The sale numbers of a queue. -/
def queueNumbers (queue : List QueuedSale) : List Nat := queue.map fun q => q.sale.number

/-- The sale numbers of the open quotes. -/
def quoteNumbers (quotes : Vector (Option Quote) 15) : List Nat := quotes.toList.filterMap fun q => q.map fun x => x.number

theorem saleNumbers_eq (s : State) :
    s.saleNumbers = quoteNumbers s.book.quotes ++ queueNumbers s.book.queue ++ carNumbers s.cars := rfl

/-! ## A car enters (R20, R21) -/

/-- Without an entering car every record has a length (R19). -/
theorem length_isSome_of_noEntering (h : s.listLaw) (hno : enteringCar s.cars = none) : ∀ c ∈ s.cars, c.length.isSome = true := by
  obtain ⟨-, -, -, hlengths, -⟩ := h
  rcases List.eq_nil_or_concat s.cars with hnil | ⟨cars, d, hcars⟩
  · rw [hnil]; exact fun _ hc => absurd hc List.not_mem_nil
  · rw [List.concat_eq_append] at hcars
    rw [hcars] at hno hlengths ⊢
    rw [enteringCar_concat] at hno
    rw [List.dropLast_concat] at hlengths
    intro c hc
    rcases List.mem_append.1 hc with hc | hc
    · exact hlengths c hc
    · rw [List.mem_singleton.1 hc]
      cases hd : d.length with
      | none => rw [hd] at hno; cases hno
      | some x => rfl

/-- The record of a car whose front is at the datum: the tag is free, the length unknown, no service settled (R20). -/
structure State.Entrant (s : State) (d : Car) : Prop where
  tag : d.tag = s.freeTag
  length : d.length = none
  served : d.served = 0
  missed : d.missed = 0

/-- The state with a record at the end of the list and another sale queue. -/
def State.withEntrant (s : State) (d : Car) (queue : List QueuedSale) : State :=
  ((s.onNextTag fun _ => nextInSequence 255 s.freeTag).onCars fun cars => cars ++ [d]).onBook fun b => { b with queue := queue }

theorem State.listLaw.withEntrant (h : s.listLaw) (hroom : s.cars.length < 16) (hno : enteringCar s.cars = none) {d : Car}
    (hd : s.Entrant d) (queue : List QueuedSale) : (s.withEntrant d queue).listLaw := by
  have hlengths := length_isSome_of_noEntering h hno
  have hfree := freeTag_free h
  obtain ⟨-, htags, hcars, -, hlow, hhigh⟩ := h
  have hrange : 1 ≤ s.freeTag ∧ s.freeTag ≤ 255 := firstFree_range (by decide) 255 hlow hhigh
  refine ⟨?_, ?_, ?_, ?_, nextInSequence_range (by decide) _⟩
  · simpa [State.withEntrant] using hroom
  · show ((s.cars ++ [d]).map fun c => c.tag).Nodup
    rw [List.map_append, List.nodup_append]
    refine ⟨htags, by simp, fun a ha b hb hab => ?_⟩
    obtain ⟨c, hc, htag⟩ := List.mem_map.1 ha
    obtain rfl : b = s.freeTag := (List.mem_singleton.1 hb).trans hd.tag
    have hheld : s.tagHeld s.freeTag = true := List.any_eq_true.2 ⟨c, hc, beq_iff_eq.2 (htag.trans hab)⟩
    rw [hfree] at hheld
    cases hheld
  · intro c hc
    rcases List.mem_append.1 (show c ∈ s.cars ++ [d] from hc) with hc | hc
    · exact hcars c hc
    · obtain rfl := List.mem_singleton.1 hc
      rw [hd.tag]
      exact ⟨hrange.1, hrange.2, fun _ => hd.length⟩
  · show ∀ c ∈ (s.cars ++ [d]).dropLast, c.length.isSome = true
    rw [List.dropLast_concat]
    exact hlengths

/-- The entering car holds the place its sale had in the queue (R125). -/
theorem State.roomLaw.withEntrant (hlist : s.listLaw) (h : s.roomLaw) {d : Car} {queue : List QueuedSale}
    (hnew : (s.withEntrant d queue).listLaw) (hd : s.Entrant d)
    (hqueue : s.book.queue.length = queue.length + if d.sale.isSome then 1 else 0) : (s.withEntrant d queue).roomLaw := by
  rw [roomLaw_iff hlist, hqueue] at h
  rw [roomLaw_iff hnew]
  show queue.length + (s.cars ++ [d]).countP Car.holdsPlace ≤ 24
  have hplace : d.holdsPlace = d.sale.isSome := by rw [Car.holdsPlace, hd.length]; rfl
  rw [List.countP_append, List.countP_singleton, hplace]
  omega

theorem saleNumbers_withEntrant {d : Car} {queue : List QueuedSale}
    (hqueue : queueNumbers s.book.queue = (d.sale.map fun x => x.number).toList ++ queueNumbers queue) :
    (s.withEntrant d queue).saleNumbers.Perm s.saleNumbers := by
  have hcars : carNumbers (s.cars ++ [d]) = carNumbers s.cars ++ (d.sale.map fun x => x.number).toList := by
    unfold carNumbers
    rw [List.filterMap_append]
    cases hsale : d.sale <;> simp [hsale]
  rw [saleNumbers_eq, saleNumbers_eq, hqueue]
  show (quoteNumbers s.book.quotes ++ queueNumbers queue ++ carNumbers (s.cars ++ [d])).Perm _
  rw [hcars]
  refine List.perm_iff_count.2 fun a => ?_
  simp only [List.count_append]
  omega

/-- A record at the end of the list with the sale that leaves the queue. -/
theorem State.Upholds.withEntrant (h : s.Upholds l) (hroom : s.cars.length < 16) (hno : enteringCar s.cars = none) {d : Car}
    (hd : s.Entrant d) {queue : List QueuedSale}
    (hqueue : queueNumbers s.book.queue = (d.sale.map fun x => x.number).toList ++ queueNumbers queue) :
    (s.withEntrant d queue).Upholds l := by
  have hlength : s.book.queue.length = queue.length + if d.sale.isSome then 1 else 0 := by
    have := congrArg List.length hqueue
    simp only [queueNumbers, List.length_map, List.length_append] at this
    rw [this]
    cases d.sale <;> simp [Nat.add_comm]
  have hsets (hs : s.setsLaw) : (s.withEntrant d queue).setsLaw := by
    intro c hc
    rcases List.mem_append.1 (show c ∈ s.cars ++ [d] from hc) with hc | hc
    · exact hs c hc
    · obtain rfl := List.mem_singleton.1 hc
      simp [Car.setsLaw, hd.served, hd.missed]
  cases l with
  | log => exact h
  | newest => exact h
  | list => exact State.listLaw.withEntrant h hroom hno hd queue
  | room =>
    obtain ⟨hlist, hplaces⟩ := h
    have hnew := hlist.withEntrant hroom hno hd queue
    exact ⟨hnew, hplaces.withEntrant hlist hnew hd hlength⟩
  | sales =>
    obtain ⟨hlist, hplaces, hsales⟩ := h
    have hnew := hlist.withEntrant hroom hno hd queue
    exact ⟨hnew, hplaces.withEntrant hlist hnew hd hlength, hsales.of_subperm (saleNumbers_withEntrant hqueue).subperm rfl⟩
  | sets => exact hsets h
  | engaged =>
    obtain ⟨hlist, hengaged⟩ := h
    refine ⟨hlist.withEntrant hroom hno hd queue, fun i tag htag => ?_⟩
    obtain ⟨hidle, hfault, c, hc, hcar⟩ := hengaged i tag htag
    exact ⟨hidle, hfault, c, List.mem_append_left _ hc, hcar⟩
  | tally => exact ⟨hsets h.1, h.2⟩

theorem State.Upholds.appendCar (h : s.Upholds l) (hroom : s.cars.length < 16) (hno : enteringCar s.cars = none) :
    s.appendCar.Upholds l := by
  have hentrant : s.Entrant s.newCar := ⟨rfl, rfl, rfl, rfl⟩
  unfold State.appendCar
  dsimp only
  split
  next hqueue => exact h.withEntrant hroom hno hentrant (queue := s.book.queue) rfl
  next q rest hqueue =>
    have hbound : s.Entrant (s.newCar.bind q) := ⟨rfl, rfl, rfl, rfl⟩
    exact (h.withEntrant hroom hno hbound (queue := rest) (by rw [hqueue]; rfl)).admissionCheck

theorem State.Upholds.markUncalled (h : s.Upholds l) (tag : Nat) : (s.markUncalled tag).Upholds l := by
  unfold State.markUncalled
  split
  · exact h
  · refine State.Upholds.of_touches (h.onCar_same tag ?_ ?_) (notify_touches _ _)
    · exact fun c => .of_fields rfl rfl rfl rfl rfl rfl rfl
    · exact fun _ _ => rfl

theorem State.Upholds.gateEntryFront (h : s.Upholds l) : s.gateEntryFront.Upholds l := by
  unfold State.gateEntryFront
  split
  · exact h.finishCall
  · exact h.admissionCheck

/-- A tentative rear is taken or forgotten (R22, R23). -/
theorem State.Upholds.setTentative (h : s.Upholds l) (tag : Nat) (x : Option Word) :
    (s.onCar tag fun k => { k with tentative := x }).Upholds l :=
  h.onCar_same tag (fun _ => .of_fields rfl rfl rfl rfl rfl rfl rfl) fun _ _ => rfl

theorem State.Upholds.entryOn (h : s.Upholds l) : s.entryOn.Upholds l := by
  unfold State.entryOn
  split
  next hno =>
    unfold State.entryFront
    split
    · exact h.raise _ _ _ _ _
    next hroom => exact ((h.appendCar (Nat.not_le.1 hroom) hno).markUncalled _).gateEntryFront
  next c _ =>
    split
    · exact h.setTentative c.tag none
    · exact h

theorem State.Upholds.entryOff (h : s.Upholds l) : s.entryOff.Upholds l := by
  unfold State.entryOff
  split
  · exact h
  · split
    · exact h
    · exact h.setTentative _ _

/-! ## The tally row of a close (R135, R137) -/

theorem weightSum_mono {table : Vector StationEntry 32} {x y : StationSet} (h : ∀ i, hasStation x i = true → hasStation y i = true) :
    weightSum table x ≤ weightSum table y := by
  have hfold (is : List StationId) (a b : Nat) (hab : a ≤ b) :
      is.foldl (fun sum i => if hasStation x i then sum + table[i].weight else sum) a ≤
        is.foldl (fun sum i => if hasStation y i then sum + table[i].weight else sum) b := by
    induction is generalizing a b with
    | nil => exact hab
    | cons i is ih =>
      refine ih _ _ ?_
      dsimp only
      cases hx : hasStation x i with
      | true => rw [h i hx]; exact Nat.add_le_add_right hab _
      | false =>
        rw [if_neg Bool.false_ne_true]
        split
        · exact Nat.le_add_right_of_le hab
        · exact hab
  exact hfold stationIds 0 0 (Nat.le_refl 0)

theorem creditShare_le {amount part whole : Nat} (h : part ≤ whole) : creditShare amount part whole ≤ amount := by
  unfold creditShare
  split
  · exact Nat.zero_le _
  · exact Nat.div_le_of_le_mul (by rw [Nat.mul_comm whole]; exact Nat.mul_le_mul_left amount h)

/-- The credit of a close is at most the amount of the sale (R135). -/
theorem washCredit_le {c : Car} (h : c.setsLaw) (table : Vector StationEntry 32) (outcome : WashOutcome) :
    washCredit table c outcome ≤ c.amount := by
  rw [setsLaw_iff] at h
  unfold washCredit
  split
  · exact Nat.zero_le _
  · exact Nat.zero_le _
  · exact Nat.zero_le _
  · exact Nat.le_refl _
  · exact Nat.le_refl _
  · refine creditShare_le (weightSum_mono fun i hi => (h i.val i.isLt).2 ?_)
    rw [show c.missed.getLsbD i.val = true from hi, Bool.or_true]
  · refine creditShare_le (weightSum_mono fun i hi => ?_)
    simp only [hasStation, BitVec.getLsbD_and, Bool.and_eq_true] at hi
    exact hi.1

theorem TallyRow.law_addClose {r : TallyRow} (h : r.law) {amount credit : Nat} (hle : credit ≤ amount) :
    (r.addClose amount credit).law := by
  obtain ⟨hcredit, -, -, hvoids, hamount⟩ := h
  refine ⟨?_, Nat.min_le_left _ _, Nat.min_le_left _ _, hvoids, hamount⟩
  show min 4294967295 (r.credit + credit) ≤ min 4294967295 (r.gross + amount)
  omega

theorem TallyRow.law_addVoid {r : TallyRow} (h : r.law) (amount : Nat) : (r.addVoid amount).law := by
  obtain ⟨hcredit, hwashes, hgross, -, -⟩ := h
  exact ⟨hcredit, hwashes, hgross, Nat.min_le_left _ _, Nat.min_le_left _ _⟩

theorem State.Upholds.onTally (h : s.Upholds l) (p : Fin 16) {f : TallyRow → TallyRow}
    (hf : s.setsLaw → s.tallies[p].law → (f s.tallies[p]).law) : (s.onTally p f).Upholds l := by
  cases l with
  | tally =>
    obtain ⟨hsets, htally⟩ := h
    refine ⟨hsets, fun q => ?_⟩
    show ((s.tallies.set p (f s.tallies[p]))[q]).law
    by_cases hq : q = p
    · rw [hq, getElem_set_eq']
      exact hf hsets (htally p)
    · rw [getElem_set_ne' _ _ _ _ hq]
      exact htally q
  | _ => exact h.of_reads fun g hg => onTally_touches s p f g (by revert g hg; decide)

theorem State.Upholds.washClose (h : s.Upholds l) {c : Car} (hc : c ∈ s.cars) (reason : CloseReason) :
    (s.washClose c reason).Upholds l :=
  (h.onTally c.plan fun hsets hrow => TallyRow.law_addClose hrow (washCredit_le (hsets c hc) _ _)).of_touches (notify_touches _ _)

/-! ## A car leaves (R35) -/

theorem dropLast_filter_subset {α : Type} (p : α → Bool) (as : List α) : (as.filter p).dropLast ⊆ as.dropLast := by
  rcases List.eq_nil_or_concat as with rfl | ⟨bs, b, rfl⟩
  · exact fun _ h => h
  · rw [List.concat_eq_append, List.dropLast_concat, List.filter_append]
    intro x hx
    cases hb : p b with
    | true =>
      rw [List.filter_cons_of_pos hb, List.filter_nil, List.dropLast_concat] at hx
      exact List.mem_of_mem_filter hx
    | false =>
      rw [List.filter_cons_of_neg (by simp [hb]), List.filter_nil, List.append_nil] at hx
      exact List.mem_of_mem_filter (List.mem_of_mem_dropLast hx)

/-- The state without the record of a tag. -/
def State.without (s : State) (tag : Nat) : State := s.onCars fun cars => cars.filter fun k => k.tag != tag

theorem State.listLaw.without (h : s.listLaw) (tag : Nat) : (s.without tag).listLaw := by
  obtain ⟨hcount, htags, hcars, hlengths, hnext⟩ := h
  refine ⟨(List.length_filter_le _ _).trans hcount, (List.filter_sublist.map _).nodup htags, fun c hc => ?_, fun c hc => ?_, hnext⟩
  · exact hcars c (List.mem_of_mem_filter hc)
  · exact hlengths c (dropLast_filter_subset _ _ hc)

theorem State.roomLaw.without (hlist : s.listLaw) (h : s.roomLaw) (tag : Nat) : (s.without tag).roomLaw := by
  rw [roomLaw_iff (hlist.without tag)]
  rw [roomLaw_iff hlist] at h
  exact (Nat.add_le_add_left (List.filter_sublist.countP_le) _).trans h

theorem saleNumbers_without (s : State) (tag : Nat) : (s.without tag).saleNumbers.Sublist s.saleNumbers :=
  List.Sublist.append_left (List.filter_sublist.filterMap _) _

theorem State.Upholds.without (h : s.Upholds l) {tag : Nat}
    (hfree : l = .engaged → ∀ i : StationId, s.seq.stations[i].car ≠ some tag) : (s.without tag).Upholds l := by
  cases l with
  | log => exact h
  | newest => exact h
  | list => exact State.listLaw.without h tag
  | room =>
    obtain ⟨hlist, hroom⟩ := h
    exact ⟨hlist.without tag, hroom.without hlist tag⟩
  | sales =>
    obtain ⟨hlist, hroom, hsales⟩ := h
    exact ⟨hlist.without tag, hroom.without hlist tag, hsales.of_subperm (saleNumbers_without s tag).subperm rfl⟩
  | sets => exact fun c hc => h c (List.mem_of_mem_filter hc)
  | engaged =>
    obtain ⟨hlist, hengaged⟩ := h
    refine ⟨hlist.without tag, fun i other hother => ?_⟩
    obtain ⟨hidle, hfault, c, hc, rfl, hunsettled⟩ := hengaged i other hother
    refine ⟨hidle, hfault, c, List.mem_filter.2 ⟨hc, bne_iff_ne.2 fun htag => ?_⟩, rfl, hunsettled⟩
    exact hfree rfl i (htag ▸ hother)
  | tally =>
    obtain ⟨hsets, htally⟩ := h
    exact ⟨fun c hc => hsets c (List.mem_of_mem_filter hc), htally⟩

theorem State.Upholds.handOver (h : s.Upholds l) {tag : Nat} (reason : CloseReason)
    (hfree : l = .engaged → ∀ i : StationId, s.seq.stations[i].car ≠ some tag) : (s.handOver tag reason).Upholds l := by
  unfold State.handOver
  split
  · exact h
  next c hc => exact ((h.washClose (List.mem_of_find?_eq_some hc) reason).without hfree).admissionCheck

theorem Car.amends_missUnsettled (c : Car) : c.Amends (stationIds.foldl Car.recordMissed c) :=
  List.foldlRecOn (motive := fun d => c.Amends d) stationIds _ (.refl c) fun d hd i _ => hd.trans (d.amends_recordMissed i)

theorem State.Upholds.missUnsettled (h : s.Upholds l) {tag : Nat}
    (hfree : l = .engaged → ∀ i : StationId, s.seq.stations[i].car ≠ some tag) : (s.missUnsettled tag).Upholds l :=
  h.onCar tag Car.amends_missUnsettled fun hl _ _ _ i hcar => absurd hcar (hfree hl i)

theorem State.Upholds.settleClosing (h : s.Upholds l) (tag : Nat) (reason : CloseReason) :
    (s.settleClosing tag reason).Upholds l := by
  unfold State.settleClosing
  split
  · exact h.releaseCar tag false
  · exact h.releaseCar tag true
  · exact h.releaseCar tag true
  · exact h.dropCar tag

theorem settleClosing_disengages (h : s.Upholds .engaged) (tag : Nat) (reason : CloseReason) (i : StationId) :
    (s.settleClosing tag reason).seq.stations[i].car ≠ some tag := by
  unfold State.settleClosing
  split
  · exact releaseCar_disengages h tag false i
  · exact releaseCar_disengages h tag true i
  · exact releaseCar_disengages h tag true i
  · exact dropCar_disengages h tag i

/-- The last two steps of a close, once no station is engaged with the car (R35). -/
theorem State.Upholds.settledClose (h : s.Upholds l) {tag : Nat} (reason : CloseReason)
    (hfree : l = .engaged → ∀ i : StationId, s.seq.stations[i].car ≠ some tag) :
    ((s.missUnsettled tag).handOver tag reason).Upholds l :=
  (h.missUnsettled hfree).handOver reason hfree

theorem State.Upholds.closeCar (h : s.Upholds l) (tag : Nat) (reason : CloseReason) : (s.closeCar tag reason).Upholds l := by
  refine (h.settleClosing tag reason).settledClose reason fun hl i => ?_
  subst hl
  exact settleClosing_disengages h tag reason i

/-! ## Crowding (R28) -/

theorem State.Upholds.crowdPair (h : s.Upholds l) (ahead behind : Car) : (s.crowdPair ahead behind).Upholds l := by
  unfold State.crowdPair
  split
  · exact h
  · split
    · exact h.raise _ _ _ _ _
    · exact h

theorem State.Upholds.crowdAhead (h : s.Upholds l) (tag : Nat) : (s.crowdAhead tag).Upholds l := by
  unfold State.crowdAhead
  split
  · exact h.crowdPair _ _
  · exact h

theorem State.Upholds.crowdBehind (h : s.Upholds l) (tag : Nat) : (s.crowdBehind tag).Upholds l := by
  unfold State.crowdBehind
  split
  · exact h.crowdPair _ _
  · exact h

/-! ## The foreign object (R26): a sale goes back to the queue -/

/-- The record of a tag gives its sale up. -/
def dropSale (tag : Nat) (k : Car) : Car := if k.tag = tag then { k with sale := none } else k

theorem Car.stays_dropSale (tag : Nat) (c : Car) : c.Stays (dropSale tag c) := by
  unfold dropSale
  split
  · exact .of_fields rfl rfl rfl rfl rfl rfl
  · exact (Car.Amends.refl c).toStays

theorem unsettled_dropSale (tag : Nat) (c : Car) (i : StationId) : (dropSale tag c).unsettled i = c.unsettled i := by
  unfold dropSale
  split <;> rfl

theorem countP_holdsPlace_dropSale (tag : Nat) (cars : List Car) :
    (cars.map (dropSale tag)).countP Car.holdsPlace ≤ cars.countP Car.holdsPlace := by
  rw [List.countP_map]
  refine List.countP_mono_left fun c _ hplace => ?_
  rw [Function.comp_apply, dropSale] at hplace
  split at hplace
  · simp [Car.holdsPlace] at hplace
  · exact hplace

/-- The number a car gives up, and those the cars keep, are those the cars had. -/
theorem carNumbers_dropSale {cars : List Car} (htags : (cars.map fun c => c.tag).Nodup) {d : Car} (hd : d ∈ cars) {x : Sale}
    (hx : d.sale = some x) : (x.number :: carNumbers (cars.map (dropSale d.tag))).Perm (carNumbers cars) := by
  have hsame (k : Car) (hk : k.tag ≠ d.tag) : dropSale d.tag k = k := if_neg hk
  have hmapped (ks : List Car) (hks : ∀ k ∈ ks, k.tag ≠ d.tag) : ks.map (dropSale d.tag) = ks :=
    (List.map_congr_left fun k hk => hsame k (hks k hk)).trans (List.map_id ks)
  obtain ⟨as, bs, rfl⟩ := List.append_of_mem hd
  simp only [List.map_append, List.map_cons, List.nodup_append, List.nodup_cons, List.mem_map, List.mem_cons] at htags
  obtain ⟨-, ⟨hbs, -⟩, has⟩ := htags
  have hself : dropSale d.tag d = { d with sale := none } := if_pos rfl
  rw [List.map_append, List.map_cons, hmapped as fun k hk htag => has _ ⟨k, hk, rfl⟩ _ (.inl rfl) htag,
    hmapped bs fun k hk htag => hbs ⟨k, hk, htag⟩, hself]
  unfold carNumbers
  simp only [List.filterMap_append, List.filterMap_cons, Option.map_none, hx, Option.map_some]
  exact List.perm_middle.symm

/-- The queue has a place for the sale of a car, besides the one kept for an entering car. -/
def State.HasPlace (s : State) (c : Car) : Prop :=
  c.sale.isSome = true → s.book.queue.length + s.cars.countP Car.holdsPlace < 24

theorem State.Upholds.returnSale (h : s.Upholds l) {c d : Car} (hd : d ∈ s.cars) (htag : d.tag = c.tag) (hsale : d.sale = c.sale)
    (hplace : l = .room ∨ l = .sales → s.HasPlace c) : (s.returnSale c).Upholds l := by
  unfold State.returnSale
  split
  · exact h
  next x hx =>
    refine State.Upholds.admissionCheck ?_
    generalize hq : (fun b : SaleBook => { b with queue := { sale := x, activity := c.activity } :: b.queue }) = g
    have hlist (hlist : s.listLaw) : ((s.onCars (List.map (dropSale c.tag))).onBook g).listLaw :=
      State.listLaw.mapCars hlist fun k _ => k.stays_dropSale c.tag
    have hroom (hold : s.listLaw) (hfits : s.HasPlace c) :
        ((s.onCars (List.map (dropSale c.tag))).onBook g).roomLaw := by
      rw [roomLaw_iff (hlist hold)]
      have hcount := countP_holdsPlace_dropSale c.tag s.cars
      have hfits := hfits (by rw [hx]; rfl)
      subst hq
      show s.book.queue.length + 1 + (s.cars.map (dropSale c.tag)).countP Car.holdsPlace ≤ 24
      omega
    have hsets (hs : s.setsLaw) : (s.onCars (List.map (dropSale c.tag))).setsLaw :=
      hs.mapCars fun k _ => k.stays_dropSale c.tag
    show ((s.onCars (List.map (dropSale c.tag))).onBook g).Upholds l
    cases l with
    | log => exact h
    | newest => exact h
    | list => exact hlist h
    | room => exact ⟨hlist h.1, hroom h.1 (hplace (.inl rfl))⟩
    | sales =>
      obtain ⟨hold, -, hsales⟩ := h
      refine ⟨hlist hold, hroom hold (hplace (.inr rfl)), hsales.of_subperm (List.Perm.subperm ?_) (by subst hq; rfl)⟩
      have hperm := carNumbers_dropSale hold.2.1 hd (hsale.trans hx)
      rw [htag] at hperm
      subst hq
      show (quoteNumbers s.book.quotes ++ (x.number :: queueNumbers s.book.queue) ++
        carNumbers (s.cars.map (dropSale c.tag))).Perm _
      rw [saleNumbers_eq]
      refine List.perm_iff_count.2 fun a => ?_
      have hcount := hperm.count_eq a
      simp only [List.count_append, List.count_cons] at hcount ⊢
      omega
    | sets => exact hsets h
    | engaged =>
      obtain ⟨hold, hengaged⟩ := h
      exact ⟨hlist hold, hengaged.mapCars (fun k _ => k.stays_dropSale c.tag) fun k _ i _ hunsettled =>
        (unsettled_dropSale c.tag k i).trans hunsettled⟩
    | tally => exact ⟨hsets h.1, h.2⟩

/-- What a foreign car keeps of its activity are the services settled (R26). -/
theorem Car.amends_settledActivity (c : Car) : c.Amends { c with activity := c.served ||| c.missed } where
  tag := rfl
  length := id
  phase := id
  sets := fun h => ⟨h.1, by simp⟩
  sale := rfl

theorem State.Upholds.foreignObject (h : s.Upholds l) {c : Car} (hc : c ∈ s.cars) (hplace : l = .room ∨ l = .sales → s.HasPlace c) :
    (s.foreignObject c).Upholds l := by
  have hflag (k : Car) : k.Amends { k with flags := { k.flags with foreign := true } } := .of_fields rfl rfl rfl rfl rfl rfl rfl
  have hmarked := h.onCar_same c.tag hflag fun _ _ => rfl
  have hlisted : ({ c with flags := { c.flags with foreign := true } } : Car) ∈
      (s.onCar c.tag fun k => { k with flags := { k.flags with foreign := true } }).cars :=
    List.mem_map.2 ⟨c, hc, if_pos rfl⟩
  have hcount := countP_holdsPlace_map (cars := s.cars) (f := fun k =>
    if k.tag = c.tag then { k with flags := { k.flags with foreign := true } } else k) fun k _ => by
      split
      · exact hflag k
      · exact .refl k
  have hreturned := hmarked.returnSale hlisted rfl rfl fun hl hsale =>
    Nat.lt_of_le_of_lt (Nat.add_le_add_left hcount _) (hplace hl hsale)
  have hplanned := hreturned.onCar_same c.tag (f := fun k => { k with plan := 0 })
    (fun _ => .of_fields rfl rfl rfl rfl rfl rfl rfl) fun _ _ => rfl
  have hreleased := hplanned.releaseCar c.tag true
  refine State.Upholds.raise (hreleased.onCar c.tag Car.amends_settledActivity fun hl _ _ _ i hcar => ?_) _ _ _ _ _
  subst hl
  exact absurd hcar (releaseCar_disengages hplanned c.tag true i)

theorem State.Upholds.foreignTest (h : s.Upholds l) {tag : Nat}
    (hplace : ∀ c, carByTag s.cars tag = some c → l = .room ∨ l = .sales → s.HasPlace c) : (s.foreignTest tag).Upholds l := by
  unfold State.foreignTest
  split
  · exact h
  next c hc =>
    split
    · exact h
    · split
      · exact h.foreignObject (List.mem_of_find?_eq_some hc) (hplace c hc)
      · exact h

/-! ## The tests at a belt advance (R24 to R27, R31, R34) -/

theorem Car.amends_confirm (c : Car) (rear : Word) : c.Amends (c.confirm rear) where
  tag := rfl
  length := fun _ => rfl
  phase := by
    intro _ hphase
    unfold Car.confirm at hphase
    dsimp only at hphase
    split at hphase
    next => cases hphase
    next hno => exact absurd hphase hno
  sets := id
  sale := rfl

/-- A confirmed rear frees the place its car held, so that the sale may come back to the queue (R25, R26, R125). -/
theorem hasPlace_confirm (hlist : s.listLaw) (hroom : s.roomLaw) {c : Car} (hc : enteringCar s.cars = some c) (rear : Word)
    {d : Car} (hd : carByTag (s.onCar c.tag fun k => k.confirm rear).cars c.tag = some d) :
    (s.onCar c.tag fun k => k.confirm rear).HasPlace d := by
  obtain ⟨-, htags, -, hlengths, -⟩ := hlist
  obtain ⟨hlast, hnone⟩ := enteringCar_eq_some_iff.1 hc
  obtain ⟨before, hcars⟩ := List.getLast?_eq_some_iff.1 hlast
  have hcount : (s.onCar c.tag fun k => k.confirm rear).cars.countP Car.holdsPlace = 0 := by
    refine List.countP_eq_zero.2 fun k hk => ?_
    obtain ⟨old, hold, rfl⟩ := List.mem_map.1 hk
    rw [hcars] at hold hlengths
    rw [List.dropLast_concat] at hlengths
    have hmeasured : (if old.tag = c.tag then old.confirm rear else old).length.isSome = true := by
      split
      next => rfl
      next hne =>
        rcases List.mem_append.1 hold with hold | hold
        · exact hlengths old hold
        · exact absurd (congrArg Car.tag (List.mem_singleton.1 hold)) hne
    simp [Car.holdsPlace, Option.isNone_eq_false_iff.2 hmeasured]
  intro hsale
  obtain ⟨old, hold, hdold⟩ := List.mem_map.1 (List.mem_of_find?_eq_some hd)
  have hdtag : d.tag = c.tag := by simpa using List.find?_some hd
  have holdtag : old.tag = c.tag := by
    subst hdold
    split at hdtag
    · assumption
    · exact hdtag
  have hmem : c ∈ s.cars := by rw [hcars]; simp
  obtain rfl : old = c := List.inj_on_of_nodup_map htags hold hmem holdtag
  rw [if_pos rfl] at hdold
  subst hdold
  have hreserve : s.reserve = 1 := by
    unfold State.reserve
    rw [hc]
    exact if_pos hsale
  unfold State.roomLaw at hroom
  rw [hreserve] at hroom
  rw [hcount]
  exact hroom

theorem State.Upholds.confirmRear (h : s.Upholds l) : s.confirmRear.Upholds l := by
  unfold State.confirmRear
  split
  · exact h
  next c hc =>
    split
    · exact h
    next rear _ =>
      split
      · have hmeasured := (h.onCar_same c.tag (fun k => k.amends_confirm rear) fun _ _ => rfl).of_touches
          (touches_onGate _ fun g => { g with prevRear := some rear })
        refine State.Upholds.crowdAhead (hmeasured.foreignTest fun d hd hl => ?_) c.tag
        rcases hl with rfl | rfl
        · exact hasPlace_confirm h.1 h.2 hc rear hd
        · exact hasPlace_confirm h.1 h.2.1 hc rear hd
      · exact h

theorem State.Upholds.oversizeTest (h : s.Upholds l) : s.oversizeTest.Upholds l := by
  unfold State.oversizeTest
  split
  · exact h
  next c _ =>
    split
    · have hmarked := h.onCar_same c.tag (f := fun k => { k with flags := { k.flags with oversize := true } })
        (fun _ => .of_fields rfl rfl rfl rfl rfl rfl rfl) fun _ _ => rfl
      exact (hmarked.settleOversize c.tag).of_touches (notify_touches _ _)
    · exact h

theorem State.Upholds.missEye (h : s.Upholds l) (e tag : Nat) : (s.missEye e tag).Upholds l := by
  have hmarked := (h.of_touches (touches_onEyes s fun eyes => markUnreliable eyes e)).of_touches (notify_touches _ (.eyeMissed e tag))
  refine hmarked.mapCars_same (fun c => ?_) fun c i => ?_
  · split
    · exact .of_fields rfl rfl rfl rfl rfl rfl rfl
    · exact .refl c
  · split <;> rfl

theorem State.Upholds.missTest (h : s.Upholds l) (tag count : Nat) : (s.missTest tag count).Upholds l := by
  induction count generalizing s with
  | zero => exact h
  | succ count ih =>
    unfold State.missTest
    split
    · exact h
    · exact ih (h.missEye _ tag)

theorem State.Upholds.expiryTest (h : s.Upholds l) (tag : Nat) : (s.expiryTest tag).Upholds l := by
  unfold State.expiryTest
  split
  · exact h
  · split
    · exact h.closeCar tag .lost
    · exact h

theorem State.Upholds.trackAdvance (h : s.Upholds l) : s.trackAdvance.Upholds l :=
  (h.confirmRear.oversizeTest.foldl (fun _ tag h => h.missTest tag 6) _).foldl (fun _ tag h => h.expiryTest tag) _

/-! ## Tracking eyes and the exit (R29 to R33) -/

theorem State.Upholds.matchEye (h : s.Upholds l) (e : Nat) (c : Car) : (s.matchEye e c).Upholds l := by
  have hanchored := h.onCar_same c.tag
    (f := fun k => { k.reAnchor s.belt.count (eyePosition s.eyes e) with nextEye := nextEyeAbove s.eyes e })
    (fun _ => .of_fields rfl rfl rfl rfl rfl rfl rfl) fun _ _ => rfl
  refine State.Upholds.crowdBehind (State.Upholds.crowdAhead ?_ c.tag) c.tag
  split
  · exact hanchored.of_touches (notify_touches _ _)
  · exact hanchored

theorem State.Upholds.trackingOn (h : s.Upholds l) (e : Nat) : (s.trackingOn e).Upholds l := by
  unfold State.trackingOn
  split
  · exact h.raise _ _ _ _ _
  next c _ =>
    split
    · exact h.matchEye e c
    · exact (h.onCar_same c.tag (f := fun k => { k with nextEye := nextEyeAbove s.eyes e })
        (fun _ => .of_fields rfl rfl rfl rfl rfl rfl rfl) fun _ _ => rfl).raise _ _ _ _ _

theorem Car.amends_leaving (c : Car) : c.Amends { c with phase := .leaving } where
  tag := rfl
  length := id
  phase := nofun
  sets := id
  sale := rfl

theorem State.Upholds.exitOn (h : s.Upholds l) : s.exitOn.Upholds l := by
  unfold State.exitOn
  split
  · exact h.of_touches (notify_touches s _)
  next c _ =>
    have hleaving := h.onCar_same c.tag Car.amends_leaving fun _ _ => rfl
    split
    · dsimp only
      split
      · exact hleaving.raise _ _ _ _ _
      · exact hleaving
    · exact h.of_touches (notify_touches s _)

theorem State.Upholds.exitOff (h : s.Upholds l) : s.exitOff.Upholds l := by
  unfold State.exitOff
  split
  · exact h
  · split
    · exact h.closeCar _ .exit
    · exact h

end Sys2Proof.Machine
end

section
/-! The laws of the lists through the pacer, the gate, the belt advance, the eye edges and the passing of time: what of them is no
cause, no order and no car is outside the laws. -/

set_option Elab.async false

namespace Sys2Proof.Machine

variable {s t : State} {l : Law}

/-! ## The Belt Pacer (04) -/

theorem State.Upholds.onPacer (h : s.Upholds l) (f : Pacer → Pacer) : (s.onPacer f).Upholds l := h.of_touches (touches_onPacer s f)

theorem State.Upholds.exitBlockedCheck (h : s.Upholds l) : s.exitBlockedCheck.Upholds l := by
  unfold State.exitBlockedCheck
  split
  · split
    · exact h
    · exact (h.onPacer _).setPacerState .pointStop
  · exact h

theorem State.Upholds.exitZoneClear (h : s.Upholds l) : s.exitZoneClear.Upholds l := by
  unfold State.exitZoneClear
  split
  · exact ((h.onPacer _).setPacerState .running).exitBlockedCheck
  · exact h

theorem State.Upholds.faultAtEntry (h : s.Upholds l) : s.faultAtEntry.Upholds l := by
  unfold State.faultAtEntry
  split
  · exact h.raise _ _ _ _ _
  · exact h

theorem State.Upholds.startDone (h : s.Upholds l) : s.startDone.Upholds l :=
  ((h.onPacer _).setPacerState .running).faultAtEntry.exitBlockedCheck

theorem State.Upholds.startFailure (h : s.Upholds l) (reason : Reason) (number : Nat) : (s.startFailure reason number).Upholds l :=
  ((h.onPacer _).setPacerState .stopped).of_touches (notify_touches _ _)

theorem State.Upholds.startAck (h : s.Upholds l) (number : Nat) (r : AckResult) : (s.startAck number r).Upholds l := by
  cases r with
  | done => exact h.startDone
  | refused => exact h.startFailure .refused number

theorem State.Upholds.takeReport (h : s.Upholds l) (r : DriveReport) : (s.takeReport r).Upholds l := by
  have hchecked : (s.faultCheck r).Upholds l := by
    unfold State.faultCheck
    split
    · exact h.raise _ _ _ _ _
    · exact h
  have hrecorded := hchecked.onPacer fun p => { p with report := some r }
  unfold State.takeReport
  dsimp only
  split
  · exact (hrecorded.onPacer fun p => { p with watch := .met, stopTimer := none }).haltingCheck
  · exact hrecorded

theorem State.Upholds.driveFrame (h : s.Upholds l) (src : Nat) (r : DriveReport) : (s.driveFrame src r).Upholds l := by
  unfold State.driveFrame
  split
  · exact h.takeReport r
  · split
    · exact (h.of_touches (learnDrive_touches s src)).takeReport r
    · exact h

theorem State.Upholds.interval (h : s.Upholds l) : s.interval.Upholds l := by
  have hspeed := h.of_touches (intervalSpeed_touches s)
  have hsent := hspeed.of_touches (setpointStep_touches _)
  unfold State.interval State.deviationStep
  split
  · exact hspeed.raise _ _ _ _ _
  · split
    · exact hspeed.raise _ _ _ _ _
    · unfold State.stoppingEnd
      split
      · exact ((hsent.of_touches (queueSetpoint_touches _ 0)).onPacer _).setPacerState .stopped
      · exact hsent

theorem issueStart_sameService (s : State) : SameService s s.issueStart := .of_stations rfl

theorem State.Upholds.issueStart (h : s.Upholds l) : s.issueStart.Upholds l :=
  h.of_same (issueStart_touches s) (issueStart_sameService s)

theorem State.Upholds.runBelt (h : s.Upholds l) (speed : Nat) : (s.runBelt speed).state.Upholds l := by
  have hset : (s.setRunSpeed speed).Upholds l := h.onPacer _
  unfold State.runBelt
  split
  · split
    · exact h
    · split
      · exact h
      · rw [runAnswer_state]; exact hset.issueStart.setPacerState .starting
  · rw [runAnswer_state]; exact hset
  · rw [runAnswer_state]; exact hset
  · rw [runAnswer_state]; exact hset
  · rw [runAnswer_state]; exact (hset.setPacerState .running).exitBlockedCheck
  · exact h

theorem State.Upholds.stopBelt (h : s.Upholds l) : s.stopBelt.Upholds l := by
  unfold State.stopBelt
  split
  · exact (h.onPacer _).setPacerState .stopping
  · exact (h.onPacer _).setPacerState .stopping
  · exact (h.of_touches (abandonStart_touches s)).setPacerState .stopped
  · exact h.onPacer _
  · exact h
  · exact h

theorem State.Upholds.restart (h : s.Upholds l) : s.restart.Upholds l := by
  have hline := (h.onHalt_same (f := fun b => { b with line := .released }) rfl rfl rfl).of_touches
    (touches_onRing _ Ring.requestRelease)
  have hrestarting := (hline.setHaltState (st := .restarting) nofun).onPacer fun p => { p with watch := .idle, stopTimer := none }
  unfold State.restart State.pacerRestart
  dsimp only
  split
  · exact ((hrestarting.onPacer _).issueStart).setPacerState .starting
  · exact hrestarting.setPacerState .stopped

/-! ## TUNNEL RESET (R115, R159) -/

theorem State.Upholds.sequencerReset (h : s.Upholds l) : s.sequencerReset.Upholds l := by
  refine h.of_seq (sequencerReset_touches s) fun _ i => State.EngagedAt.of_none ?_
  simp [State.sequencerReset, Station.afterReset]

/-- The Halt Controller's part, taken in HALTED or CLEAR: every incident is closed before CLEAR (R159). -/
theorem State.Upholds.haltReset (h : s.Upholds l) (hstate : s.halt.state = .halted ∨ s.halt.state = .clear) :
    s.haltReset.Upholds l := by
  have hclosed : (if s.halt.state = .halted then s.closeIncident .reset else s).Upholds l ∧
      (l = .newest → openCount (if s.halt.state = .halted then s.closeIncident .reset else s).halt.log = 0) := by
    split
    next => exact ⟨h.closeIncident .reset, fun _ => closeIncident_openCount s .reset⟩
    next hno =>
      refine ⟨h, fun hl => ?_⟩
      subst hl
      exact h.2 (hstate.resolve_left hno)
  obtain ⟨hlaw, hcount⟩ := hclosed
  have hline {u : State} (hu : u.Upholds l) :=
    (hu.onHalt_same (f := fun b => { b with line := .released }) rfl rfl rfl).of_touches (touches_onRing _ Ring.requestRelease)
  exact (hline hlaw).setHaltState fun hl _ => hcount hl

/-- A TUNNEL RESET closes every car and is taken in CLEAR or HALTED (R158, R159). -/
theorem State.Upholds.resetTunnel (h : s.Upholds l) (hr : s.resetRefusal = none) : s.resetTunnel.Upholds l := by
  have htaken : s.halt.state = .halted ∨ s.halt.state = .clear := by
    cases hstate : s.halt.state <;> simp [State.resetRefusal, hstate] at hr ⊢
  have hclosed := h.foldl (fun _ tag h => h.closeCar tag .tunnelReset) s.tags
  have hhalt : (s.tags.foldl (fun s tag => s.closeCar tag .tunnelReset) s).halt = s.halt :=
    Touches.foldl closeCar_tunnelReset_touches s.tags s .halt (by decide)
  unfold State.resetTunnel
  generalize s.tags.foldl (fun s tag => s.closeCar tag .tunnelReset) s = u at hclosed hhalt
  have hreset : u.sequencerReset.pacerReset.halt = s.halt := by
    rw [pacerReset_halt (s := u.sequencerReset)]
    · exact hhalt
    · rw [show u.sequencerReset.halt = s.halt from hhalt]
      rcases htaken with e | e
      · rw [e]; decide
      · rw [e]; decide
  have hpacer : u.sequencerReset.pacerReset.Upholds l := (hclosed.sequencerReset.onPacer _).setPacerState .stopped
  refine State.Upholds.haltReset ((hpacer.of_touches (touches_onGate _ Gate.afterReset)).of_touches (touches_onRing _ _)) ?_
  simp only [State.onRing_halt, State.onGate_halt, hreset]
  exact htaken

/-! ## The gate, the advance and the edges (03, R4, R12) -/

theorem State.Upholds.onGate (h : s.Upholds l) (f : Gate → Gate) : (s.onGate f).Upholds l := h.of_touches (touches_onGate s f)

theorem State.Upholds.rollerFault (h : s.Upholds l) (reason : Reason) : (s.rollerFault reason).Upholds l := by
  unfold State.rollerFault
  split
  · exact h
  · exact ((h.of_touches (notify_touches s _)).onGate _).finishCall

theorem State.Upholds.callAck (h : s.Upholds l) (r : AckResult) : (s.callAck r).Upholds l := by
  cases r with
  | done => exact h.onGate _
  | refused => exact h.rollerFault .refused

theorem State.Upholds.reachTest (h : s.Upholds l) : s.reachTest.Upholds l := by
  unfold State.reachTest
  split
  · split
    · exact (h.of_touches (notify_touches s _)).finishCall
    · exact h
  · exact h

theorem State.Upholds.blockAdvance (h : s.Upholds l) (b : Block) : (s.blockAdvance b).Upholds l := by
  cases b with
  | track => exact h.trackAdvance
  | sequencer => exact h.sequencerAdvance
  | gate => exact (h.onGate _).reachTest.admissionCheck
  | pacer => exact h.exitBlockedCheck

theorem State.Upholds.beltAdvance (h : s.Upholds l) : s.beltAdvance.Upholds l := by
  obtain ⟨o, ho⟩ := beltAdvance_eq s
  rw [ho]
  have hadvanced : (s.advanceIn o).Upholds l := h.foldl (fun _ b h => h.blockAdvance b) (blockOrder o)
  exact hadvanced.of_touches (onChoices_touches _ _)

theorem State.Upholds.sample (h : s.Upholds l) (r : BitVec 16) : (s.sample r).Upholds l := by
  have hseen := (h.of_touches (touches_onBelt s fun b => { b with lastRaw := some r })).of_touches (restartSilence_touches _)
  unfold State.sample
  dsimp only
  split
  · exact hseen
  · split
    · exact hseen
    · split
      · exact (hseen.of_touches (touches_onBelt _ _)).beltAdvance
      · exact hseen.raise _ _ _ _ _

theorem State.Upholds.loadingEdge (h : s.Upholds l) (on : Bool) : (s.loadingEdge on).Upholds l := (h.onGate _).admissionCheck

theorem State.Upholds.deliverEdge (h : s.Upholds l) (e : Fin 10) (on : Bool) : (s.deliverEdge e on).Upholds l := by
  unfold State.deliverEdge
  split
  · exact h.loadingEdge on
  · split
    · exact h.entryOn
    · exact h.entryOff
  · split
    · exact h.exitOn
    · exact h.exitOff
  · unfold State.zoneEdge
    split
    · exact h.exitBlockedCheck
    · exact h.exitZoneClear
  · split
    · exact h.trackingOn _
    · exact h

theorem State.Upholds.eyeReport (h : s.Upholds l) (e : Fin 10) (level : Nat) : (s.eyeReport e level).Upholds l := by
  unfold State.eyeReport
  dsimp only
  split
  · exact h
  · exact (h.of_touches (touches_onEyes s _)).deliverEdge e _

end Sys2Proof.Machine
end

section
/-! The laws of the lists through the Sale Book (07): a quote that is closed becomes a queued sale of the same number, and a new
quote takes a number that nothing holds. -/

set_option Elab.async false

namespace Sys2Proof.Machine

variable {s t : State} {l : Law} {k : Fin 15}

/-! ## The numbers of the quotes (R123) -/

theorem quoteNumbers_split (quotes : Vector (Option Quote) 15) (k : Fin 15) : ∃ before after : List Nat,
    ∀ q : Option Quote, quoteNumbers (quotes.set k q) = before ++ (q.map fun x => x.number).toList ++ after := by
  refine ⟨(quotes.toList.take k.val).filterMap fun q => q.map fun x => x.number,
    (quotes.toList.drop (k.val + 1)).filterMap fun q => q.map fun x => x.number, fun q => ?_⟩
  have hk : k.val < quotes.toList.length := by simp
  unfold quoteNumbers
  rw [Vector.toList_set, List.set_eq_take_append_cons_drop, if_pos hk, List.filterMap_append, List.filterMap_cons]
  cases q <;> simp

theorem set_quote_self (quotes : Vector (Option Quote) 15) (k : Fin 15) : quotes.set k quotes[k] = quotes := by simp

/-- An open quote's number, and those of the other quotes. -/
theorem quoteNumbers_of_open {quotes : Vector (Option Quote) 15} {q : Quote} (hq : quotes[k] = some q) :
    (quoteNumbers quotes).Perm (q.number :: quoteNumbers (quotes.set k none)) := by
  obtain ⟨before, after, hsplit⟩ := quoteNumbers_split quotes k
  have hself := hsplit quotes[k]
  rw [set_quote_self, hq] at hself
  rw [hself, hsplit none]
  simp [List.perm_middle]

theorem quoteNumbers_set_some (quotes : Vector (Option Quote) 15) (k : Fin 15) (q : Quote) :
    (quoteNumbers (quotes.set k (some q))).Perm (q.number :: quoteNumbers (quotes.set k none)) := by
  obtain ⟨before, after, hsplit⟩ := quoteNumbers_split quotes k
  rw [hsplit (some q), hsplit none]
  simp [List.perm_middle]

theorem quoteNumbers_set_none (quotes : Vector (Option Quote) 15) (k : Fin 15) :
    (quoteNumbers (quotes.set k none)).Sublist (quoteNumbers quotes) := by
  obtain ⟨before, after, hsplit⟩ := quoteNumbers_split quotes k
  have hself := hsplit quotes[k]
  rw [set_quote_self] at hself
  rw [hself, hsplit none]
  simp

theorem quoteNumbers_length (quotes : Vector (Option Quote) 15) : (quoteNumbers quotes).length ≤ 15 := by
  exact (List.length_filterMap_le _ _).trans (by simp)

/-! ## Changes of the book -/

/-- A change of the book that makes no room short and holds no number twice. -/
theorem State.Upholds.onBook (h : s.Upholds l) {f : SaleBook → SaleBook}
    (hroom : l = .room ∨ l = .sales → s.roomLaw → (s.onBook f).roomLaw)
    (hsales : l = .sales → s.saleLaw → (s.onBook f).saleLaw) : (s.onBook f).Upholds l := by
  cases l with
  | room => exact ⟨h.1, hroom (.inl rfl) h.2⟩
  | sales => exact ⟨h.1, hroom (.inr rfl) h.2.1, hsales rfl h.2.2⟩
  | _ => exact h.of_reads fun g hg => touches_onBook s f g (by revert g hg; decide)

/-- A change of the book that leaves quotes and queue no longer than they were. -/
theorem State.Upholds.onBook_of_sublist (h : s.Upholds l) {f : SaleBook → SaleBook}
    (hqueue : (f s.book).queue.Sublist s.book.queue)
    (hquotes : (quoteNumbers (f s.book).quotes).Sublist (quoteNumbers s.book.quotes))
    (hnext : (f s.book).nextNumber = s.book.nextNumber) : (s.onBook f).Upholds l := by
  refine h.onBook (fun _ hroom => ?_) fun _ hsales => hsales.of_subperm (List.Sublist.subperm ?_) hnext
  · exact (Nat.add_le_add_right hqueue.length_le _).trans hroom
  · exact List.Sublist.append_right (hquotes.append (hqueue.map _)) _

/-- A write of the tables of the book. -/
theorem State.Upholds.of_book (h : s.Upholds l) (k : Touches [.book] s t) (hquotes : t.book.quotes = s.book.quotes)
    (hqueue : t.book.queue = s.book.queue) (hnext : t.book.nextNumber = s.book.nextNumber) : t.Upholds l := by
  have hwritten := h.onBook_of_sublist (f := fun _ => t.book) (by rw [hqueue]) (by rw [hquotes]) hnext
  refine hwritten.of_reads fun g _ => ?_
  by_cases hg : g = .book
  · subst hg; rfl
  · have hsame := k g (by simpa using hg)
    have hback : g.same (s.onBook fun _ => t.book) s := by
      cases g <;> first | rfl | exact absurd rfl hg
    exact hback.trans hsame

theorem State.Upholds.clearQuote (h : s.Upholds l) (k : Fin 15) : (s.clearQuote k).Upholds l :=
  h.onBook_of_sublist (List.Sublist.refl _) (quoteNumbers_set_none s.book.quotes k) rfl

/-! ## Quotes and closes (R124, R125, R129) -/

theorem mem_saleNumbers_of_held {n : Nat} (h : s.saleNumberHeld n = true) : n ∈ s.saleNumbers := by
  rw [saleNumbers_eq, List.mem_append, List.mem_append]
  simp only [State.saleNumberHeld, Bool.or_eq_true, List.any_eq_true, beq_iff_eq] at h
  rcases h with (⟨k, -, hk⟩ | ⟨q, hq, rfl⟩) | ⟨c, hc, hsale⟩
  · exact .inl (.inl (List.mem_filterMap.2 ⟨s.book.quotes[k], by simp, hk⟩))
  · exact .inl (.inr (List.mem_map_of_mem hq))
  · exact .inr (List.mem_filterMap.2 ⟨c, hc, hsale⟩)

theorem saleNumberHeld_of_mem {n : Nat} (h : n ∈ s.saleNumbers) : s.saleNumberHeld n = true := by
  rw [saleNumbers_eq, List.mem_append, List.mem_append] at h
  simp only [State.saleNumberHeld, Bool.or_eq_true, List.any_eq_true, beq_iff_eq]
  rcases h with (h | h) | h
  · obtain ⟨q, hq, hn⟩ := List.mem_filterMap.1 h
    obtain ⟨i, hi, rfl⟩ := List.getElem_of_mem hq
    exact .inl (.inl ⟨⟨i, by simpa using hi⟩, List.mem_finRange _, by simpa using hn⟩)
  · obtain ⟨q, hq, hn⟩ := List.mem_map.1 h
    exact .inl (.inr ⟨q, hq, hn⟩)
  · obtain ⟨c, hc, hn⟩ := List.mem_filterMap.1 h
    exact .inr ⟨c, hc, hn⟩

/-- At most 15 quotes, 24 queued sales and 16 cars hold a number, so that a free one is found (R123). -/
theorem freeSaleNumber_free (hlist : s.listLaw) (hroom : s.roomLaw) (hsales : s.saleLaw) :
    s.saleNumberHeld s.freeSaleNumber = false ∧ 1 ≤ s.freeSaleNumber ∧ s.freeSaleNumber ≤ 65535 := by
  obtain ⟨-, -, hlow, hhigh⟩ := hsales
  refine ⟨firstFree_free (l := s.saleNumbers) (fun _ => mem_saleNumbers_of_held) ?_ hlow hhigh,
    firstFree_range (by decide) 65535 hlow hhigh⟩
  have hquotes := quoteNumbers_length s.book.quotes
  have hqueue : s.book.queue.length ≤ 24 := (Nat.le_add_right _ _).trans hroom
  have hcars : (carNumbers s.cars).length ≤ 16 := (List.length_filterMap_le _ _).trans hlist.1
  rw [saleNumbers_eq, List.length_append, List.length_append, queueNumbers, List.length_map]
  omega

theorem State.Upholds.makeQuote (h : s.Upholds l) (k : Fin 15) (x : Offer) : (s.makeQuote k x).Upholds l := by
  have hcleared := h.clearQuote k
  unfold State.makeQuote
  refine hcleared.onBook (fun _ hroom => hroom) fun hl hsales => ?_
  subst hl
  obtain ⟨hfree, hone, htop⟩ := freeSaleNumber_free hcleared.1 hcleared.2.1 hsales
  obtain ⟨hnodup, hrange, -, -⟩ := hsales
  have hperm (g : SaleBook → SaleBook) (q : Quote) (hq : q.number = (s.clearQuote k).freeSaleNumber)
      (hg : (g (s.clearQuote k).book).quotes = (s.clearQuote k).book.quotes.set k (some q))
      (hqueue : (g (s.clearQuote k).book).queue = (s.clearQuote k).book.queue) :
      ((s.clearQuote k).onBook g).saleNumbers.Perm ((s.clearQuote k).freeSaleNumber :: (s.clearQuote k).saleNumbers) := by
    rw [saleNumbers_eq, saleNumbers_eq, State.onBook_book, State.onBook_cars, hg, hqueue]
    have hquotes := quoteNumbers_set_some (s.clearQuote k).book.quotes k q
    rw [hq] at hquotes
    have hsame : (s.clearQuote k).book.quotes.set k none = (s.clearQuote k).book.quotes := by simp
    rw [hsame] at hquotes
    exact (hquotes.append_right _).append_right _
  have hnumbers := hperm (fun b => { b with
      quotes := b.quotes.set k (some (s.quoteOf (s.clearQuote k).freeSaleNumber x))
      nextNumber := nextInSequence 65535 (s.clearQuote k).freeSaleNumber }) _ rfl rfl rfl
  refine ⟨hnumbers.nodup_iff.2 (List.nodup_cons.2 ⟨fun hmem => ?_, hnodup⟩), fun n hn => ?_, nextInSequence_range (by decide) _⟩
  · rw [saleNumberHeld_of_mem hmem] at hfree
    cases hfree
  · rcases List.mem_cons.1 (hnumbers.mem_iff.1 hn) with rfl | hn
    · exact ⟨hone, htop⟩
    · exact hrange n hn

theorem State.Upholds.closeQuote (h : s.Upholds l) {q : Quote} (hq : s.book.quotes[k] = some q)
    (hfits : s.book.queue.length + s.reserve < 24) (tender : Tender) : (s.closeQuote k q tender).Upholds l := by
  refine State.Upholds.admissionCheck (h.onBook (f := fun b => { b with
    quotes := b.quotes.set k none, queue := b.queue ++ [q.toSale (k.val + 1) tender] }) (fun _ _ => ?_) fun _ hsales => ?_)
  · show (s.book.queue ++ [q.toSale (k.val + 1) tender]).length + s.reserve ≤ 24
    rw [List.length_append, List.length_singleton]
    omega
  · refine hsales.of_subperm (List.Perm.subperm ?_) rfl
    rw [saleNumbers_eq, saleNumbers_eq]
    show (quoteNumbers (s.book.quotes.set k none) ++ queueNumbers (s.book.queue ++ [q.toSale (k.val + 1) tender]) ++
      carNumbers s.cars).Perm _
    have hcount := fun a => (quoteNumbers_of_open hq).count_eq a
    refine List.perm_iff_count.2 fun a => ?_
    have hcount := hcount a
    simp only [queueNumbers, List.map_append, List.map_cons, List.map_nil, List.count_append, List.count_cons,
      List.count_nil, Quote.toSale] at hcount ⊢
    omega

theorem State.Upholds.voidSale (h : s.Upholds l) (number : Nat) : (s.voidSale number).state.Upholds l := by
  unfold State.voidSale
  split
  · exact h
  next q _ =>
    have hremoved := h.onBook_of_sublist (f := fun b => { b with queue := b.queue.filter fun x => x.sale.number != number })
      List.filter_sublist (List.Sublist.refl _) rfl
    exact (hremoved.onTally q.sale.plan fun _ hrow => TallyRow.law_addVoid hrow q.sale.amount).admissionCheck

end Sys2Proof.Machine
end

section
/-! The laws of the lists through the passing of time (log 1), the table writes (R180) and the management requests. -/

set_option Elab.async false

namespace Sys2Proof.Machine

variable {s t : State} {l : Law}

/-! ## The passing of time -/

theorem quoteNumbers_map {f : Quote → Quote} (hf : ∀ q, (f q).number = q.number) (quotes : Vector (Option Quote) 15) :
    quoteNumbers (quotes.map fun q => q.map f) = quoteNumbers quotes := by
  unfold quoteNumbers
  rw [Vector.toList_map, List.filterMap_map]
  refine List.filterMap_congr fun q _ => ?_
  cases q with
  | none => rfl
  | some q => simp [hf]

theorem State.Upholds.millisecond (h : s.Upholds l) : s.millisecond.Upholds l := by
  have haged := h.onBook_of_sublist (f := fun b => { b with quotes := b.quotes.map fun q => q.map fun x =>
    { x with hold := x.hold - 1 } }) (List.Sublist.refl _)
    (by rw [quoteNumbers_map (f := fun x => { x with hold := x.hold - 1 }) fun _ => rfl]) rfl
  refine haged.of_same (fs := [.uptime, .belt, .gate, .pacer, .seq, .ring]) (fun f hf => ?_) fun i => ?_
  · cases f <;> first | rfl | exact absurd (by decide) hf
  · simp [State.millisecond]

theorem State.Upholds.tick (h : s.Upholds l) : s.tick.Upholds l := by
  unfold State.tick
  split
  · exact h
  · split
    · exact h.millisecond
    · exact (h.of_touches (touches_onPending s _)).of_touches (onChoices_touches _ _)

/-! ## Table writes -/

theorem forgetArm_same (st : Station) : st.forgetArm.car = st.car ∧ st.forgetArm.phase = st.phase := ⟨rfl, rfl⟩

theorem State.Upholds.writeStation (h : s.Upholds l) (w : StationWrite) : (s.writeStation w).state.Upholds l := by
  rcases writeStation_state s w with hw | ⟨i, e, hw⟩
  · rwa [hw]
  · have hstored := h.of_touches (touches_onMap s fun m => { m with table := m.table.set i e })
    rw [hw]
    unfold State.storeStation
    dsimp only
    split
    · exact hstored
    · exact hstored.onStation_same i forgetArm_same

theorem State.Upholds.writeAlias (h : s.Upholds l) (w : Nat × Nat) : (s.writeAlias w).state.Upholds l := by
  unfold State.writeAlias
  split
  · exact h
  next i _ =>
    split
    · exact h
    · split
      · exact h
      · split
        · exact h
        · have hstored := h.of_touches (touches_onMap s fun m => { m with aliases := m.aliases.set i w.2 })
          show (s.storeAlias i w.2).Upholds l
          unfold State.storeAlias
          dsimp only
          split
          · exact hstored.onStation_same i forgetArm_same
          · exact hstored

/-- A write of a plan, an option or a code leaves quotes and queue alone. -/
theorem State.Upholds.onBook_tables (h : s.Upholds l) {f : SaleBook → SaleBook} (hquotes : (f s.book).quotes = s.book.quotes)
    (hqueue : (f s.book).queue = s.book.queue) (hnext : (f s.book).nextNumber = s.book.nextNumber) : (s.onBook f).Upholds l :=
  h.onBook_of_sublist (by rw [hqueue]) (by rw [hquotes]) hnext

theorem State.Upholds.writePlan (h : s.Upholds l) (w : PlanWrite) : (s.writePlan w).state.Upholds l := by
  unfold State.writePlan
  split
  · exact h
  · split
    · exact h.onBook_tables rfl rfl rfl
    · split
      · exact h
      · split
        · exact h
        · exact h.onBook_tables rfl rfl rfl

theorem State.Upholds.writeOption (h : s.Upholds l) (w : Nat × OptionEntry) : (s.writeOption w).state.Upholds l := by
  unfold State.writeOption
  split
  · exact h
  · exact h.onBook_tables rfl rfl rfl

theorem State.Upholds.writeCode (h : s.Upholds l) (w : CodeWrite) : (s.writeCode w).state.Upholds l := by
  unfold State.writeCode
  split
  · exact h
  · split
    · exact h.onBook_tables rfl rfl rfl
    · exact h

theorem State.Upholds.eyeRewritten (h : s.Upholds l) (k : Fin 10) : (s.eyeRewritten k).Upholds l := by
  unfold State.eyeRewritten
  split
  · exact h.loadingEdge false
  · exact h.exitZoneClear
  · exact h

theorem State.Upholds.writeEye (h : s.Upholds l) (w : EyeWrite) : (s.writeEye w).state.Upholds l := by
  unfold State.writeEye
  split
  · exact h
  next k _ =>
    split
    · exact h
    · split
      · exact h
      · split
        · dsimp only
          split
          · exact (h.of_touches (touches_onEyes s _)).eyeRewritten k
          · exact h
        · exact h

theorem writePacing_touches (s : State) (w : PacingWrite) : Touches [.pacer] s (s.writePacing w).state := by
  unfold State.writePacing
  split
  · exact Touches.refl _ s
  · exact stored_touches (touches_onPacer s _) _ _

theorem State.Upholds.writeGate (h : s.Upholds l) (w : GateWrite) : (s.writeGate w).state.Upholds l := by
  unfold State.writeGate
  split
  · exact h
  · split
    · exact h
    · exact (h.onGate _).admissionCheck

theorem storeNodes_touches (s : State) (w : NodeWrite) : Touches [.belt, .pacer, .gate, .office] s (s.storeNodes w) := by
  have hencoder : Touches [.belt] s (if w.mask.getLsbD 0 then s.storeEncoder w.encoder else s) :=
    ((Touches.refl [.belt] s).ite (touches_onBelt s _)).ite (Touches.refl _ s)
  have hdrive (u : State) : Touches [.pacer] u (if w.mask.getLsbD 1 then u.storeDrive w.drive else u) :=
    (touches_onPacer u _).ite (Touches.refl _ u)
  have hroller (u : State) : Touches [.gate] u (if w.mask.getLsbD 2 then u.onGate fun g => { g with roller := w.roller } else u) :=
    (touches_onGate u _).ite (Touches.refl _ u)
  have hoffice (u : State) : Touches [.office] u
      (if w.mask.getLsbD 3 then u.onOffice fun o => { o with address := w.office } else u) :=
    (touches_onOffice u _).ite (Touches.refl _ u)
  exact ((hencoder.andThen (hdrive _) (hs := [.belt, .pacer])).andThen (hroller _) (hs := [.belt, .pacer, .gate])).andThen
    (hoffice _)

theorem writeNodes_touches (s : State) (w : NodeWrite) : Touches [.belt, .pacer, .gate, .office] s (s.writeNodes w).state := by
  unfold State.writeNodes
  split
  · exact Touches.refl _ s
  · split
    · exact Touches.refl _ s
    · exact stored_touches (storeNodes_touches s w) _ _

/-- A write with the operands of its table upholds what every write of that table does. -/
theorem writeWith_upholds {α : Type} {operands : Option α} {write : State → α → Answer} {g : State → Answer}
    (hg : writeWith operands write = some g) (hw : ∀ w, (write s w).state.Upholds l) : (g s).state.Upholds l := by
  obtain ⟨w, -, rfl⟩ := Option.map_eq_some_iff.1 hg
  exact hw w

theorem State.Upholds.tableWrite (h : s.Upholds l) {operands : List Byte} {write : State → Answer}
    (hw : tableWriteOperands operands = some write) : (write s).state.Upholds l := by
  cases operands with
  | nil => cases hw
  | cons table rest =>
    simp only [tableWriteOperands] at hw
    split at hw
    · exact writeWith_upholds hw h.writeStation
    · exact writeWith_upholds hw h.writeAlias
    · exact writeWith_upholds hw h.writePlan
    · exact writeWith_upholds hw h.writeOption
    · exact writeWith_upholds hw h.writeCode
    · exact writeWith_upholds hw h.writeEye
    · exact writeWith_upholds hw fun w => h.of_touches (writePass_touches s w)
    · exact writeWith_upholds hw fun w => h.of_touches (writePacing_touches s w)
    · exact writeWith_upholds hw h.writeGate
    · exact writeWith_upholds hw fun w => h.of_touches (writeTrack_touches s w)
    · exact writeWith_upholds hw fun w => h.of_touches (writeTiming_touches s w)
    · exact writeWith_upholds hw fun w => h.of_touches (writeArbiter_touches s w)
    · exact writeWith_upholds hw fun w => h.of_touches (writeNodes_touches s w)
    · split at hw
      · cases hw
      · cases hw
        exact h

/-! ## Requests (R48, R113, R139, R140, R154) -/

theorem State.Upholds.openGate (h : s.Upholds l) : s.openGate.state.Upholds l := by
  unfold State.openGate
  split
  · exact h
  · exact (h.onGate _).admissionCheck

theorem State.Upholds.acknowledge (h : s.Upholds l) : s.acknowledge.state.Upholds l := by
  unfold State.acknowledge
  split
  · exact h
  · split
    · refine h.changeIncident ?_ ?_ fun hnone => ?_
      · exact fun _ => rfl
      · exact fun _ hbounded => hbounded
      · exact (openCount_map_of_open (fun _ => rfl) s.halt.log).trans hnone
    · exact h

theorem State.Upholds.clearStation (h : s.Upholds l) (index : Nat) : (s.clearStation index).state.Upholds l := by
  unfold State.clearStation
  split
  · dsimp only
    split
    · exact h
    next hfault =>
      split
      · exact h
      · refine State.Upholds.setStationPhase h _ fun hengaged => .inl (Option.eq_none_iff_forall_ne_some.2 fun tag htag => ?_)
        exact (hengaged _ tag htag).2.1 (not_not.1 hfault)
  · exact h

theorem State.Upholds.clearCar (h : s.Upholds l) (tag : Nat) : (s.clearCar tag).state.Upholds l := by
  unfold State.clearCar
  split
  · exact h
  · split
    · exact h
    · rw [done_state]
      exact h.closeCar tag .cleared

theorem State.Upholds.resetTallies (h : s.Upholds l) : s.resetTallies.Upholds l := by
  cases l with
  | tally =>
    refine ⟨h.1, fun p => ?_⟩
    rw [resetTallies_row]
    exact ⟨Nat.le_refl 0, Nat.zero_le _, Nat.zero_le _, Nat.zero_le _, Nat.zero_le _⟩
  | _ => exact h.of_reads fun g hg => resetTallies_touches s g (by revert g hg; decide)

end Sys2Proof.Machine
end

section
/-! The laws of the lists through every command, and through the step: O58 and O59. -/

set_option Elab.async false

namespace Sys2Proof.Machine

variable {s : State} {l : Law}

/-! ## The forms of a command -/

/-- Every state an outcome leads to upholds the law. -/
def Leads (l : Law) (o : Host.Outcome State Fault Refusal) : Prop := ∀ t, o = .next t → t.Upholds l

theorem leads_next (h : s.Upholds l) : Leads l (.next s) := by
  rintro t ⟨⟩
  exact h

theorem leads_live (h : s.Upholds l) {effect : State → State} (he : (effect s).Upholds l) : Leads l (live s effect) := by
  refine leads_next ?_
  split
  · exact h
  · exact he.of_touches (officeKick_touches _)

theorem leads_ringFrame {α : Type} (h : s.Upholds l) {accepted : Bool} {form : Option α} {effect : State → α → State}
    (he : ∀ x, (effect s x).Upholds l) : Leads l (ringFrame s accepted form effect) := by
  refine leads_live h ?_
  split
  · exact he _
  · exact h

theorem leads_terminalRequest {α : Type} (h : s.Upholds l) {hd : Head} {form : Option α} {effect : State → Fin 15 → α → State}
    (he : ∀ k x, (effect s k x).Upholds l) : Leads l (terminalRequest s hd form effect) := by
  refine leads_live h ?_
  split
  · split
    · exact h
    · split
      · exact h.of_touches (touches_onOffice s _)
      · exact he _ _
  · exact h

theorem leads_request {α : Type} (h : s.Upholds l) {hd : Head} {code : Nat} {operands : Option α} {effect : State → α → Answer}
    (he : ∀ x, operands = some x → (effect s x).state.Upholds l) : Leads l (request s hd code operands effect) := by
  refine leads_live h ?_
  split
  · exact h
  · split
    · exact h.of_touches (touches_onOffice s _)
    · split
      · exact h
      · exact (he _ rfl).of_touches (reply_touches _ _ _)

/-! ## Pins (R152, R175, R176) -/

/-- A part held or released by RST has empty lists (R39, R93, R132, R141). -/
theorem powerOn_upholds {t : State} (hcars : t.cars = []) (htag : t.nextTag = 1) (hseq : t.seq = {}) (hbook : t.book = {})
    (htallies : t.tallies = Vector.replicate 16 {}) (hlog : t.halt.log = []) (hnext : t.halt.nextNumber = 1) (l : Law) :
    t.Upholds l := by
  have hlist : t.listLaw := by
    unfold State.listLaw
    rw [hcars, htag]
    simp
  have hroom : t.roomLaw := by
    unfold State.roomLaw State.reserve
    rw [hcars, hbook]
    decide
  have hsets : t.setsLaw := by
    intro c hc
    rw [hcars] at hc
    cases hc
  have hnumbers : t.saleNumbers = [] := by
    rw [saleNumbers_eq, hcars, hbook]
    rfl
  cases l with
  | log =>
    unfold State.Upholds State.logLaw
    rw [hlog, hnext]
    simp
  | newest =>
    unfold State.Upholds State.newestFirst
    rw [hlog]
    exact ⟨fun _ hr => absurd hr List.not_mem_nil, fun _ => rfl⟩
  | list => exact hlist
  | room => exact ⟨hlist, hroom⟩
  | sales =>
    refine ⟨hlist, hroom, ?_⟩
    unfold State.saleLaw
    rw [hnumbers, hbook]
    simp
  | sets => exact hsets
  | engaged =>
    refine ⟨hlist, fun i => State.EngagedAt.of_none ?_⟩
    rw [hseq]
    simp
  | tally =>
    refine ⟨hsets, fun p => ?_⟩
    rw [htallies]
    simp [TallyRow.law]

theorem execRstRelease_leads (straps : BitVec 3) (estop : Level) (s : State) : Leads l (execRstRelease straps estop s) := by
  have hreleased : (s.released straps estop).Upholds l := powerOn_upholds rfl rfl rfl rfl rfl rfl rfl l
  refine leads_next (State.Upholds.of_touches (s := (s.released straps estop).firstBroadcast estop) ?_ (officeKick_touches _))
  cases estop with
  | asserted => exact hreleased.raise _ _ _ _ _
  | released => exact hreleased.of_touches (touches_onRing _ fun r => r.periodic (s.released straps .released).halt.state)

theorem execEstopAssert_leads (h : s.Upholds l) : Leads l (execEstopAssert s) := by
  refine leads_live h ?_
  split
  · exact h
  · exact (h.onHalt_same (f := fun b => { b with estop := .asserted }) rfl rfl rfl).raise _ _ _ _ _

theorem State.Upholds.setOhold (h : s.Upholds l) (level : Level) : (s.setOhold level).Upholds l :=
  (h.of_touches (touches_onPins s _)).of_touches (officeKick_touches _)

/-! ## Frames from the ring (R165, R166) -/

theorem execEnc_leads (h : s.Upholds l) (hd : Head) (payload : List Byte) : Leads l (execEnc hd payload s) := by
  refine leads_ringFrame h fun r => ?_
  split
  · exact h.sample r
  · exact h

theorem execEye_leads (h : s.Upholds l) (hd : Head) (payload : List Byte) : Leads l (execEye hd payload s) := by
  refine leads_ringFrame h fun r => ?_
  split
  · exact h
  · exact h.eyeReport _ _

theorem execArmState_leads (h : s.Upholds l) (hd : Head) (payload : List Byte) : Leads l (execArmState hd payload s) := by
  refine leads_ringFrame h fun r => ?_
  split
  · exact h
  · exact h.armReport _ _ _

/-- An acknowledgment goes to a station, to the gate or to the pacer (R165). -/
theorem execOrderAck_leads (h : s.Upholds l) (hd : Head) (payload : List Byte) : Leads l (execOrderAck hd payload s) := by
  refine leads_ringFrame h fun r => ?_
  split
  · exact h.stationAck _ r
  · split
    · exact h.callAck r
    · split
      · exact h.startAck hd.order r
      · exact h

theorem execMaintReply_leads (h : s.Upholds l) (hd : Head) (payload : List Byte) : Leads l (execMaintReply hd payload s) := by
  refine leads_ringFrame h fun data => ?_
  split
  · exact h.of_touches (reply_touches s _ _)
  · exact h

theorem execReturnedOrder_leads (h : s.Upholds l) (hd : Head) (payload : List Byte) :
    Leads l (execReturnedOrder hd payload s) := by
  refine leads_ringFrame h fun _ => ?_
  split
  · exact h.failOrder _ .returned
  · split
    · exact h.rollerFault .returned
    · split
      · exact h.startFailure .returned hd.order
      · exact h

theorem execReturnedSetpoint_leads (h : s.Upholds l) (hd : Head) (payload : List Byte) :
    Leads l (execReturnedSetpoint hd payload s) := by
  refine leads_ringFrame h fun _ => ?_
  split
  · exact h.raise _ _ _ _ _
  · exact h

theorem execBroadcastReturn_leads (h : s.Upholds l) (hd : Head) (payload : List Byte) :
    Leads l (execBroadcastReturn hd payload s) := by
  refine leads_ringFrame h fun _ => ?_
  split
  · exact h.of_touches (touches_onRing s _)
  · exact h

theorem execBadFrame_leads (h : s.Upholds l) (port : Port) : Leads l (execBadFrame port s) := by
  refine leads_live h ?_
  cases port with
  | ring => exact h.of_touches (touches_onRing s _)
  | office => exact h.of_touches (touches_onOffice s _)

/-! ## Ends of transmission (R169, R175) -/

theorem State.Upholds.ringFinish (h : s.Upholds l) : s.ringFinish.Upholds l := h.of_touches (touches_onRing s _)

theorem execCallTransmitted_leads (h : s.Upholds l) : Leads l (execCallTransmitted s) := by
  refine leads_live h ?_
  split
  next => exact (h.of_touches ((touches_onGate s _).ite (Touches.refl _ s))).ringFinish
  next => exact h

theorem execStartTransmitted_leads (h : s.Upholds l) : Leads l (execStartTransmitted s) := by
  refine leads_live h ?_
  split
  next => exact (h.of_touches ((touches_onPacer s _).ite (Touches.refl _ s))).ringFinish
  next => exact h

theorem State.Upholds.orderSent (h : s.Upholds l) (number : Nat) : (s.orderSent number).Upholds l := by
  unfold State.orderSent
  split
  · exact h
  · exact h.onStation_same _ fun _ => ⟨rfl, rfl⟩

theorem execStationOrderTransmitted_leads (h : s.Upholds l) : Leads l (execStationOrderTransmitted s) := by
  refine leads_live h ?_
  split
  · split
    · exact (h.orderSent _).ringFinish
    · exact h
  · exact h

theorem execBroadcastTransmitted_leads (h : s.Upholds l) : Leads l (execBroadcastTransmitted s) := by
  refine leads_live h ?_
  split
  next stamp _ =>
    have hsent : (s.broadcastSent stamp).Upholds l := h.of_touches (touches_onRing s _)
    exact hsent.ringFinish
  next => exact h

theorem execRingFrameTransmitted_leads (h : s.Upholds l) : Leads l (execRingFrameTransmitted s) := by
  refine leads_live h ?_
  split
  · exact h.ringFinish
  · exact h.ringFinish
  · exact h.ringFinish
  · exact h

/-! ## Requests of the terminals and the office MAINT (R120 to R126, R173) -/

theorem execQuoteReq_leads (h : s.Upholds l) (hd : Head) (payload : List Byte) : Leads l (execQuoteReq hd payload s) := by
  refine leads_terminalRequest h fun k r => ?_
  split
  · exact h.of_touches (reply_touches s _ _)
  next x _ => exact (h.makeQuote k x).of_touches (reply_touches _ _ _)

theorem execCloseReq_leads (h : s.Upholds l) (hd : Head) (payload : List Byte) : Leads l (execCloseReq hd payload s) := by
  refine leads_terminalRequest h fun k r => ?_
  split
  · exact h.of_touches (reply_touches s _ _)
  next q hq =>
    split
    · exact h.of_touches (reply_touches s _ _)
    next hfits =>
      exact (h.closeQuote (openQuote_eq_some_iff.1 hq).1 (Nat.not_le.1 hfits) r.2).of_touches (reply_touches _ _ _)

theorem execDropReq_leads (h : s.Upholds l) (hd : Head) (payload : List Byte) : Leads l (execDropReq hd payload s) := by
  refine leads_terminalRequest h fun k number => ?_
  split
  · exact h.of_touches (reply_touches s _ _)
  · exact (h.clearQuote k).of_touches (reply_touches _ _ _)

theorem execMaint_leads (h : s.Upholds l) (hd : Head) (payload : List Byte) : Leads l (execMaint hd payload s) := by
  refine leads_live h ?_
  split
  · split
    · exact h
    · split
      · exact h.of_touches (touches_onOffice s _)
      · split
        · exact h.of_touches (reply_touches s _ _)
        · exact h.of_touches (touches_onRing s _)
  · exact h

theorem execResume_leads (h : s.Upholds l) (hd : Head) (operands : List Byte) : Leads l (execResume hd operands s) := by
  refine leads_request h fun _ _ => ?_
  split
  · exact h
  · exact h.restart

theorem execTunnelReset_leads (h : s.Upholds l) (hd : Head) (operands : List Byte) : Leads l (execTunnelReset hd operands s) := by
  refine leads_request h fun _ _ => ?_
  split
  · exact h
  next hr => exact h.resetTunnel hr

/-! ## Expiries -/

theorem execEncoderSilenceExpiry_leads (h : s.Upholds l) : Leads l (execEncoderSilenceExpiry s) := by
  refine leads_live h ?_
  split
  · exact h
  · have hexpired := h.of_touches (touches_onBelt s fun b => { b with silence := none })
    dsimp only
    split
    · exact hexpired
    · exact hexpired.raise _ _ _ _ _

theorem execRollerAckTimeout_leads (h : s.Upholds l) : Leads l (execRollerAckTimeout s) := by
  refine leads_live h ?_
  split
  · exact h
  · exact (h.onGate _).rollerFault .timeout

theorem execStartAckTimeout_leads (h : s.Upholds l) : Leads l (execStartAckTimeout s) := by
  refine leads_live h ?_
  split
  · exact h.startFailure .timeout _
  · exact h.onPacer _

theorem execProfileInterval_leads (h : s.Upholds l) : Leads l (execProfileInterval s) := by
  refine leads_live h ?_
  split
  · exact h.interval
  · exact h

theorem execDriveStopTimeout_leads (h : s.Upholds l) : Leads l (execDriveStopTimeout s) := by
  refine leads_live h ?_
  split
  · exact h
  · exact ((h.onPacer _).raise _ _ _ _ _).haltingCheck

theorem execOrderAckTimeout_leads (h : s.Upholds l) (station : Nat) : Leads l (execOrderAckTimeout station s) := by
  refine leads_live h ?_
  split
  · exact h
  · exact h.failOrder _ .timeout

theorem execReturnWindowExpiry_leads (h : s.Upholds l) (station : Nat) : Leads l (execReturnWindowExpiry station s) := by
  refine leads_live h ?_
  split
  · exact h
  · exact h.completeOrder _

theorem execPositionTimeout_leads (h : s.Upholds l) (station : Nat) : Leads l (execPositionTimeout station s) := by
  refine leads_live h ?_
  split
  · exact h
  · exact h.failOrder _ .position

theorem execQuoteHoldExpiry_leads (h : s.Upholds l) (terminal : Nat) : Leads l (execQuoteHoldExpiry terminal s) := by
  refine leads_live h ?_
  split
  · exact h
  · exact h.clearQuote _

theorem execRingCheckExpiry_leads (h : s.Upholds l) : Leads l (execRingCheckExpiry s) := by
  refine leads_live h ?_
  split
  · exact h
  · exact h.of_touches (touches_onRing s _)
  · exact h.of_touches (touches_onRing s _)

theorem execRingTimeout_leads (h : s.Upholds l) : Leads l (execRingTimeout s) := by
  refine leads_live h ?_
  split
  · exact h
  · have hcleared := h.of_touches (touches_onRing s fun r => ({ r with state := .down } : Ring).clearOutstanding s.halt.state)
    dsimp only
    split
    · exact hcleared.raise _ _ _ _ _
    · exact hcleared

/-! ## Every command and every step -/

/-- Every command upholds every law. -/
theorem exec_leads (h : s.Upholds l) (c : Instr) : Leads l (exec c s) := by
  unfold exec
  cases c with
  | rstAssert => exact leads_next (powerOn_upholds rfl rfl rfl rfl rfl rfl rfl l)
  | rstRelease straps estop => exact execRstRelease_leads straps estop s
  | estopAssert => exact execEstopAssert_leads h
  | estopRelease => exact leads_live h (h.onHalt_same rfl rfl rfl)
  | oholdAssert => exact leads_next (h.setOhold .asserted)
  | oholdRelease => exact leads_next (h.setOhold .released)
  | enc hd payload => exact execEnc_leads h hd payload
  | eye hd payload => exact execEye_leads h hd payload
  | armState hd payload => exact execArmState_leads h hd payload
  | driveState hd payload => exact leads_ringFrame h fun r => h.driveFrame hd.src r
  | orderAck hd payload => exact execOrderAck_leads h hd payload
  | maintReply hd payload => exact execMaintReply_leads h hd payload
  | returnedOrder hd payload => exact execReturnedOrder_leads h hd payload
  | returnedSetpoint hd payload => exact execReturnedSetpoint_leads h hd payload
  | returnedBrake hd payload => exact leads_ringFrame h fun _ => h
  | returnedMaint hd payload => exact leads_ringFrame h fun _ => h.of_touches (reply_touches s _ _)
  | broadcastReturn hd payload => exact execBroadcastReturn_leads h hd payload
  | badFrame port => exact execBadFrame_leads h port
  | callTransmitted => exact execCallTransmitted_leads h
  | startTransmitted => exact execStartTransmitted_leads h
  | stationOrderTransmitted => exact execStationOrderTransmitted_leads h
  | broadcastTransmitted => exact execBroadcastTransmitted_leads h
  | ringFrameTransmitted => exact execRingFrameTransmitted_leads h
  | officeFrameSent => exact leads_live h (h.of_touches (touches_onOffice s _))
  | quoteReq hd payload => exact execQuoteReq_leads h hd payload
  | closeReq hd payload => exact execCloseReq_leads h hd payload
  | dropReq hd payload => exact execDropReq_leads h hd payload
  | maint hd payload => exact execMaint_leads h hd payload
  | tableRead hd operands => exact leads_request h fun r _ => by rwa [readTable_state]
  | tableWrite hd operands => exact leads_request h fun _ hw => h.tableWrite hw
  | stationWrite hd operands => exact leads_request h fun w _ => h.writeStation w
  | aliasWrite hd operands => exact leads_request h fun w _ => h.writeAlias w
  | planWrite hd operands => exact leads_request h fun w _ => h.writePlan w
  | optionWrite hd operands => exact leads_request h fun w _ => h.writeOption w
  | codeWrite hd operands => exact leads_request h fun w _ => h.writeCode w
  | eyeWrite hd operands => exact leads_request h fun w _ => h.writeEye w
  | passWrite hd operands => exact leads_request h fun w _ => h.of_touches (writePass_touches s w)
  | pacingWrite hd operands => exact leads_request h fun w _ => h.of_touches (writePacing_touches s w)
  | gateWrite hd operands => exact leads_request h fun w _ => h.writeGate w
  | trackWrite hd operands => exact leads_request h fun w _ => h.of_touches (writeTrack_touches s w)
  | timingWrite hd operands => exact leads_request h fun w _ => h.of_touches (writeTiming_touches s w)
  | arbiterWrite hd operands => exact leads_request h fun w _ => h.of_touches (writeArbiter_touches s w)
  | nodeEncoderWrite hd operands => exact leads_request h fun w _ => h.of_touches (writeNodes_touches s w)
  | nodeDriveWrite hd operands => exact leads_request h fun w _ => h.of_touches (writeNodes_touches s w)
  | nodeRollerWrite hd operands => exact leads_request h fun w _ => h.of_touches (writeNodes_touches s w)
  | nodeOfficeWrite hd operands => exact leads_request h fun w _ => h.of_touches (writeNodes_touches s w)
  | gateOpen hd operands => exact leads_request h fun _ _ => h.openGate
  | gateClose hd operands => exact leads_request h fun _ _ => h.onGate _
  | run hd operands => exact leads_request h fun speed _ => h.runBelt speed
  | stop hd operands => exact leads_request h fun _ _ => h.stopBelt
  | halt hd operands => exact leads_request h fun _ _ => h.raise .manual none none none none
  | ack hd operands => exact leads_request h fun _ _ => h.acknowledge
  | resume hd operands => exact execResume_leads h hd operands
  | stationClear hd operands => exact leads_request h fun index _ => h.clearStation index
  | eyeRestore hd operands => exact leads_request h fun index _ => h.of_touches (restoreEye_touches s index)
  | saleVoid hd operands => exact leads_request h fun number _ => h.voidSale number
  | carClear hd operands => exact leads_request h fun tag _ => h.clearCar tag
  | tunnelReset hd operands => exact execTunnelReset_leads h hd operands
  | tallyRead hd operands => exact leads_request h fun plan _ => by rwa [readTally_state]
  | tallyReset hd operands => exact leads_request h fun _ _ => h.resetTallies
  | statusRead hd operands => exact leads_request h fun _ _ => h.of_touches (clearStatus_touches s)
  | encoderSilenceExpiry => exact execEncoderSilenceExpiry_leads h
  | rollerAckTimeout => exact execRollerAckTimeout_leads h
  | startAckTimeout => exact execStartAckTimeout_leads h
  | profileInterval => exact execProfileInterval_leads h
  | driveStopTimeout => exact execDriveStopTimeout_leads h
  | orderAckTimeout station => exact execOrderAckTimeout_leads h station
  | returnWindowExpiry station => exact execReturnWindowExpiry_leads h station
  | positionTimeout station => exact execPositionTimeout_leads h station
  | quoteHoldExpiry terminal => exact execQuoteHoldExpiry_leads h terminal
  | ringCheckExpiry => exact execRingCheckExpiry_leads h
  | ringTimeout => exact execRingTimeout_leads h

/-- A step is a waiting command or the passing of time. -/
theorem step_leads (h : s.Upholds l) : Leads l (step s) := by
  unfold step
  split
  · exact leads_next h.tick
  next c rest _ => exact exec_leads (h.of_touches (touches_onPending s _)) c

/-- Settles O58: every law of `Law` is kept by every command and every tick. -/
theorem listsAreKept : Obligations.ListsAreKept := by
  intro s t hstep
  have hkeeps (l : Law) (h : s.Upholds l) : t.Upholds l := step_leads h t hstep
  refine ⟨hkeeps .log, fun hhalt hnewest => ?_, hkeeps .list, fun hlist hroom => ?_, fun hlist hroom hsales => ?_⟩
  · refine (hkeeps .newest ⟨hnewest, fun hclear => ?_⟩).1
    rwa [State.haltLaw, if_pos hclear] at hhalt
  · exact (hkeeps .room ⟨hlist, hroom⟩).2
  · exact (hkeeps .sales ⟨hlist, hroom, hsales⟩).2.2

/-- Settles O59: the same, for the laws of the service sets, the engagements and the tallies. -/
theorem servicesAreSettledOnce : Obligations.ServicesAreSettledOnce := by
  intro s t hstep
  have hkeeps (l : Law) (h : s.Upholds l) : t.Upholds l := step_leads h t hstep
  exact ⟨hkeeps .sets, fun hlist hengaged => (hkeeps .engaged ⟨hlist, hengaged⟩).2,
    fun hsets htally => (hkeeps .tally ⟨hsets, htally⟩).2⟩

end Sys2Proof.Machine
end

section
/-! The step (O1, O2): the front command, and the passing of time while none waits. -/

namespace Sys2Proof.Machine

variable {s : State}

/-- Settles O1. -/
theorem stepTakesTheFrontCommand : Obligations.StepTakesTheFrontCommand := by
  intro c rest s hpending
  unfold step
  rw [hpending]

theorem step_idle (h : s.pending = []) : step s = .next s.tick := by
  unfold step
  rw [h]

/-- With no timer run out, a millisecond passes. -/
theorem tick_of_none (hl : s.live) (h : s.dueExpiries = []) : s.tick = s.millisecond := by
  have hrst : s.pins.rst ≠ .asserted := by rw [show s.pins.rst = .released from hl]; decide
  unfold State.tick
  rw [if_neg hrst, h]
  rfl

/-- The expiry of the only timer that has run out is queued, whatever the free rank. -/
theorem tick_of_single (hl : s.live) {c : Instr} (h : s.dueExpiries = [c]) :
    s.tick = (s.onPending fun q => q ++ [c]).onClock fun k => { k with choices := k.choices + 1 } := by
  have hrst : s.pins.rst ≠ .asserted := by rw [show s.pins.rst = .released from hl]; decide
  unfold State.tick
  rw [if_neg hrst, h]
  rfl

theorem millisecond_touches (s : State) :
    Touches [.uptime, .belt, .gate, .pacer, .seq, .book, .ring] s s.millisecond := by
  intro f hf
  cases f <;> first | rfl | exact absurd (by decide) hf

theorem millisecond_station (s : State) (i : StationId) : s.millisecond.seq.stations[i] =
    { s.seq.stations[i] with timer := s.seq.stations[i].timer.map (· - 1) } := by
  simp [State.millisecond, countDown]

theorem millisecond_quote (s : State) (k : Fin 15) : s.millisecond.book.quotes[k] =
    s.book.quotes[k].map fun q => { q with hold := q.hold - 1 } := by
  simp [State.millisecond]

/-- Settles O2: the list of the expiries that are due decides. -/
theorem idleStepPassesTime : Obligations.IdleStepPassesTime := by
  intro s hl hpending
  refine ⟨fun hnone => ⟨s.millisecond, ?_, rfl, rfl, rfl, rfl, millisecond_station s, millisecond_quote s, rfl, rfl, rfl, rfl, rfl,
    rfl, rfl, millisecond_touches s⟩, fun c hdue =>
    ⟨(s.onPending fun q => q ++ [c]).onClock fun k => { k with choices := k.choices + 1 }, ?_, ?_, rfl, ?_⟩⟩
  · rw [step_idle hpending, tick_of_none hl hnone]
  · rw [step_idle hpending, tick_of_single hl hdue]
  · show s.pending ++ [c] = [c]
    rw [hpending, List.nil_append]
  · exact (touches_onPending s _).andThen (onChoices_touches _ _)

end Sys2Proof.Machine
end

section
/-! What every effect of a command leaves alone (O3, O5): the waiting commands, the pins and the frame that the office transmitter
sends. Replies and notices join their queues, and a frame is begun at the end of the command alone (log 8). -/

set_option Elab.async false

namespace Sys2Proof.Machine

variable {fs : List Field} {s t u : State}

/-- The waiting commands, the pins and the frame being sent to the office are the same. -/
structure Steady (s t : State) : Prop where
  pending : t.pending = s.pending
  pins : t.pins = s.pins
  tx : t.office.tx = s.office.tx

theorem Steady.refl (s : State) : Steady s s := ⟨rfl, rfl, rfl⟩

theorem Steady.trans (h : Steady s t) (k : Steady t u) : Steady s u :=
  ⟨k.pending.trans h.pending, k.pins.trans h.pins, k.tx.trans h.tx⟩

theorem Steady.of_touches (k : Touches fs s t) (hpending : Field.pending ∉ fs := by decide) (hpins : Field.pins ∉ fs := by decide)
    (hoffice : Field.office ∉ fs := by decide) : Steady s t :=
  ⟨k .pending hpending, k .pins hpins, congrArg Office.tx (k .office hoffice)⟩

/-- A further change outside the waiting commands, the pins and the office port. -/
theorem Steady.touch (h : Steady s t) (k : Touches fs t u) (hpending : Field.pending ∉ fs := by decide)
    (hpins : Field.pins ∉ fs := by decide) (hoffice : Field.office ∉ fs := by decide) : Steady s u :=
  h.trans (.of_touches k hpending hpins hoffice)

theorem Steady.ite {c : Prop} [Decidable c] (h : Steady s t) (k : Steady s u) : Steady s (if c then t else u) := by
  split
  · exact h
  · exact k

theorem Steady.foldl {α : Type} {f : State → α → State} (hf : ∀ s a, Steady s (f s a)) (as : List α) (s : State) :
    Steady s (as.foldl f s) :=
  List.foldlRecOn (motive := fun t => Steady s t) as f (.refl s) fun t ht a _ => ht.trans (hf t a)

/-- A change of the office port in other fields than the transmitter. -/
theorem Steady.onOffice {f : Office → Office} (hf : (f s.office).tx = s.office.tx) : Steady s (s.onOffice f) := ⟨rfl, rfl, hf⟩

theorem steady_notify (s : State) (n : Notice) : Steady s (s.notify n) := by
  refine .onOffice ?_
  unfold Office.queueNotice
  split <;> rfl

theorem steady_reply (s : State) (dst : Nat) (body : ReplyBody) : Steady s (s.reply dst body) := by
  refine .onOffice ?_
  unfold Office.queueReply
  split <;> rfl

theorem Steady.notify (h : Steady s t) (n : Notice) : Steady s (t.notify n) := h.trans (steady_notify t n)

/-! ## Halt and pacer states, causes -/

theorem steady_closeIncident (s : State) (way : Way) : Steady s (s.closeIncident way) := by
  unfold State.closeIncident
  split
  · exact .refl s
  · exact (Steady.of_touches (changeIncident_touches s _)).notify _

theorem steady_endRestarting (s : State) : Steady s s.endRestarting :=
  (steady_closeIncident s .resumed).touch (setHaltState_touches _ _)

theorem steady_setPacerState (s : State) (p : PacerState) : Steady s (s.setPacerState p) := by
  have hstarted : Steady s (if p = .starting then (s.onPacer fun q => { q with state := p }).restartSilence
      else s.onPacer fun q => { q with state := p }) :=
    (Steady.of_touches ((touches_onPacer s _).andThen (restartSilence_touches _) (hs := [.pacer, .belt]))).ite
      (.of_touches (touches_onPacer s _))
  exact (hstarted.trans ((steady_endRestarting _).ite (.refl _))).touch (admissionCheck_touches _)

theorem steady_openBy (s : State) (c : Cause) : Steady s (s.openBy c) :=
  (((Steady.of_touches (newIncident_touches s c)).touch (haltActions_touches _)).notify _).touch (enterHalting_touches _)

theorem steady_secondaryBy (s : State) (c : Cause) : Steady s (s.secondaryBy c) := by
  have hadded : Steady s (s.addSecondary c) := by
    unfold State.addSecondary
    split
    · exact .refl s
    · exact (Steady.of_touches (changeIncident_touches s _)).notify _
  exact (((hadded.touch (touches_onHalt _ _)).touch (haltActions_touches _)).touch (enterHalting_touches _)).ite hadded

theorem steady_raise (s : State) (kind : CauseKind) (tag tag2 station eye : Option Nat) :
    Steady s (s.raise kind tag tag2 station eye) := by
  have hmarked := Steady.of_touches (markStruck_touches s (s.causeNow kind tag tag2 station eye))
  exact (hmarked.ite (hmarked.trans (steady_openBy _ _))).ite (hmarked.trans (steady_secondaryBy _ _))

theorem Steady.raise (h : Steady s t) (kind : CauseKind) (tag tag2 station eye : Option Nat) :
    Steady s (t.raise kind tag tag2 station eye) := h.trans (steady_raise t kind tag tag2 station eye)

/-! ## The Station Sequencer (06) -/

theorem steady_failOrder (s : State) (i : StationId) (reason : Reason) : Steady s (s.failOrder i reason) := by
  unfold State.failOrder
  split
  · exact .refl s
  next o _ =>
    have hdropped := Steady.of_touches (dropOrder_touches s i)
    have hordered : Steady s (if (o.action.begins && decide (s.map.table[i].kind = .arm)) = true
        then (s.dropOrder i).requestOrder i .out o.car else s.dropOrder i) :=
      (hdropped.touch (requestOrder_touches _ i .out o.car)).ite hdropped
    have hfault := (hordered.touch (setStationPhase_touches _ i .fault)).notify
      (.stationFault i.val o.action reason s.seq.stations[i].car)
    exact (hfault.raise _ _ _ _ _).ite hfault

theorem steady_stationAck (s : State) (i : StationId) (r : AckResult) : Steady s (s.stationAck i r) := by
  cases r with
  | done => exact .of_touches (stationDone_touches s i)
  | refused => exact steady_failOrder s i .refused

theorem steady_armReport (s : State) (i : StationId) (position : ArmPosition) (load : Nat) :
    Steady s (s.armReport i position load) := by
  have hconfirmed := (Steady.of_touches (onStation_touches s i fun st => { st with position := position, load := load })).touch
    (confirmPosition_touches _ i position)
  exact (hconfirmed.raise _ _ _ _ _).ite hconfirmed

theorem steady_releaseStation (s : State) (i : StationId) (early : Bool) : Steady s (s.releaseStation i early) := by
  rcases releaseStation_cases s i early with ⟨heq, -⟩ | ⟨tag, served, p, -, heq⟩
  · rw [heq]
    exact .refl s
  · rw [heq]
    exact (((Steady.of_touches (onStation_touches s i _)).touch (recordService_touches _ tag i served)).touch
      (requestOrder_touches _ _ _ _)).touch (setStationPhase_touches _ _ _)

theorem steady_releaseCar (s : State) (tag : Nat) (early : Bool) : Steady s (s.releaseCar tag early) :=
  .foldl (fun s i => (steady_releaseStation s i early).ite (.refl s)) stationIds s

theorem steady_settleOversize (s : State) (tag : Nat) : Steady s (s.settleOversize tag) :=
  .foldl (fun s i => ((steady_releaseStation s i true).ite (.of_touches (recordMissed_touches s tag i))).ite (.refl s))
    stationIds s

theorem steady_offTest (s : State) (i : StationId) : Steady s (s.offTest i) := by
  unfold State.offTest
  split
  · exact .refl s
  · exact (steady_releaseStation s i false).ite (.refl s)

theorem steady_crowdStation (s : State) (i : StationId) (ahead behind : Nat) : Steady s (s.crowdStation i ahead behind) :=
  (((((Steady.of_touches (requestOrder_touches s i _ _)).touch (recordMissed_touches _ _ _)).touch
    (recordMissed_touches _ _ _)).touch (onStation_touches _ _ _)).touch (setStationPhase_touches _ _ _)).notify _

theorem steady_engage (s : State) (i : StationId) (tag : Nat) (a : Action) :
    Steady s ((s.onStation i fun st => { st with car := some tag }).requestOrder i a (some tag)) :=
  (Steady.of_touches (onStation_touches s i _)).touch (requestOrder_touches _ _ _ _)

theorem steady_onTriggerBusy (s : State) (i : StationId) (tag : Nat) : Steady s (s.onTriggerBusy i tag) := by
  unfold State.onTriggerBusy
  split
  · exact ((Steady.of_touches (recordServed_touches s _ i)).touch (onStation_touches _ _ _)).ite (steady_crowdStation s i _ tag)
  · exact steady_engage s i tag _

theorem steady_onTrigger (s : State) (i : StationId) (c : Car) : Steady s (s.onTrigger i c) := by
  have hmissed := Steady.of_touches (recordMissed_touches s c.tag i)
  exact hmissed.ite (hmissed.ite (((steady_engage s i c.tag _).touch (setStationPhase_touches _ _ _)).ite
    (steady_onTriggerBusy s i c.tag)))

theorem steady_onTest (s : State) (i : StationId) (tag : Nat) : Steady s (s.onTest i tag) := by
  unfold State.onTest
  split
  · exact .refl s
  · exact (steady_onTrigger s i _).ite (.refl s)

theorem steady_sequencerAdvance (s : State) : Steady s s.sequencerAdvance :=
  (Steady.foldl (fun s i => (steady_offTest s i).trans (.foldl (fun s tag => steady_onTest s i tag) _ _)) stationIds s).ite
    (.refl s)

/-! ## The Car Track (02) -/

theorem steady_entryOn (s : State) : Steady s s.entryOn := by
  have huncalled (u : State) (tag : Nat) : Steady u (u.markUncalled tag) :=
    (Steady.refl u).ite ((Steady.of_touches (onCar_touches u tag _)).notify _)
  have hfront : Steady s s.entryFront := (steady_raise s _ _ _ _ _).ite
    (((Steady.of_touches (appendCar_touches s)).trans (huncalled _ _)).touch (gateEntryFront_touches _))
  unfold State.entryOn
  split
  · exact hfront
  · exact (Steady.of_touches (onCar_touches s _ _)).ite (.refl s)

theorem steady_closeCar (s : State) (tag : Nat) (reason : CloseReason) : Steady s (s.closeCar tag reason) := by
  have hsettled : Steady s (s.settleClosing tag reason) := by
    unfold State.settleClosing
    split
    · exact steady_releaseCar s tag false
    · exact steady_releaseCar s tag true
    · exact steady_releaseCar s tag true
    · exact .of_touches (dropCar_touches s tag)
  have hhanded (u : State) : Steady u (u.handOver tag reason) := by
    unfold State.handOver
    split
    · exact .refl u
    · exact (((Steady.of_touches (onTally_touches u _ _)).notify _).touch (touches_onCars _ _)).touch (admissionCheck_touches _)
  exact (hsettled.touch (missUnsettled_touches _ tag)).trans (hhanded _)

theorem steady_crowdPair (s : State) (ahead behind : Car) : Steady s (s.crowdPair ahead behind) := by
  unfold State.crowdPair
  split
  · exact .refl s
  · exact (steady_raise s _ _ _ _ _).ite (.refl s)

theorem steady_crowdAhead (s : State) (tag : Nat) : Steady s (s.crowdAhead tag) := by
  unfold State.crowdAhead
  split
  · exact steady_crowdPair s _ _
  · exact .refl s

theorem steady_crowdBehind (s : State) (tag : Nat) : Steady s (s.crowdBehind tag) := by
  unfold State.crowdBehind
  split
  · exact steady_crowdPair s _ _
  · exact .refl s

theorem steady_foreignTest (s : State) (tag : Nat) : Steady s (s.foreignTest tag) := by
  have hreturned (u : State) (c : Car) : Steady u (u.returnSale c) := by
    unfold State.returnSale
    split
    · exact .refl u
    · exact ((Steady.of_touches (onCar_touches u _ _)).touch (touches_onBook _ _)).touch (admissionCheck_touches _)
  unfold State.foreignTest
  split
  · exact .refl s
  · split
    · exact .refl s
    · exact Steady.ite ((((((Steady.of_touches (onCar_touches s _ _)).trans (hreturned _ _)).touch (onCar_touches _ _ _)).trans
        (steady_releaseCar _ _ true)).touch (onCar_touches _ _ _)).raise _ _ _ _ _) (.refl s)

theorem steady_confirmRear (s : State) : Steady s s.confirmRear := by
  unfold State.confirmRear
  split
  · exact .refl s
  · split
    · exact .refl s
    · exact Steady.ite ((((Steady.of_touches (onCar_touches s _ _)).touch (touches_onGate _ _)).trans
        (steady_foreignTest _ _)).trans (steady_crowdAhead _ _)) (.refl s)

theorem steady_oversizeTest (s : State) : Steady s s.oversizeTest := by
  unfold State.oversizeTest
  split
  · exact .refl s
  · exact Steady.ite (((Steady.of_touches (onCar_touches s _ _)).trans (steady_settleOversize _ _)).notify _) (.refl s)

theorem steady_missTest (s : State) (tag count : Nat) : Steady s (s.missTest tag count) := by
  induction count generalizing s with
  | zero => exact .refl s
  | succ count ih =>
    unfold State.missTest
    split
    · exact .refl s
    · exact (((Steady.of_touches (touches_onEyes s _)).notify _).touch (touches_onCars _ _)).trans (ih _)

theorem steady_expiryTest (s : State) (tag : Nat) : Steady s (s.expiryTest tag) := by
  unfold State.expiryTest
  split
  · exact .refl s
  · exact (steady_closeCar s tag .lost).ite (.refl s)

theorem steady_trackAdvance (s : State) : Steady s s.trackAdvance :=
  (((steady_confirmRear s).trans (steady_oversizeTest _)).trans (.foldl (fun s tag => steady_missTest s tag 6) _ _)).trans
    (.foldl steady_expiryTest _ _)

theorem steady_trackingOn (s : State) (e : Nat) : Steady s (s.trackingOn e) := by
  have hmatched (c : Car) : Steady s (s.matchEye e c) := by
    have hanchored : Steady s (s.onCar c.tag fun k =>
        { k.reAnchor s.belt.count (eyePosition s.eyes e) with nextEye := nextEyeAbove s.eyes e }) :=
      .of_touches (onCar_touches s _ _)
    exact (((hanchored.notify _).ite hanchored).trans (steady_crowdAhead _ _)).trans (steady_crowdBehind _ _)
  unfold State.trackingOn
  split
  · exact steady_raise s _ _ _ _ _
  · exact (hmatched _).ite ((Steady.of_touches (onCar_touches s _ _)).raise _ _ _ _ _)

theorem steady_exitOn (s : State) : Steady s s.exitOn := by
  unfold State.exitOn
  split
  · exact steady_notify s _
  next c _ =>
    have hleaving : Steady s (s.onCar c.tag fun k => { k with phase := .leaving }) := .of_touches (onCar_touches s _ _)
    exact ((hleaving.raise _ _ _ _ _).ite hleaving).ite (steady_notify s _)

theorem steady_exitOff (s : State) : Steady s s.exitOff := by
  unfold State.exitOff
  split
  · exact .refl s
  · exact (steady_closeCar s _ .exit).ite (.refl s)

/-! ## The Belt Pacer (04) -/

theorem steady_exitZoneClear (s : State) : Steady s s.exitZoneClear :=
  Steady.ite (((Steady.of_touches (touches_onPacer s _)).trans (steady_setPacerState _ .running)).touch
    (exitBlockedCheck_touches _)) (.refl s)

theorem steady_startDone (s : State) : Steady s s.startDone :=
  (((Steady.of_touches (touches_onPacer s _)).trans (steady_setPacerState _ .running)).trans
    ((steady_raise _ _ _ _ _ _).ite (.refl _))).touch (exitBlockedCheck_touches _)

theorem steady_startFailure (s : State) (reason : Reason) (number : Nat) : Steady s (s.startFailure reason number) :=
  ((Steady.of_touches (touches_onPacer s _)).trans (steady_setPacerState _ .stopped)).notify _

theorem steady_startAck (s : State) (number : Nat) (r : AckResult) : Steady s (s.startAck number r) := by
  cases r with
  | done => exact steady_startDone s
  | refused => exact steady_startFailure s .refused number

theorem steady_takeReport (s : State) (r : DriveReport) : Steady s (s.takeReport r) := by
  have hrecorded : Steady s ((s.faultCheck r).onPacer fun p => { p with report := some r }) :=
    ((steady_raise s _ _ _ _ _).ite (.refl s)).touch (touches_onPacer _ _)
  exact (hrecorded.touch (watchMet_touches _)).ite hrecorded

theorem steady_driveFrame (s : State) (src : Nat) (r : DriveReport) : Steady s (s.driveFrame src r) :=
  (steady_takeReport s r).ite
    ((((Steady.of_touches (touches_onPacer s _)).notify _).trans (steady_takeReport _ r)).ite (.refl s))

theorem steady_overshootTest (s : State) : Steady s s.overshootTest := by
  unfold State.overshootTest
  split
  · exact ((Steady.of_touches (touches_onPacer s _)).notify _).ite (.refl s)
  · exact .refl s

theorem steady_interval (s : State) : Steady s s.interval := by
  have hspeed : Steady s s.intervalSpeed :=
    ((((Steady.of_touches (touches_onPacer s _)).touch (latchTest_touches _)).touch (touches_onPacer _ _)).trans
      (steady_overshootTest _)).touch (touches_onPacer _ _)
  have hended (u : State) : Steady u u.stoppingEnd :=
    (((Steady.of_touches (queueSetpoint_touches u 0)).touch (touches_onPacer _ _)).trans (steady_setPacerState _ .stopped)).ite
      (.refl u)
  exact hspeed.trans ((steady_raise _ _ _ _ _ _).ite ((steady_raise _ _ _ _ _ _).ite
    ((Steady.of_touches (setpointStep_touches _)).trans (hended _))))

theorem steady_runBelt (s : State) (speed : Nat) : Steady s (s.runBelt speed).state := by
  have hset : Steady s (s.setRunSpeed speed) := .of_touches (touches_onPacer s _)
  unfold State.runBelt
  split
  · split
    · exact .refl s
    · split
      · exact .refl s
      · rw [runAnswer_state]
        exact (hset.touch (issueStart_touches _)).trans (steady_setPacerState _ .starting)
  · rw [runAnswer_state]; exact hset
  · rw [runAnswer_state]; exact hset
  · rw [runAnswer_state]; exact hset
  · rw [runAnswer_state]
    exact (hset.trans (steady_setPacerState _ .running)).touch (exitBlockedCheck_touches _)
  · exact .refl s

theorem steady_stopBelt (s : State) : Steady s s.stopBelt := by
  have hstopping : Steady s ((s.onPacer fun p => { p with pointStop := none }).setPacerState .stopping) :=
    (Steady.of_touches (touches_onPacer s _)).trans (steady_setPacerState _ .stopping)
  unfold State.stopBelt
  split
  · exact hstopping
  · exact hstopping
  · exact (Steady.of_touches (abandonStart_touches s)).trans (steady_setPacerState _ .stopped)
  · exact .of_touches (touches_onPacer s _)
  · exact .refl s
  · exact .refl s

theorem steady_restart (s : State) : Steady s s.restart := by
  have hpacer (u : State) : Steady u u.pacerRestart :=
    ((((Steady.of_touches (touches_onPacer u _)).touch (touches_onPacer _ _)).touch (issueStart_touches _)).trans
      (steady_setPacerState _ .starting)).ite
      ((Steady.of_touches (touches_onPacer u _)).trans (steady_setPacerState _ .stopped))
  exact (((Steady.of_touches (touches_onHalt s _)).touch (touches_onRing _ _)).touch (setHaltState_touches _ _)).trans (hpacer _)

theorem steady_resetTunnel (s : State) : Steady s s.resetTunnel := by
  have hhalt (u : State) : Steady u u.haltReset :=
    ((((steady_closeIncident u .reset).ite (.refl u)).touch (touches_onHalt _ _)).touch (touches_onRing _ _)).touch
      (setHaltState_touches _ _)
  exact ((((((Steady.foldl (fun s tag => steady_closeCar s tag .tunnelReset) s.tags s).touch (sequencerReset_touches _)).trans
    ((Steady.of_touches (touches_onPacer _ _)).trans (steady_setPacerState _ .stopped))).touch (touches_onGate _ _)).touch
    (touches_onRing _ _))).trans (hhalt _)

/-! ## The gate, the advance and the edges -/

theorem steady_rollerFault (s : State) (reason : Reason) : Steady s (s.rollerFault reason) := by
  unfold State.rollerFault
  split
  · exact .refl s
  · exact ((steady_notify s _).touch (touches_onGate _ _)).touch (finishCall_touches _)

theorem steady_callAck (s : State) (r : AckResult) : Steady s (s.callAck r) := by
  cases r with
  | done =>
    unfold State.callAck
    exact .of_touches (touches_onGate s fun g => { g with phase := .rolling, ackTimer := none })
  | refused => exact steady_rollerFault s .refused

theorem steady_reachTest (s : State) : Steady s s.reachTest := by
  unfold State.reachTest
  split
  · exact ((steady_notify s _).touch (finishCall_touches _)).ite (.refl s)
  · exact .refl s

theorem steady_blockAdvance (s : State) (b : Block) : Steady s (s.blockAdvance b) := by
  cases b with
  | track => exact steady_trackAdvance s
  | sequencer => exact steady_sequencerAdvance s
  | gate => exact ((Steady.of_touches (touches_onGate s _)).trans (steady_reachTest _)).touch (admissionCheck_touches _)
  | pacer => exact .of_touches (exitBlockedCheck_touches s)

theorem steady_beltAdvance (s : State) : Steady s s.beltAdvance := by
  obtain ⟨o, ho⟩ := beltAdvance_eq s
  rw [ho]
  exact (Steady.foldl steady_blockAdvance (blockOrder o) s).touch (onChoices_touches _ _)

theorem steady_sample (s : State) (r : BitVec 16) : Steady s (s.sample r) := by
  have hseen : Steady s ((s.onBelt fun b => { b with lastRaw := some r }).restartSilence) :=
    (Steady.of_touches (touches_onBelt s _)).touch (restartSilence_touches _)
  unfold State.sample
  dsimp only
  split
  · exact hseen
  · exact hseen.ite (((hseen.touch (touches_onBelt _ _)).trans (steady_beltAdvance _)).ite (hseen.raise _ _ _ _ _))

theorem steady_deliverEdge (s : State) (e : Fin 10) (on : Bool) : Steady s (s.deliverEdge e on) := by
  unfold State.deliverEdge
  split
  · exact .of_touches (loadingEdge_touches s on)
  · exact (steady_entryOn s).ite (.of_touches (entryOff_touches s))
  · exact (steady_exitOn s).ite (steady_exitOff s)
  · exact (Steady.of_touches (exitBlockedCheck_touches s)).ite (steady_exitZoneClear s)
  · exact (steady_trackingOn s _).ite (.refl s)

theorem steady_eyeReport (s : State) (e : Fin 10) (level : Nat) : Steady s (s.eyeReport e level) :=
  (Steady.refl s).ite ((Steady.of_touches (touches_onEyes s _)).trans (steady_deliverEdge _ e _))

/-! ## Table writes -/

theorem steady_writeStation (s : State) (w : StationWrite) : Steady s (s.writeStation w).state := by
  rcases writeStation_state s w with hw | ⟨i, e, hw⟩
  · rw [hw]
    exact .refl s
  · rw [hw]
    exact (Steady.of_touches (touches_onMap s _)).ite ((Steady.of_touches (touches_onMap s _)).touch (onStation_touches _ _ _))

theorem steady_writeAlias (s : State) (w : Nat × Nat) : Steady s (s.writeAlias w).state := by
  have hstored (i : StationId) : Steady s (s.storeAlias i w.2) :=
    ((Steady.of_touches (touches_onMap s _)).touch (onStation_touches _ _ _)).ite (.of_touches (touches_onMap s _))
  unfold State.writeAlias
  split
  · exact .refl s
  · split
    · exact .refl s
    · split
      · exact .refl s
      · split
        · exact .refl s
        · exact hstored _

theorem steady_writeEye (s : State) (w : EyeWrite) : Steady s (s.writeEye w).state := by
  have hrewritten (u : State) (k : Fin 10) : Steady u (u.eyeRewritten k) := by
    unfold State.eyeRewritten
    split
    · exact .of_touches (loadingEdge_touches u false)
    · exact steady_exitZoneClear u
    · exact .refl u
  unfold State.writeEye
  split
  · exact .refl s
  · split
    · exact .refl s
    · split
      · exact .refl s
      · split
        · dsimp only
          split
          · exact (Steady.of_touches (touches_onEyes s _)).trans (hrewritten _ _)
          · exact .refl s
        · exact .refl s

theorem steady_writePass (s : State) (w : PassWrite) : Steady s (s.writePass w).state := by
  unfold State.writePass
  split
  · exact .refl s
  · split
    · exact .refl s
    · split
      · exact ⟨rfl, rfl, rfl⟩
      · exact .refl s

theorem steady_writeGate (s : State) (w : GateWrite) : Steady s (s.writeGate w).state := by
  unfold State.writeGate
  split
  · exact .refl s
  · split
    · exact .refl s
    · exact (Steady.of_touches (touches_onGate s _)).touch (admissionCheck_touches _)

theorem steady_writeNodes (s : State) (w : NodeWrite) : Steady s (s.writeNodes w).state := by
  have hstored : Steady s (s.storeNodes w) :=
    ⟨storeNodes_touches s w .pending (by decide), storeNodes_touches s w .pins (by decide), by
      unfold State.storeNodes State.storeEncoder
      dsimp only
      repeat' split
      all_goals rfl⟩
  unfold State.writeNodes
  split
  · exact .refl s
  · split
    · exact .refl s
    · exact hstored

theorem steady_writeWith {α : Type} {operands : Option α} {write : State → α → Answer} {g : State → Answer}
    (hg : writeWith operands write = some g) (hw : ∀ w, Steady s (write s w).state) : Steady s (g s).state := by
  obtain ⟨w, -, rfl⟩ := Option.map_eq_some_iff.1 hg
  exact hw w

theorem steady_tableWrite {operands : List Byte} {write : State → Answer} (hw : tableWriteOperands operands = some write) :
    Steady s (write s).state := by
  cases operands with
  | nil => cases hw
  | cons table rest =>
    simp only [tableWriteOperands] at hw
    split at hw
    · exact steady_writeWith hw (steady_writeStation s)
    · exact steady_writeWith hw (steady_writeAlias s)
    · exact steady_writeWith hw fun w => .of_touches (writePlan_touches s w)
    · exact steady_writeWith hw fun w => .of_touches (writeOption_touches s w)
    · exact steady_writeWith hw fun w => .of_touches (writeCode_touches s w)
    · exact steady_writeWith hw (steady_writeEye s)
    · exact steady_writeWith hw (steady_writePass s)
    · exact steady_writeWith hw fun w => .of_touches (writePacing_touches s w)
    · exact steady_writeWith hw (steady_writeGate s)
    · exact steady_writeWith hw fun w => .of_touches (writeTrack_touches s w)
    · exact steady_writeWith hw fun w => .of_touches (writeTiming_touches s w)
    · exact steady_writeWith hw fun w => .of_touches (writeArbiter_touches s w)
    · exact steady_writeWith hw (steady_writeNodes s)
    · split at hw
      · cases hw
      · cases hw
        exact .refl s

/-! ## Requests -/

theorem steady_openGate (s : State) : Steady s s.openGate.state := by
  unfold State.openGate
  split
  · exact .refl s
  · exact (Steady.of_touches (touches_onGate s _)).touch (admissionCheck_touches _)

theorem steady_acknowledge (s : State) : Steady s s.acknowledge.state := by
  unfold State.acknowledge
  split
  · exact .refl s
  · split
    · exact .of_touches (changeIncident_touches s _)
    · exact .refl s

theorem steady_clearStation (s : State) (index : Nat) : Steady s (s.clearStation index).state := by
  unfold State.clearStation
  split
  · dsimp only
    split
    · exact .refl s
    · split
      · exact .refl s
      · exact .of_touches (setStationPhase_touches s _ _)
  · exact .refl s

theorem steady_voidSale (s : State) (number : Nat) : Steady s (s.voidSale number).state := by
  unfold State.voidSale
  split
  · exact .refl s
  · exact ((Steady.of_touches (touches_onBook s _)).touch (onTally_touches _ _ _)).touch (admissionCheck_touches _)

theorem steady_clearCar (s : State) (tag : Nat) : Steady s (s.clearCar tag).state := by
  unfold State.clearCar
  split
  · exact .refl s
  · split
    · exact .refl s
    · rw [done_state]
      exact steady_closeCar s tag .cleared

theorem steady_clearStatus (s : State) : Steady s s.clearStatus := ⟨rfl, rfl, rfl⟩

end Sys2Proof.Machine
end

section
/-! Every command is one of the pin commands or attends to its effect alone: O3 and O5. -/

set_option Elab.async false

namespace Sys2Proof.Machine

variable {s : State}

/-! ## The forms of a command -/

/-- The outcome is that of a command that nothing but its effect makes differ: nothing happens while RST is asserted, and the
effect leaves the waiting commands and the pins alone and begins no office frame. -/
def Attends (s : State) (o : Host.Outcome State Fault Refusal) : Prop :=
  ∃ f : State → State, o = live s f ∧ (f s).pending = s.pending ∧ (f s).pins = s.pins ∧
    (s.office.tx = none → (f s).office.tx = none)

theorem attends_live {effect : State → State} (he : Steady s (effect s)) : Attends s (live s effect) :=
  ⟨effect, rfl, he.pending, he.pins, he.tx.trans⟩

theorem attends_ringFrame {α : Type} {accepted : Bool} {form : Option α} {effect : State → α → State}
    (he : ∀ x, Steady s (effect s x)) : Attends s (ringFrame s accepted form effect) := by
  refine attends_live ?_
  split
  · exact he _
  · exact .refl s

theorem steady_loseReply (s : State) : Steady s s.loseReply := .onOffice rfl

theorem attends_terminalRequest {α : Type} {hd : Head} {form : Option α} {effect : State → Fin 15 → α → State}
    (he : ∀ k x, Steady s (effect s k x)) : Attends s (terminalRequest s hd form effect) := by
  refine attends_live ?_
  split
  · split
    · exact .refl s
    · split
      · exact steady_loseReply s
      · exact he _ _
  · exact .refl s

theorem attends_request {α : Type} {hd : Head} {code : Nat} {operands : Option α} {effect : State → α → Answer}
    (he : ∀ x, operands = some x → Steady s (effect s x).state) : Attends s (request s hd code operands effect) := by
  refine attends_live ?_
  split
  · exact .refl s
  · split
    · exact steady_loseReply s
    · split
      · exact .refl s
      · exact (he _ rfl).trans (steady_reply _ _ _)

/-! ## The commands -/

theorem steady_firstBroadcast (s : State) (estop : Level) : Steady s (s.firstBroadcast estop) := by
  cases estop with
  | asserted => exact steady_raise s .estop none none none none
  | released => exact .of_touches (touches_onRing s fun r => r.periodic s.halt.state)

theorem execEstopAssert_attends (s : State) : Attends s (execEstopAssert s) := by
  refine attends_live ?_
  split
  · exact .refl s
  · exact (Steady.of_touches (touches_onHalt s fun b => { b with estop := .asserted })).raise _ _ _ _ _

theorem execEnc_attends (s : State) (hd : Head) (payload : List Byte) : Attends s (execEnc hd payload s) := by
  refine attends_ringFrame fun r => ?_
  split
  · exact steady_sample s r
  · exact .refl s

theorem execEye_attends (s : State) (hd : Head) (payload : List Byte) : Attends s (execEye hd payload s) := by
  refine attends_ringFrame fun r => ?_
  split
  · exact .refl s
  · exact steady_eyeReport s _ _

theorem execArmState_attends (s : State) (hd : Head) (payload : List Byte) : Attends s (execArmState hd payload s) := by
  refine attends_ringFrame fun r => ?_
  split
  · exact .refl s
  · exact steady_armReport s _ _ _

theorem execOrderAck_attends (s : State) (hd : Head) (payload : List Byte) : Attends s (execOrderAck hd payload s) := by
  refine attends_ringFrame fun r => ?_
  split
  · exact steady_stationAck s _ r
  · split
    · exact steady_callAck s r
    · split
      · exact steady_startAck s hd.order r
      · exact .refl s

theorem execMaintReply_attends (s : State) (hd : Head) (payload : List Byte) : Attends s (execMaintReply hd payload s) := by
  refine attends_ringFrame fun data => ?_
  split
  · exact steady_reply s _ _
  · exact .refl s

theorem execReturnedOrder_attends (s : State) (hd : Head) (payload : List Byte) :
    Attends s (execReturnedOrder hd payload s) := by
  refine attends_ringFrame fun _ => ?_
  split
  · exact steady_failOrder s _ .returned
  · split
    · exact steady_rollerFault s .returned
    · split
      · exact steady_startFailure s .returned hd.order
      · exact .refl s

theorem execReturnedSetpoint_attends (s : State) (hd : Head) (payload : List Byte) :
    Attends s (execReturnedSetpoint hd payload s) := by
  refine attends_ringFrame fun _ => ?_
  split
  · exact steady_raise s _ _ _ _ _
  · exact .refl s

theorem execBroadcastReturn_attends (s : State) (hd : Head) (payload : List Byte) :
    Attends s (execBroadcastReturn hd payload s) := by
  refine attends_ringFrame fun _ => ?_
  split
  · exact .of_touches (touches_onRing s _)
  · exact .refl s

theorem execBadFrame_attends (s : State) (port : Port) : Attends s (execBadFrame port s) := by
  refine attends_live ?_
  cases port with
  | ring => exact .of_touches (touches_onRing s _)
  | office => exact .onOffice rfl

theorem steady_ringFinish (s : State) : Steady s s.ringFinish := .of_touches (touches_onRing s _)

theorem execCallTransmitted_attends (s : State) : Attends s (execCallTransmitted s) := by
  refine attends_live ?_
  split
  next => exact (Steady.of_touches ((touches_onGate s _).ite (Touches.refl _ s))).trans (steady_ringFinish _)
  next => exact .refl s

theorem execStartTransmitted_attends (s : State) : Attends s (execStartTransmitted s) := by
  refine attends_live ?_
  split
  next => exact (Steady.of_touches ((touches_onPacer s _).ite (Touches.refl _ s))).trans (steady_ringFinish _)
  next => exact .refl s

theorem steady_orderSent (s : State) (number : Nat) : Steady s (s.orderSent number) := by
  unfold State.orderSent
  split
  · exact .refl s
  · exact .of_touches (onStation_touches s _ _)

theorem execStationOrderTransmitted_attends (s : State) : Attends s (execStationOrderTransmitted s) := by
  refine attends_live ?_
  split
  · exact ((steady_orderSent s _).trans (steady_ringFinish _)).ite (.refl s)
  · exact .refl s

theorem execBroadcastTransmitted_attends (s : State) : Attends s (execBroadcastTransmitted s) := by
  refine attends_live ?_
  split
  next stamp _ =>
    have hsent : Steady s (s.broadcastSent stamp) := .of_touches (touches_onRing s _)
    exact hsent.trans (steady_ringFinish _)
  next => exact .refl s

theorem execRingFrameTransmitted_attends (s : State) : Attends s (execRingFrameTransmitted s) := by
  refine attends_live ?_
  split
  · exact steady_ringFinish s
  · exact steady_ringFinish s
  · exact steady_ringFinish s
  · exact .refl s

theorem execOfficeFrameSent_attends (s : State) : Attends s (execOfficeFrameSent s) := ⟨_, rfl, rfl, rfl, fun _ => rfl⟩

theorem execQuoteReq_attends (s : State) (hd : Head) (payload : List Byte) : Attends s (execQuoteReq hd payload s) := by
  refine attends_terminalRequest fun k r => ?_
  split
  · exact steady_reply s _ _
  next x _ => exact (Steady.of_touches (makeQuote_touches s k x)).trans (steady_reply _ _ _)

theorem steady_closeQuote (s : State) (k : Fin 15) (q : Quote) (tender : Tender) : Steady s (s.closeQuote k q tender) :=
  ((Steady.of_touches (clearQuote_touches s k)).touch (touches_onBook _ _)).touch (admissionCheck_touches _)

theorem execCloseReq_attends (s : State) (hd : Head) (payload : List Byte) : Attends s (execCloseReq hd payload s) := by
  refine attends_terminalRequest fun k r => ?_
  split
  · exact steady_reply s _ _
  next q hq =>
    split
    · exact steady_reply s _ _
    next hfits =>
      exact (steady_closeQuote s k q r.2).trans (steady_reply _ _ _)

theorem execDropReq_attends (s : State) (hd : Head) (payload : List Byte) : Attends s (execDropReq hd payload s) := by
  refine attends_terminalRequest fun k number => ?_
  split
  · exact steady_reply s _ _
  · exact (Steady.of_touches (clearQuote_touches s k)).trans (steady_reply _ _ _)

theorem execMaint_attends (s : State) (hd : Head) (payload : List Byte) : Attends s (execMaint hd payload s) := by
  refine attends_live ?_
  split
  · split
    · exact .refl s
    · split
      · exact steady_loseReply s
      · split
        · exact steady_reply s _ _
        · exact .of_touches (touches_onRing s _)
  · exact .refl s

theorem closeGate_touches (s : State) : Touches [.gate] s s.closeGate := touches_onGate s _

theorem execResume_attends (s : State) (hd : Head) (operands : List Byte) : Attends s (execResume hd operands s) := by
  refine attends_request fun _ _ => ?_
  split
  · exact .refl s
  · exact steady_restart s

theorem execTunnelReset_attends (s : State) (hd : Head) (operands : List Byte) :
    Attends s (execTunnelReset hd operands s) := by
  refine attends_request fun _ _ => ?_
  split
  · exact .refl s
  · exact steady_resetTunnel s

/-! ## Expiries -/

theorem execEncoderSilenceExpiry_attends (s : State) : Attends s (execEncoderSilenceExpiry s) := by
  refine attends_live ?_
  split
  · exact .refl s
  · have hexpired := Steady.of_touches (touches_onBelt s fun b => { b with silence := none })
    dsimp only
    split
    · exact hexpired
    · exact hexpired.raise _ _ _ _ _

theorem execRollerAckTimeout_attends (s : State) : Attends s (execRollerAckTimeout s) := by
  refine attends_live ?_
  split
  · exact .refl s
  · exact (Steady.of_touches (touches_onGate s _)).trans (steady_rollerFault _ .timeout)

theorem execStartAckTimeout_attends (s : State) : Attends s (execStartAckTimeout s) := by
  refine attends_live ?_
  split
  · exact steady_startFailure s .timeout _
  · exact .of_touches (touches_onPacer s _)

theorem execProfileInterval_attends (s : State) : Attends s (execProfileInterval s) := by
  refine attends_live ?_
  split
  · exact steady_interval s
  · exact .refl s

theorem execDriveStopTimeout_attends (s : State) : Attends s (execDriveStopTimeout s) := by
  refine attends_live ?_
  split
  · exact .refl s
  · exact ((Steady.of_touches (touches_onPacer s _)).raise _ _ _ _ _).touch (haltingCheck_touches _)

theorem execOrderAckTimeout_attends (s : State) (station : Nat) : Attends s (execOrderAckTimeout station s) := by
  refine attends_live ?_
  split
  · exact .refl s
  · exact steady_failOrder s _ .timeout

theorem execReturnWindowExpiry_attends (s : State) (station : Nat) : Attends s (execReturnWindowExpiry station s) := by
  refine attends_live ?_
  split
  · exact .refl s
  · exact .of_touches (completeOrder_touches s _)

theorem execPositionTimeout_attends (s : State) (station : Nat) : Attends s (execPositionTimeout station s) := by
  refine attends_live ?_
  split
  · exact .refl s
  · exact steady_failOrder s _ .position

theorem execQuoteHoldExpiry_attends (s : State) (terminal : Nat) : Attends s (execQuoteHoldExpiry terminal s) := by
  refine attends_live ?_
  split
  · exact .refl s
  · exact .of_touches (clearQuote_touches s _)

theorem execRingCheckExpiry_attends (s : State) : Attends s (execRingCheckExpiry s) := by
  refine attends_live ?_
  split
  · exact .refl s
  · exact .of_touches (touches_onRing s _)
  · exact .of_touches (touches_onRing s _)

theorem execRingTimeout_attends (s : State) : Attends s (execRingTimeout s) := by
  refine attends_live ?_
  split
  · exact .refl s
  · have hcleared := Steady.of_touches
      (touches_onRing s fun r => ({ r with state := .down } : Ring).clearOutstanding s.halt.state)
    dsimp only
    split
    · exact hcleared.raise _ _ _ _ _
    · exact hcleared

/-! ## Every command -/

/-- The commands of the pins that RST and OHOLD are: they act in reset too. -/
theorem exec_attends (s : State) (c : Instr) (hc : actsInReset c = false) : Attends s (exec c s) := by
  unfold exec
  cases c with
  | rstAssert => cases hc
  | rstRelease straps estop => cases hc
  | oholdAssert => cases hc
  | oholdRelease => cases hc
  | estopAssert => exact execEstopAssert_attends s
  | estopRelease => exact attends_live (.of_touches (touches_onHalt s _))
  | enc hd payload => exact execEnc_attends s hd payload
  | eye hd payload => exact execEye_attends s hd payload
  | armState hd payload => exact execArmState_attends s hd payload
  | driveState hd payload => exact attends_ringFrame fun r => steady_driveFrame s hd.src r
  | orderAck hd payload => exact execOrderAck_attends s hd payload
  | maintReply hd payload => exact execMaintReply_attends s hd payload
  | returnedOrder hd payload => exact execReturnedOrder_attends s hd payload
  | returnedSetpoint hd payload => exact execReturnedSetpoint_attends s hd payload
  | returnedBrake hd payload => exact attends_ringFrame fun _ => .refl s
  | returnedMaint hd payload => exact attends_ringFrame fun _ => steady_reply s _ _
  | broadcastReturn hd payload => exact execBroadcastReturn_attends s hd payload
  | badFrame port => exact execBadFrame_attends s port
  | callTransmitted => exact execCallTransmitted_attends s
  | startTransmitted => exact execStartTransmitted_attends s
  | stationOrderTransmitted => exact execStationOrderTransmitted_attends s
  | broadcastTransmitted => exact execBroadcastTransmitted_attends s
  | ringFrameTransmitted => exact execRingFrameTransmitted_attends s
  | officeFrameSent => exact execOfficeFrameSent_attends s
  | quoteReq hd payload => exact execQuoteReq_attends s hd payload
  | closeReq hd payload => exact execCloseReq_attends s hd payload
  | dropReq hd payload => exact execDropReq_attends s hd payload
  | maint hd payload => exact execMaint_attends s hd payload
  | tableRead hd operands => exact attends_request fun r _ => by rw [readTable_state]; exact .refl s
  | tableWrite hd operands => exact attends_request fun _ hw => steady_tableWrite hw
  | stationWrite hd operands => exact attends_request fun w _ => steady_writeStation s w
  | aliasWrite hd operands => exact attends_request fun w _ => steady_writeAlias s w
  | planWrite hd operands => exact attends_request fun w _ => .of_touches (writePlan_touches s w)
  | optionWrite hd operands => exact attends_request fun w _ => .of_touches (writeOption_touches s w)
  | codeWrite hd operands => exact attends_request fun w _ => .of_touches (writeCode_touches s w)
  | eyeWrite hd operands => exact attends_request fun w _ => steady_writeEye s w
  | passWrite hd operands => exact attends_request fun w _ => steady_writePass s w
  | pacingWrite hd operands => exact attends_request fun w _ => .of_touches (writePacing_touches s w)
  | gateWrite hd operands => exact attends_request fun w _ => steady_writeGate s w
  | trackWrite hd operands => exact attends_request fun w _ => .of_touches (writeTrack_touches s w)
  | timingWrite hd operands => exact attends_request fun w _ => .of_touches (writeTiming_touches s w)
  | arbiterWrite hd operands => exact attends_request fun w _ => .of_touches (writeArbiter_touches s w)
  | nodeEncoderWrite hd operands => exact attends_request fun w _ => steady_writeNodes s w
  | nodeDriveWrite hd operands => exact attends_request fun w _ => steady_writeNodes s w
  | nodeRollerWrite hd operands => exact attends_request fun w _ => steady_writeNodes s w
  | nodeOfficeWrite hd operands => exact attends_request fun w _ => steady_writeNodes s w
  | gateOpen hd operands => exact attends_request fun _ _ => steady_openGate s
  | gateClose hd operands => exact attends_request fun _ _ => .of_touches (closeGate_touches s)
  | run hd operands => exact attends_request fun speed _ => steady_runBelt s speed
  | stop hd operands => exact attends_request fun _ _ => steady_stopBelt s
  | halt hd operands => exact attends_request fun _ _ => steady_raise s .manual none none none none
  | ack hd operands => exact attends_request fun _ _ => steady_acknowledge s
  | resume hd operands => exact execResume_attends s hd operands
  | stationClear hd operands => exact attends_request fun index _ => steady_clearStation s index
  | eyeRestore hd operands => exact attends_request fun index _ => .of_touches (restoreEye_touches s index)
  | saleVoid hd operands => exact attends_request fun number _ => steady_voidSale s number
  | carClear hd operands => exact attends_request fun tag _ => steady_clearCar s tag
  | tunnelReset hd operands => exact execTunnelReset_attends s hd operands
  | tallyRead hd operands => exact attends_request fun plan _ => by rw [readTally_state]; exact .refl s
  | tallyReset hd operands => exact attends_request fun _ _ => .of_touches (resetTallies_touches s)
  | statusRead hd operands => exact attends_request fun _ _ => steady_clearStatus s
  | encoderSilenceExpiry => exact execEncoderSilenceExpiry_attends s
  | rollerAckTimeout => exact execRollerAckTimeout_attends s
  | startAckTimeout => exact execStartAckTimeout_attends s
  | profileInterval => exact execProfileInterval_attends s
  | driveStopTimeout => exact execDriveStopTimeout_attends s
  | orderAckTimeout station => exact execOrderAckTimeout_attends s station
  | returnWindowExpiry station => exact execReturnWindowExpiry_attends s station
  | positionTimeout station => exact execPositionTimeout_attends s station
  | quoteHoldExpiry terminal => exact execQuoteHoldExpiry_attends s terminal
  | ringCheckExpiry => exact execRingCheckExpiry_attends s
  | ringTimeout => exact execRingTimeout_attends s

/-- Settles O3: a command that acts in reset is one of the four commands of RST and OHOLD; any other attends to its effect. -/
theorem everyCommandCompletes : Obligations.EveryCommandCompletes := by
  intro c s
  cases hc : actsInReset c with
  | true =>
    cases c with
    | rstAssert => exact ⟨_, rfl, rfl, nofun⟩
    | rstRelease straps estop =>
      exact ⟨_, rfl, (steady_firstBroadcast (s.released straps estop) estop).pending, nofun⟩
    | oholdAssert => exact ⟨_, rfl, rfl, nofun⟩
    | oholdRelease => exact ⟨_, rfl, rfl, nofun⟩
    | _ => cases hc
  | false =>
    obtain ⟨f, heq, hpending, -, -⟩ := exec_attends s c hc
    rw [heq]
    cases hrst : s.pins.rst with
    | asserted => exact ⟨s, live_of_asserted hrst f, rfl, fun _ _ => rfl⟩
    | released => exact ⟨_, live_of_released hrst f, hpending, nofun⟩

/-! ## The office transmitter (R175) -/

/-- While OHOLD is asserted no frame is begun (R175). -/
theorem Office.kick_asserted (o : Office) : o.kick .asserted = o := by
  unfold Office.kick
  split
  next h => cases h
  next => rfl

/-- A released transmitter that is idle begins the first frame that waits (R175). -/
theorem Office.kick_released {o : Office} (h : o.tx = none) : (o.kick .released).tx = o.outgoing.head? := by
  unfold Office.kick Office.outgoing
  rw [h]
  cases hr : o.replies with
  | cons r rs => rfl
  | nil =>
    cases hn : o.notices with
    | cons n ns => rfl
    | nil => exact h

/-- A released transmitter is idle only while nothing waits (R175). -/
theorem Office.outgoing_of_idle_kick {o : Office} (h : (o.kick .released).tx = none) : (o.kick .released).outgoing = [] := by
  have hidle : o.tx = none := by
    unfold Office.kick at h
    split at h
    · assumption
    · exact h
  rw [Office.kick_outgoing]
  exact List.head?_eq_none_iff.1 ((Office.kick_released hidle).symm.trans h)

theorem setOhold_pins (s : State) (l : Level) : (s.setOhold l).pins = { s.pins with ohold := l } := rfl

theorem setOhold_office (s : State) (l : Level) : (s.setOhold l).office = s.office.kick l := rfl

theorem setOhold_sends (s : State) (l : Level) : Quiet [.pins] s (s.setOhold l) :=
  (Queues.of_touches (touches_onPins s fun p => { p with ohold := l })).kick

theorem setOhold_asserted (s : State) : Touches [.pins] s (s.setOhold .asserted) := by
  intro f hf
  by_cases hoffice : f = .office
  · subst hoffice
    exact (setOhold_office s .asserted).trans (Office.kick_asserted _)
  · exact (setOhold_sends s .asserted).1 f (by simp_all)

/-- After a command at whose end the transmitter may begin a frame: none is begun while OHOLD is asserted, and while it is
released the transmitter is idle only with nothing waiting. -/
def Kicked (t : State) : Prop :=
  (t.pins.ohold = .asserted → t.office.tx = none) ∧
  (t.pins.ohold = .released → t.office.tx = none → t.office.outgoing = [])

theorem kicked_officeKick (htx : s.office.tx = none) : Kicked s.officeKick := by
  have hoffice : s.officeKick.office = s.office.kick s.pins.ohold := rfl
  refine ⟨fun hohold => ?_, fun hohold h => ?_⟩
  · rw [hoffice, show s.pins.ohold = .asserted from hohold, Office.kick_asserted]
    exact htx
  · rw [hoffice, show s.pins.ohold = .released from hohold] at h ⊢
    exact Office.outgoing_of_idle_kick h

theorem execRstRelease_kicked (straps : BitVec 3) (estop : Level) (s : State) :
    ∃ t, execRstRelease straps estop s = .next t ∧ Kicked t := by
  exact ⟨_, rfl, kicked_officeKick (steady_firstBroadcast (s.released straps estop) estop).tx⟩

/-- No command begins a frame while OHOLD is asserted, and every command but RST begins one while it may. -/
theorem exec_kicked (s : State) (c : Instr) (htx : s.office.tx = none) :
    ∃ t, exec c s = .next t ∧ (s.pins.ohold = .asserted → t.pins.ohold = .asserted → t.office.tx = none) ∧
      (s.live → t.live → t.pins.ohold = .released → t.office.tx = none → t.office.outgoing = []) := by
  cases hc : actsInReset c with
  | true =>
    cases c with
    | rstAssert => exact ⟨_, rfl, fun _ _ => rfl, fun _ _ _ _ => rfl⟩
    | rstRelease straps estop =>
      obtain ⟨t, heq, hasserted, hreleased⟩ := execRstRelease_kicked straps estop s
      exact ⟨t, heq, fun _ => hasserted, fun _ _ => hreleased⟩
    | oholdAssert =>
      obtain ⟨hasserted, hreleased⟩ := kicked_officeKick (s := s.onPins fun p => { p with ohold := .asserted }) htx
      exact ⟨_, rfl, fun _ => hasserted, fun _ _ => hreleased⟩
    | oholdRelease =>
      obtain ⟨hasserted, hreleased⟩ := kicked_officeKick (s := s.onPins fun p => { p with ohold := .released }) htx
      exact ⟨_, rfl, fun _ => hasserted, fun _ _ => hreleased⟩
    | _ => cases hc
  | false =>
    obtain ⟨f, heq, -, -, hidle⟩ := exec_attends s c hc
    rw [heq]
    cases hrst : s.pins.rst with
    | asserted =>
      refine ⟨s, live_of_asserted hrst f, fun _ _ => htx, fun hlive => ?_⟩
      rw [State.live, hrst] at hlive
      cases hlive
    | released =>
      obtain ⟨hasserted, hreleased⟩ := kicked_officeKick (hidle htx)
      exact ⟨_, live_of_released hrst f, fun _ => hasserted, fun _ _ => hreleased⟩

/-- Settles O5. -/
theorem quietPins : Obligations.QuietPins := by
  intro s
  refine ⟨fun hlive => ?_, fun hlive hestop => ?_, ?_, ?_, exec_kicked s⟩
  · exact ⟨_, live_of_released hlive fun s => s.onHalt fun b => { b with estop := .released }, rfl,
      (Queues.of_touches (touches_onHalt s fun b => { b with estop := .released })).kick⟩
  · refine ⟨s.officeKick, ?_, (Queues.refl s).kick⟩
    unfold exec execEstopAssert
    rw [live_of_released hlive, hestop]
  · exact ⟨_, rfl, rfl, setOhold_asserted s⟩
  · exact ⟨_, rfl, rfl, setOhold_sends s .released, Office.kick_released⟩

end Sys2Proof.Machine
end

section
/-! ESTOP_ASSERT and HALT: the incident they open or join (O6, O8) and the halt actions (O7). -/

set_option Elab.async false

namespace Sys2Proof.Machine

variable {s t u : State}

/-! ## One field of the state, out of a statement about all of them -/

theorem Touches.pending {fs : List Field} (h : Touches fs s t) (hf : Field.pending ∉ fs := by decide) : t.pending = s.pending := h .pending hf
theorem Touches.pins {fs : List Field} (h : Touches fs s t) (hf : Field.pins ∉ fs := by decide) : t.pins = s.pins := h .pins hf
theorem Touches.belt {fs : List Field} (h : Touches fs s t) (hf : Field.belt ∉ fs := by decide) : t.belt = s.belt := h .belt hf
theorem Touches.eyes {fs : List Field} (h : Touches fs s t) (hf : Field.eyes ∉ fs := by decide) : t.eyes = s.eyes := h .eyes hf
theorem Touches.track {fs : List Field} (h : Touches fs s t) (hf : Field.track ∉ fs := by decide) : t.track = s.track := h .track hf
theorem Touches.cars {fs : List Field} (h : Touches fs s t) (hf : Field.cars ∉ fs := by decide) : t.cars = s.cars := h .cars hf
theorem Touches.nextTag {fs : List Field} (h : Touches fs s t) (hf : Field.nextTag ∉ fs := by decide) : t.nextTag = s.nextTag := h .nextTag hf
theorem Touches.gate {fs : List Field} (h : Touches fs s t) (hf : Field.gate ∉ fs := by decide) : t.gate = s.gate := h .gate hf
theorem Touches.pacer {fs : List Field} (h : Touches fs s t) (hf : Field.pacer ∉ fs := by decide) : t.pacer = s.pacer := h .pacer hf
theorem Touches.timing {fs : List Field} (h : Touches fs s t) (hf : Field.timing ∉ fs := by decide) : t.timing = s.timing := h .timing hf
theorem Touches.map {fs : List Field} (h : Touches fs s t) (hf : Field.map ∉ fs := by decide) : t.map = s.map := h .map hf
theorem Touches.seq {fs : List Field} (h : Touches fs s t) (hf : Field.seq ∉ fs := by decide) : t.seq = s.seq := h .seq hf
theorem Touches.book {fs : List Field} (h : Touches fs s t) (hf : Field.book ∉ fs := by decide) : t.book = s.book := h .book hf
theorem Touches.tallies {fs : List Field} (h : Touches fs s t) (hf : Field.tallies ∉ fs := by decide) : t.tallies = s.tallies := h .tallies hf
theorem Touches.halt {fs : List Field} (h : Touches fs s t) (hf : Field.halt ∉ fs := by decide) : t.halt = s.halt := h .halt hf
theorem Touches.ring {fs : List Field} (h : Touches fs s t) (hf : Field.ring ∉ fs := by decide) : t.ring = s.ring := h .ring hf
theorem Touches.uptime {fs : List Field} (h : Touches fs s t) (hf : Field.uptime ∉ fs := by decide) :
    t.clock.uptime = s.clock.uptime := h .uptime hf
theorem Touches.office {fs : List Field} (h : Touches fs s t) (hf : Field.office ∉ fs := by decide) : t.office = s.office := h .office hf

theorem SameButOffice.pending (h : SameButOffice s t) : t.pending = s.pending := h .pending nofun
theorem SameButOffice.pins (h : SameButOffice s t) : t.pins = s.pins := h .pins nofun
theorem SameButOffice.belt (h : SameButOffice s t) : t.belt = s.belt := h .belt nofun
theorem SameButOffice.eyes (h : SameButOffice s t) : t.eyes = s.eyes := h .eyes nofun
theorem SameButOffice.track (h : SameButOffice s t) : t.track = s.track := h .track nofun
theorem SameButOffice.cars (h : SameButOffice s t) : t.cars = s.cars := h .cars nofun
theorem SameButOffice.nextTag (h : SameButOffice s t) : t.nextTag = s.nextTag := h .nextTag nofun
theorem SameButOffice.gate (h : SameButOffice s t) : t.gate = s.gate := h .gate nofun
theorem SameButOffice.pacer (h : SameButOffice s t) : t.pacer = s.pacer := h .pacer nofun
theorem SameButOffice.timing (h : SameButOffice s t) : t.timing = s.timing := h .timing nofun
theorem SameButOffice.map (h : SameButOffice s t) : t.map = s.map := h .map nofun
theorem SameButOffice.seq (h : SameButOffice s t) : t.seq = s.seq := h .seq nofun
theorem SameButOffice.book (h : SameButOffice s t) : t.book = s.book := h .book nofun
theorem SameButOffice.tallies (h : SameButOffice s t) : t.tallies = s.tallies := h .tallies nofun
theorem SameButOffice.halt (h : SameButOffice s t) : t.halt = s.halt := h .halt nofun
theorem SameButOffice.ring (h : SameButOffice s t) : t.ring = s.ring := h .ring nofun
theorem SameButOffice.uptime (h : SameButOffice s t) : t.clock.uptime = s.clock.uptime := h .uptime nofun

/-! ## The two commands -/

/-- The state in which a halting command raises its cause: ESTOP has taken note of the pin (R152). -/
def State.haltLevel (s : State) (k : CauseKind) : State :=
  if k = .estop then s.onHalt fun b => { b with estop := .asserted } else s

theorem haltLevel_touches (s : State) (k : CauseKind) : Touches [.halt] s (s.haltLevel k) :=
  (touches_onHalt s _).ite (Touches.refl _ s)

theorem haltLevel_halt (s : State) (k : CauseKind) :
    (s.haltLevel k).halt = { s.halt with estop := if k = .estop then .asserted else s.halt.estop } := by
  unfold State.haltLevel
  split <;> rfl

theorem freeIncidentNumber_haltLevel (s : State) (k : CauseKind) : (s.haltLevel k).freeIncidentNumber = s.freeIncidentNumber := by
  unfold State.haltLevel
  split <;> rfl

theorem openIncident_haltLevel (s : State) (k : CauseKind) : (s.haltLevel k).openIncident = s.openIncident := by
  unfold State.haltLevel
  split <;> rfl

theorem Halts.kind_ne {c : Instr} {k : CauseKind} {rs : List Reply} (h : Halts c s k rs) : k ≠ .driveNoStop := by
  rcases h with ⟨-, -, -, rfl, -⟩ | ⟨_, -, -, rfl, -⟩ <;> decide

theorem exec_estopAssert (hl : s.live) (hestop : s.halt.estop = .released) :
    exec .estopAssert s = .next ((s.haltLevel .estop).raise .estop).officeKick := by
  show execEstopAssert s = _
  unfold execEstopAssert
  rw [live_of_released hl, hestop]
  rfl

/-- A halting command raises its cause, and HALT replies. -/
theorem Halts.raises {c : Instr} {k : CauseKind} {rs : List Reply} (h : Halts c s k rs) :
    ∃ t, exec c s = .next t ∧ SameButOffice ((s.haltLevel k).raise k) t := by
  rcases h with ⟨rfl, hl, hestop, rfl, -⟩ | ⟨hd, rfl, ha, rfl, -⟩
  · exact ⟨_, exec_estopAssert hl hestop, .kick _⟩
  · exact ⟨_, request_taken (f := fun s _ => (s.raise .manual).done) (operands := noOperands []) ha rfl, .reply _ _ _⟩

/-- The same, with what is sent. -/
theorem Halts.sends {c : Instr} {k : CauseKind} {rs : List Reply} {fs : List Field} {ns : List Notice} (h : Halts c s k rs)
    (q : Queues fs s ((s.haltLevel k).raise k) [] ns) :
    ∃ t, exec c s = .next t ∧ SameButOffice ((s.haltLevel k).raise k) t ∧ Sends fs s t rs ns := by
  rcases h with ⟨rfl, hl, hestop, rfl, rfl⟩ | ⟨hd, rfl, ha, rfl, rfl⟩
  · exact ⟨_, exec_estopAssert hl hestop, .kick _, q.kick⟩
  · exact request_sends (operands := noOperands []) (f := fun s _ => (s.raise .manual).done) ha rfl q rfl rfl

/-! ## A cause that names no car -/

theorem markStruck_of_none {c : Cause} (h : c.tag = none) (h2 : c.tag2 = none) : s.markStruck c = s := by
  unfold State.markStruck State.onCars
  simp [h, h2]

theorem raise_eq_openBy {k : CauseKind} {station eye : Option Nat} (hclear : s.halt.state = .clear) (hk : k ≠ .driveNoStop) :
    s.raise k none none station eye = s.openBy (s.causeNow k none none station eye) := by
  unfold State.raise State.takeCause
  dsimp only
  rw [markStruck_of_none rfl rfl, if_pos hclear]
  exact if_neg hk

theorem raise_eq_secondaryBy {k : CauseKind} {station eye : Option Nat} (hclear : s.halt.state ≠ .clear) :
    s.raise k none none station eye = s.secondaryBy (s.causeNow k none none station eye) := by
  unfold State.raise State.takeCause
  dsimp only
  rw [markStruck_of_none rfl rfl, if_neg hclear]

theorem causeNow_haltLevel (s : State) (k j : CauseKind) : (s.haltLevel k).causeNow j = s.causeNow j := by
  unfold State.haltLevel
  split <;> rfl

theorem haltedOrHalting_congr (h : SameButOffice s t) : t.haltedOrHalting = s.haltedOrHalting := by
  unfold State.haltedOrHalting State.settled
  rw [h.map, h.seq, h.pacer]

/-- Settles O6. -/
theorem haltOpensAnIncident : Obligations.HaltOpensAnIncident := by
  intro c s k rs h hclear hroom
  have hstate : (s.haltLevel k).halt.state = .clear := by rw [haltLevel_halt]; exact hclear
  have heq : (s.haltLevel k).raise k = (s.haltLevel k).openBy (s.causeNow k) := by
    rw [raise_eq_openBy hstate h.kind_ne, causeNow_haltLevel]
  have hqueues : Queues [.cars, .pacer, .seq, .gate, .ring, .halt] s ((s.haltLevel k).raise k) []
      [.incidentOpen s.freeIncidentNumber (s.causeNow k)] := by
    rw [heq, ← freeIncidentNumber_haltLevel s k]
    refine Queues.after (haltLevel_touches s k) (openBy_queues _ ?_)
    rw [(haltLevel_touches s k).office]
    exact hroom
  obtain ⟨t, hexec, hsame, hsends⟩ := h.sends hqueues
  have hhalt := hsame.halt.trans ((congrArg State.halt heq).trans (openBy_halt _))
  rw [← heq, ← haltedOrHalting_congr hsame, haltLevel_halt, freeIncidentNumber_haltLevel] at hhalt
  refine ⟨t, hexec, ?_⟩
  rw [hhalt]
  exact ⟨rfl, rfl, rfl, rfl, rfl, hsends⟩

/-! ## A secondary cause (R146) -/

theorem secondaryBy_eq_addSecondary {c : Cause} (h : s.halt.state ≠ .restarting) : s.secondaryBy c = s.addSecondary c := by
  unfold State.secondaryBy
  dsimp only
  rw [if_neg h]

theorem Incident.addCause_eq (r : Incident) (c : Cause) :
    (r.addCause c).secondary.length = (if r.secondary.length < 4 then r.secondary.length + 1 else r.secondary.length) ∧
    (r.addCause c).more = if r.secondary.length < 4 then r.more else min 255 (r.more + 1) := by
  unfold Incident.addCause
  split <;> simp

/-- The log after a secondary cause, with the two cases of R146 written out. -/
theorem map_addCause (log : List Incident) (c : Cause) :
    log.map (fun r => if r.state ≠ .closed then r.addCause c else r) = log.map fun x =>
      if x.state = .closed then x
      else if x.secondary.length < 4 then { x with secondary := x.secondary ++ [c], state := .unacked }
      else { x with more := min 255 (x.more + 1), state := .unacked } := by
  refine List.map_congr_left fun x _ => ?_
  unfold Incident.addCause
  by_cases hclosed : x.state = .closed <;> simp [hclosed]

/-- Settles O8. -/
theorem secondaryCauseJoinsTheIncident : Obligations.SecondaryCauseJoinsTheIncident := by
  intro c s k rs r cause sent h hclear hopen hroom hcause hsent
  have hcause : cause = s.causeNow k := hcause
  have hstate : (s.haltLevel k).halt.state = s.halt.state := by rw [haltLevel_halt]
  have heq : (s.haltLevel k).raise k = (s.haltLevel k).secondaryBy cause := by
    rw [raise_eq_secondaryBy (by rwa [hstate]), causeNow_haltLevel, hcause]
  have hnotices : ((s.haltLevel k).openIncident.toList.map fun r =>
      Notice.incidentCause r.number cause (r.addCause cause).secondary.length (r.addCause cause).more) = [sent] := by
    obtain ⟨hlength, hmore⟩ := r.addCause_eq cause
    rw [openIncident_haltLevel, hopen, hsent, ← hlength, ← hmore]
    rfl
  have hplaces : (s.haltLevel k).office.notices.length < 32 := by
    rw [(haltLevel_touches s k).office]
    exact hroom
  have hqueues : Queues [.cars, .pacer, .seq, .gate, .ring, .halt] s ((s.haltLevel k).raise k) [] [sent] := by
    have hraised := raise_queues (s := s.haltLevel k) k none none none none h.kind_ne hplaces
    rw [State.causeNotices, if_neg (by rwa [hstate]), causeNow_haltLevel, ← hcause, hnotices] at hraised
    exact hraised.after (haltLevel_touches s k)
  obtain ⟨t, hexec, hsame, hsends⟩ := h.sends hqueues
  have hhalt := hsame.halt.trans ((congrArg State.halt heq).trans (secondaryBy_halt _))
  rw [← heq, ← haltedOrHalting_congr hsame, haltLevel_halt] at hhalt
  dsimp only at hhalt
  refine ⟨t, hexec, ?_, ?_, ?_, fun hrestarting => ⟨?_, ?_, ?_⟩, fun hrestarting => ⟨?_, ?_, hsends⟩⟩
  · rw [hhalt]
    exact map_addCause _ _
  · rw [hhalt]
  · rw [hhalt]
  · rw [hhalt, if_neg hrestarting]
  · rw [hhalt]
    exact if_neg hrestarting
  · have hjoined : Queues [.halt] s ((s.haltLevel k).raise k) [] [sent] := by
      rw [heq, secondaryBy_eq_addSecondary (by rwa [hstate]), ← hnotices]
      exact (addSecondary_queues _ hplaces).after (haltLevel_touches s k)
    obtain ⟨t', hexec', -, hsends'⟩ := h.sends hjoined
    cases hexec.symm.trans hexec'
    exact hsends'
  · rw [hhalt]
    exact if_pos hrestarting
  · rw [hhalt, if_pos hrestarting]
    rfl

/-! ## The ring at a halt (R75, R145, R167) -/

/-- A frame of the SAFETY class is on its way: it is being sent or waits. -/
def Ring.carries (r : Ring) (p : RingFrame → Bool) : Prop := (r.tx.toList ++ r.safety).any p = true

theorem foldl_best_of_zero (c : RingClass) (l : List (RingClass × Nat)) :
    l.foldl (fun best y => if y.2 < best.2 then y else best) (c, 0) = (c, 0) := by
  induction l with
  | nil => rfl
  | cons y l ih =>
    rw [List.foldl_cons, if_neg (Nat.not_lt_zero _)]
    exact ih

/-- SAFETY wins whenever it is not empty (R169). -/
theorem Ring.choose_of_safety {r : Ring} {f : RingFrame} {fs : List RingFrame} (h : r.safety = f :: fs) :
    r.choose.tx = some f ∧ r.choose.safety = fs := by
  have hlowest : lowestClass r.candidates = some .safety := by
    simp only [Ring.candidates, h, List.isEmpty_cons, Bool.false_eq_true, if_false, List.cons_append,
      List.nil_append, lowestClass, foldl_best_of_zero]
  unfold Ring.choose
  rw [hlowest]
  simp [Ring.queueOf, h]

/-- A choice of the free transmitter loses no SAFETY frame. -/
theorem Ring.carries_kick {r : Ring} {p : RingFrame → Bool} (h : r.carries p) : r.kick.carries p := by
  unfold Ring.kick
  split
  next hidle =>
    rw [Option.isNone_iff_eq_none] at hidle
    rw [Ring.carries, hidle] at h
    cases hsafety : r.safety with
    | nil =>
      rw [hsafety] at h
      cases h
    | cons f fs =>
      obtain ⟨htx, hrest⟩ := Ring.choose_of_safety hsafety
      rw [hsafety] at h
      rw [Ring.carries, htx, hrest]
      exact h
  next => exact h

theorem Ring.carries_push {r : Ring} {p : RingFrame → Bool} {c : RingClass} {f : RingFrame} (h : r.carries p) :
    (r.push c f).carries p := by
  refine Ring.carries_kick ?_
  unfold Ring.carries at h ⊢
  rw [List.any_append, Bool.or_eq_true] at h ⊢
  cases c with
  | safety => exact h.imp_right fun hp => by simp [Ring.append, hp]
  | _ => exact h

theorem Ring.carries_pushed {r : Ring} {p : RingFrame → Bool} {f : RingFrame} (hp : p f = true) :
    (r.push .safety f).carries p := by
  refine Ring.carries_kick ?_
  simp [Ring.carries, Ring.append, hp]

theorem Ring.carries_of_safety {r : Ring} {p : RingFrame → Bool} (h : r.safety.any p = true) : r.carries p := by
  rw [Ring.carries, List.any_append, h, Bool.or_true]

theorem Ring.carries_requestBrake {r : Ring} {p : RingFrame → Bool} (h : r.carries p) (drive : Nat) :
    (r.requestBrake drive).carries p := by
  unfold Ring.requestBrake
  split
  · exact h
  · exact Ring.carries_push h

theorem Ring.haltAllStop_carries (r : Ring) : r.haltAllStop.carries RingFrame.isAllStop := by
  unfold Ring.haltAllStop
  dsimp only
  split
  next h => exact Ring.carries_of_safety h
  next => exact Ring.carries_pushed rfl

theorem Ring.requestBrake_carries (r : Ring) {drive : Nat} (h : drive ≠ 0) :
    (r.requestBrake drive).carries RingFrame.isBrake := by
  unfold Ring.requestBrake
  split
  next hqueued => exact Ring.carries_of_safety (hqueued.resolve_left h)
  next => exact Ring.carries_pushed rfl

/-- A frame of the SAFETY class adds nothing to another queue, and leaves the release-pending flag. -/
theorem Ring.push_safety_queueOf_nil {r : Ring} {c : RingClass} (h : r.queueOf c = []) (hc : c ≠ .safety) (f : RingFrame) :
    (r.push .safety f).queueOf c = [] :=
  List.eq_nil_iff_forall_not_mem.2 fun g hg => by
    rcases Ring.mem_of_mem_push hg with hold | ⟨hclass, -⟩
    · rw [h] at hold
      cases hold
    · exact hc hclass

theorem Ring.push_releasePending (r : Ring) (c : RingClass) (f : RingFrame) :
    (r.push c f).releasePending = r.releasePending := by
  have happend : (r.append c f).releasePending = r.releasePending := by cases c <;> rfl
  unfold Ring.push Ring.kick
  split
  · exact (Ring.choose_rest _).2.2.2.2.2.1.trans happend
  · exact happend

theorem Ring.requestBrake_rest (r : Ring) (drive : Nat) :
    (r.requestBrake drive).releasePending = r.releasePending ∧
    ∀ c, c ≠ .safety → r.queueOf c = [] → (r.requestBrake drive).queueOf c = [] := by
  unfold Ring.requestBrake
  split
  · exact ⟨rfl, fun _ _ h => h⟩
  · exact ⟨Ring.push_releasePending r _ _, fun _ hc h => Ring.push_safety_queueOf_nil h hc _⟩

theorem Ring.haltAllStop_rest (r : Ring) :
    r.haltAllStop.releasePending = false ∧ ∀ c, c ≠ .safety → r.queueOf c = [] → r.haltAllStop.queueOf c = [] := by
  unfold Ring.haltAllStop
  dsimp only
  split
  · exact ⟨rfl, fun c _ h => by cases c <;> exact h⟩
  · refine ⟨Ring.push_releasePending _ _ _, fun c hc h => Ring.push_safety_queueOf_nil ?_ hc _⟩
    cases c with
    | safety => exact absurd rfl hc
    | _ => exact h

/-- What the halt actions leave in the Ring Port. -/
theorem Ring.haltedRing_parts (r : Ring) (drive : Nat) :
    (r.haltedRing drive).order = [] ∧ (r.haltedRing drive).motion = [] ∧ (r.haltedRing drive).releasePending = false ∧
    (r.haltedRing drive).carries RingFrame.isAllStop ∧
    (drive ≠ 0 → (r.haltedRing drive).carries RingFrame.isBrake) := by
  obtain ⟨hpending, hqueues⟩ := Ring.haltAllStop_rest { r with order := [] }
  obtain ⟨hpendingPart, hqueuesPart⟩ := Ring.requestBrake_rest ({ r with order := [] } : Ring).haltAllStop drive
  obtain ⟨hpendingEnd, hqueuesEnd⟩ := Ring.requestBrake_rest { r.haltPart drive with motion := [] } drive
  have horder : (r.haltPart drive).queueOf .order = [] := hqueuesPart .order (by decide) (hqueues .order (by decide) rfl)
  have hallStop : (r.haltPart drive).carries RingFrame.isAllStop := Ring.carries_requestBrake (Ring.haltAllStop_carries _) drive
  exact ⟨hqueuesEnd .order (by decide) horder, hqueuesEnd .motion (by decide) rfl,
    hpendingEnd.trans (hpendingPart.trans hpending),
    Ring.carries_requestBrake (r := { r.haltPart drive with motion := [] }) hallStop drive,
    fun hdrive => Ring.requestBrake_carries _ hdrive⟩

/-! ## The service sets at a halt (R96, R111) -/

/-- The services that a car loses at a halt: those of the stations engaged with it that are in neither set. -/
def State.droppedServices (s : State) (x : Car) : StationSet :=
  BitVec.ofFnLE fun i : Fin 32 => s.seq.stations[i].car == some x.tag && x.unsettled i

/-- The car with some of its unsettled services recorded as missed. -/
def Car.missing (x : Car) (p : StationId → Bool) : Car :=
  { x with missed := x.missed ||| BitVec.ofFnLE fun i : Fin 32 => p i && x.unsettled i }

theorem getLsbD_ofFnLE_val (f : Fin 32 → Bool) (i : StationId) : (BitVec.ofFnLE f).getLsbD i.val = f i := by
  rw [BitVec.getLsbD_ofFnLE, dif_pos i.isLt]

/-- Two station sets with the same stations are equal. -/
theorem stationSet_ext {x y : StationSet} (h : ∀ i : StationId, x.getLsbD i.val = y.getLsbD i.val) : x = y :=
  BitVec.eq_of_getLsbD_eq fun k hk => h ⟨k, hk⟩

theorem Car.missing_unsettled (x : Car) (p : StationId → Bool) (i : StationId) :
    (x.missing p).unsettled i = (x.unsettled i && !p i) := by
  simp only [Car.missing, Car.unsettled, hasStation, BitVec.getLsbD_or, getLsbD_ofFnLE_val]
  cases p i <;> cases x.activity.getLsbD i.val <;> cases x.served.getLsbD i.val <;> cases x.missed.getLsbD i.val <;> rfl

theorem Car.missing_missing (x : Car) (p q : StationId → Bool) : (x.missing p).missing q = x.missing fun i => p i || q i := by
  unfold Car.missing
  dsimp only
  congr 1
  refine stationSet_ext fun i => ?_
  have hunsettled := x.missing_unsettled p i
  unfold Car.missing at hunsettled
  simp only [BitVec.getLsbD_or, getLsbD_ofFnLE_val, hunsettled]
  cases p i <;> cases x.unsettled i <;> simp

theorem Car.missing_none (x : Car) : (x.missing fun _ => false) = x := by
  have hempty : (BitVec.ofFnLE fun i : Fin 32 => false && x.unsettled i) = 0 :=
    stationSet_ext fun i => by rw [getLsbD_ofFnLE_val]; simp
  have hmissed : x.missed ||| (0 : StationSet) = x.missed := BitVec.or_zero
  unfold Car.missing
  rw [hempty, hmissed]

theorem Car.recordMissed_eq (x : Car) (i : StationId) : x.recordMissed i = x.missing fun j => decide (j = i) := by
  have hset : (BitVec.ofFnLE fun j : Fin 32 => decide (j = i) && x.unsettled j) = if x.unsettled i then stationBit i else 0 := by
    refine stationSet_ext fun j => ?_
    rw [getLsbD_ofFnLE_val]
    by_cases hj : j = i
    · subst hj
      cases x.unsettled j <;> simp [stationBit_getLsbD]
    · have hne : ¬ i.val = j.val := fun h => hj (Fin.ext h.symm)
      have hbit : (stationBit i).getLsbD j.val = false := by rw [stationBit_getLsbD, decide_eq_false hne]
      rw [decide_eq_false hj]
      split
      · exact hbit.symm
      · exact BitVec.getLsbD_zero.symm
  have hmissed : x.missed ||| (0 : StationSet) = x.missed := BitVec.or_zero
  unfold Car.recordMissed Car.missing
  rw [hset]
  split
  · rfl
  · rw [hmissed]

/-- One station's part of the halt entry, for the cars. -/
theorem stationHaltEntry_cars (s : State) (i : StationId) :
    (s.stationHaltEntry i).cars =
      s.cars.map fun x => x.missing fun j => decide (j = i) && s.seq.stations[i].car == some x.tag := by
  have hcars : (s.stationHaltEntry i).cars = (s.missEngaged i).cars := rfl
  rw [hcars]
  unfold State.missEngaged
  split
  next hnone =>
    rw [hnone]
    simp [Car.missing_none]
  next tag htag =>
    rw [htag]
    refine List.map_congr_left fun x _ => ?_
    dsimp only
    by_cases hx : x.tag = tag
    · rw [if_pos hx, Car.recordMissed_eq]
      simp [hx]
    · have hne : (some tag == some x.tag) = false := by simpa using fun h => hx h.symm
      simp only [if_neg hx, hne, Bool.and_false, Car.missing_none]

/-- The stations of a list, each missing the service of the car it is engaged with. -/
theorem foldl_stationHaltEntry_cars (is : List StationId) (hnodup : is.Nodup) (s : State) :
    (is.foldl State.stationHaltEntry s).cars =
      s.cars.map fun x => x.missing fun j => decide (j ∈ is) && s.seq.stations[j].car == some x.tag := by
  induction is generalizing s with
  | nil => simp [Car.missing_none]
  | cons i is ih =>
    obtain ⟨hi, his⟩ := List.nodup_cons.1 hnodup
    rw [List.foldl_cons, ih his, stationHaltEntry_cars, List.map_map]
    refine List.map_congr_left fun x _ => ?_
    rw [Function.comp_apply, Car.missing_missing]
    congr 1
    funext j
    by_cases hj : j = i
    · subst hj
      simp [hi, Car.missing]
    · rw [stationHaltEntry_other hj]
      simp [hj, Car.missing]

theorem haltActions_cars (s : State) : s.haltActions.cars = s.cars.map fun x => { x with missed := x.missed ||| s.droppedServices x } := by
  have hstart : (s.onRing fun r => r.haltPart s.pacer.drive).pacerHaltEntry.cars = s.cars ∧
      (s.onRing fun r => r.haltPart s.pacer.drive).pacerHaltEntry.seq = s.seq := by
    rw [pacerHaltEntry_eq]
    exact ⟨rfl, rfl⟩
  have hgate : s.haltActions.cars = ((s.onRing fun r => r.haltPart s.pacer.drive).pacerHaltEntry).sequencerHaltEntry.cars :=
    gateHaltPart_touches _ .cars (by decide)
  obtain ⟨hcars, hseq⟩ := hstart
  rw [hgate, State.sequencerHaltEntry, foldl_stationHaltEntry_cars _ nodup_stationIds, hcars, hseq]
  simp only [mem_stationIds, decide_true, Bool.true_and]
  rfl

/-! ## The halt actions as a whole -/

/-- A cause in CLEAR or RESTARTING that names no car takes the halt actions, from a state with another log alone. -/
theorem raise_takes_haltActions {k : CauseKind} {station eye : Option Nat} (hk : k ≠ .driveNoStop)
    (h : s.halt.state = .clear ∨ s.halt.state = .restarting) :
    ∃ u, Touches [.halt, .office] s u ∧ Touches [.halt, .office] u.haltActions (s.raise k none none station eye) := by
  have hentered (u : State) : Touches [.halt, .office] u u.enterHalting := by
    rw [enterHalting_eq]
    exact (touches_onHalt u _).mono (by decide)
  rcases h with hclear | hrestarting
  · rw [raise_eq_openBy hclear hk]
    exact ⟨_, (newIncident_touches s _).mono (by decide), ((notify_touches _ _).andThen (hentered _))⟩
  · rw [raise_eq_secondaryBy (by rw [hrestarting]; decide)]
    unfold State.secondaryBy
    dsimp only
    rw [if_pos hrestarting]
    exact ⟨_, (addSecondary_touches s _).andThen (touches_onHalt _ _), hentered _⟩

/-- A halting command in CLEAR or RESTARTING takes the halt actions. -/
theorem Halts.takes_haltActions {c : Instr} {k : CauseKind} {rs : List Reply} (h : Halts c s k rs)
    (hstate : s.halt.state = .clear ∨ s.halt.state = .restarting) :
    ∃ t u, exec c s = .next t ∧ Touches [.halt, .office] s u ∧ Touches [.halt, .office] u.haltActions t := by
  obtain ⟨t, hexec, hsame⟩ := h.raises
  obtain ⟨u, hbefore, hafter⟩ := raise_takes_haltActions (s := s.haltLevel k) (station := none) (eye := none) h.kind_ne
    (by rw [haltLevel_halt]; exact hstate)
  refine ⟨t, u, hexec, (haltLevel_touches s k).andThen hbefore, hafter.andThen (gs := [.office]) fun f hf => ?_⟩
  exact hsame f (by simpa using hf)

theorem resumeAfterHalt_eq (old : Bool) (p : PacerState) :
    resumeAfterHalt old p = if p = .starting ∨ p = .running ∨ p = .pointStop then true
      else if p = .stopped ∨ p = .stopping then false else old := by
  cases p <;> rfl

/-- Settles O7. -/
theorem haltActionsAreTaken : Obligations.HaltActionsAreTaken := by
  refine ⟨fun c s k rs h hstate => ?_, fun c s k rs h hstate => ?_, fun c s k rs h hstate => ?_⟩
  · obtain ⟨t, u, hexec, hbefore, hafter⟩ := h.takes_haltActions hstate
    have hpacer : t.pacer = s.pacer.halted s.timing.driveStop := by
      rw [hafter.pacer, haltActions_pacer, hbefore.pacer, hbefore.timing]
    have hring : t.ring = s.ring.haltedRing s.pacer.drive := by
      rw [hafter.ring, haltActions_ring, hbefore.pacer, hbefore.ring]
    have hgate := hafter.gate.trans haltActions_gate
    rw [State.gateRest, State.loadingOn, hbefore.gate, hbefore.eyes] at hgate
    obtain ⟨horder, hmotion, hpending, hallStop, hbrake⟩ := s.ring.haltedRing_parts s.pacer.drive
    refine ⟨t, hexec, ?_, ?_⟩
    · rw [hpacer, Pacer.halted, resumeAfterHalt_eq]
    · rw [hring]
      exact ⟨horder, hmotion, hpending, hallStop, hbrake, hgate⟩
  · obtain ⟨t, u, hexec, hbefore, hafter⟩ := h.takes_haltActions hstate
    refine ⟨t, hexec, fun i => ?_⟩
    rw [hafter.seq, haltActions_station, hbefore.seq, hbefore.map]
    rfl
  · obtain ⟨t, u, hexec, hbefore, hafter⟩ := h.takes_haltActions hstate
    refine ⟨t, s.droppedServices, hexec, fun x i => ?_, ?_⟩
    · rw [State.droppedServices, getLsbD_ofFnLE_val, Car.unsettled]
      simp only [hasStation, Bool.and_assoc]
    · rw [hafter.cars, haltActions_cars, hbefore.cars]
      simp only [State.droppedServices, hbefore.seq]

end Sys2Proof.Machine
end

section
/-! Encoder samples (O9, O10), and the edges of the loading eye (O16), of the exit-zone eye (O17), and those that raise nothing
(O11). -/

set_option Elab.async false

namespace Sys2Proof.Machine

variable {s t u : State}

/-! ## Encoder samples (R2 to R4) -/

/-- The state of a sample before the belt moves: the raw count is kept and the silence timer restarted (R2). -/
def State.sampled (s : State) (r : BitVec 16) : State := (s.onBelt fun b => { b with lastRaw := some r }).restartSilence

theorem sampled_belt (s : State) (r : BitVec 16) :
    (s.sampled r).belt = { s.belt with lastRaw := some r, silence := some s.timing.encoderSilence } := rfl

theorem sampled_touches (s : State) (r : BitVec 16) : Touches [.belt] s (s.sampled r) :=
  (touches_onBelt s _).andThen (restartSilence_touches _)

theorem sample_first {r : BitVec 16} (h : s.belt.lastRaw = none) : s.sample r = s.sampled r := by
  unfold State.sample
  rw [h]
  rfl

theorem sample_moved {r last : BitVec 16} (h : s.belt.lastRaw = some last) :
    s.sample r =
      if (r - last).toNat = 0 then s.sampled r
      else if (r - last).toNat < 4096 then
        ((s.sampled r).onBelt fun b => { b with count := b.count + BitVec.ofNat 32 (r - last).toNat }).beltAdvance
      else (s.sampled r).raise .encoder := by
  unfold State.sample
  rw [h]
  rfl

theorem ne_zero_of_fromNode {h : Head} (hn : fromNode h = true) : h.src ≠ 0 := by
  intro hsrc
  simp [fromNode, hsrc] at hn

/-- A sample of the encoder node (R2, R165). -/
theorem exec_enc {h : Head} {payload : List Byte} {r : BitVec 16} (hr : s.hears h encPayload payload r)
    (hsrc : h.src = s.belt.encoder) : exec (.enc h payload) s = .next (s.sample r).officeKick := by
  obtain ⟨hl, hn, hp⟩ := hr
  show execEnc h payload s = _
  unfold execEnc
  rw [ringFrame_taken hl hn hp, if_pos ⟨hsrc ▸ ne_zero_of_fromNode hn, hsrc⟩]

/-- A frame that is not a sample of the encoder node has no effect (R163, R164, R165). -/
theorem exec_enc_discarded {h : Head} {payload : List Byte} (hl : s.live)
    (hno : fromNode h = false ∨ encPayload payload = none ∨ s.belt.encoder = 0 ∨ h.src ≠ s.belt.encoder) :
    exec (.enc h payload) s = .next s.officeKick := by
  show execEnc h payload s = _
  unfold execEnc
  by_cases hform : fromNode h = false ∨ encPayload payload = none
  · exact ringFrame_discarded hl hform _
  · rw [not_or] at hform
    obtain ⟨hnode, hpayload⟩ := hform
    obtain ⟨r, hr⟩ := Option.ne_none_iff_exists'.1 hpayload
    rw [ringFrame_taken hl (by simpa using hnode) hr, if_neg]
    rintro ⟨hencoder, hsrc⟩
    rcases hno with h | h | h | h
    · exact hnode h
    · exact hpayload h
    · exact hencoder h
    · exact h hsrc

/-- Settles O9. -/
theorem samplesWithoutMovement : Obligations.SamplesWithoutMovement := by
  refine ⟨fun s h payload hl => ⟨fun hno => ⟨_, exec_enc_discarded hl hno, (Queues.refl s).kick⟩,
    fun r hr hsrc hlast => ?_⟩, fun s h payload r last hr hsrc hlast hdelta hroom => ?_⟩
  · have heq : s.sample r = s.sampled r := by
      rcases hlast with hnone | hsame
      · exact sample_first hnone
      · rw [sample_moved hsame, if_pos (by simp)]
    refine ⟨_, exec_enc hr hsrc, ?_, ?_⟩
    · rw [heq]
      exact sampled_belt s r
    · rw [heq]
      exact (Queues.of_touches (sampled_touches s r)).kick
  · have heq : s.sample r = (s.sampled r).raise .encoder := by
      rw [sample_moved hlast, if_neg (by omega), if_neg (by omega)]
    have hbelt : ((s.sampled r).raise .encoder).belt = (s.sampled r).belt := (raise_touches _ _ _ _ _ _).belt
    have hraises := raise_raises (s := s.sampled r) .encoder none none none none (by decide)
    have hqueues := raise_queues (s := s.sampled r) .encoder none none none none (by decide) hroom
    refine ⟨_, exec_enc hr hsrc, ?_, ?_, ?_⟩
    · rw [heq]
      exact hbelt.trans (sampled_belt s r)
    · rw [heq]
      exact Raises.kick (s := s) hraises (.kick _)
    · rw [heq]
      exact (hqueues.after (sampled_touches s r)).kick

/-! ## The point stop (R71) -/

/-- The exit is blocked in RUNNING: a point stop begins (R71). -/
theorem exitBlockedCheck_blocked {c : Car} (hrun : s.pacer.state = .running) (hzone : s.eyes[(3 : Fin 10)].on = true)
    (hlead : leadCar s.cars = some c)
    (hreached : s.stopPoint - (s.pacer.approach : Int) ≤ ((c.front s.belt.count).toNat : Int)) :
    s.exitBlockedCheck = s.onPacer fun p => { p with
      state := .pointStop
      pointStop := some {
        decel := if s.remaining c < (rampDistance s.pacer.speed s.pacer.dec : Int) then .decHard else .dec
        latched := false } } := by
  have hblocked : s.blockedBy = some c := by
    unfold State.blockedBy
    rw [show s.zoneOn = true from hzone, hlead]
    exact if_pos hreached
  unfold State.exitBlockedCheck
  rw [if_pos hrun, hblocked]
  exact setPacerState_plain (by decide) (by decide) (by decide)

/-- Outside RUNNING, or with the exit not blocked, the test does nothing (R71). -/
theorem exitBlockedCheck_free (h : s.pacer.state ≠ .running ∨ s.eyes[(3 : Fin 10)].on = false ∨ leadCar s.cars = none ∨
    ∃ c, leadCar s.cars = some c ∧ ((c.front s.belt.count).toNat : Int) < s.stopPoint - (s.pacer.approach : Int)) :
    s.exitBlockedCheck = s := by
  have hfree (hnone : s.blockedBy = none) : s.exitBlockedCheck = s := by
    unfold State.exitBlockedCheck
    rw [hnone]
    exact ite_self s
  rcases h with hrun | hzone | hlead | ⟨c, hlead, hshort⟩
  · exact if_neg hrun
  · refine hfree ?_
    unfold State.blockedBy
    rw [show s.zoneOn = false from hzone]
  · refine hfree ?_
    unfold State.blockedBy
    rw [hlead]
    split
    next h => cases h
    next => rfl
  · refine hfree ?_
    unfold State.blockedBy
    rw [hlead]
    split
    next _ h =>
      cases h
      exact if_neg (by omega)
    next => rfl

/-! ## A belt advance (R4) -/

/-- The gate and the pacer stand in the three slots that the track and the sequencer leave (log 3). -/
theorem blocksInSlot_perm (o : AdvanceOrder) :
    (blocksInSlot o .beforeTrack ++ blocksInSlot o .beforeSequencer ++ blocksInSlot o .afterSequencer).Perm [.gate, .pacer] := by
  obtain ⟨gate, pacer, gateFirst⟩ := o
  cases gate <;> cases pacer <;> cases gateFirst <;> decide

/-- Settles O10. -/
theorem plausibleSampleAdvances : Obligations.PlausibleSampleAdvances := by
  refine ⟨fun s h payload r last hr hsrc hlast hlow hhigh => ?_, fun o => ?_, fun s => ⟨_, _, rfl, rfl, rfl⟩,
    fun s => ⟨fun c hrun hzone hlead hreached => exitBlockedCheck_blocked hrun hzone hlead hreached, exitBlockedCheck_free⟩⟩
  · have hadvanced : s.sample r = ((s.sampled r).onBelt fun b =>
        { b with count := b.count + BitVec.ofNat 32 (r - last).toNat }).beltAdvance := by
      rw [sample_moved hlast, if_neg (by omega), if_pos (by omega)]
    have hexec := exec_enc hr hsrc
    rw [hadvanced] at hexec
    generalize hu : ((s.sampled r).onBelt fun b => { b with count := b.count + BitVec.ofNat 32 (r - last).toNat }) = u at hexec
    have hmoved : Touches [.belt] s u := by
      rw [← hu]
      exact (sampled_touches s r).andThen (touches_onBelt _ _)
    have hbelt : u.beltAdvance.officeKick.belt = u.belt := by
      rw [officeKick_belt]
      exact (beltAdvance_touches u).belt
    refine ⟨_, hexec, ?_, ?_, ?_⟩
    · rw [hbelt, ← hu]
      rfl
    · obtain ⟨o, ho⟩ := beltAdvance_eq u
      refine ⟨o, ?_⟩
      have hstart : (s.onBelt fun _ => u.belt) = u := by
        rw [← hu]
        rfl
      have hchoices : u.clock.choices = s.clock.choices := hmoved .choices (by decide)
      rw [hbelt, hstart, ho, hchoices]
      exact (Queues.refl _).kick
    · exact (hmoved.andThen (beltAdvance_touches u) (hs := .belt :: .choices :: advanceFields)).andThen (officeKick_touches _)
  · exact ⟨_, _, _, blocksInSlot_perm o, fun s => rfl⟩

/-! ## EYE frames that form no edge (R10) -/

/-- An EYE frame that forms no edge has no effect. -/
theorem exec_eye_quiet {h : Head} {payload : List Byte} {r : Nat × Nat} (hr : s.hears h eyePayload payload r)
    (hno : ∀ e, matchingEye s.eyes h.src r.1 = some e → s.eyes[e].readsOn r.2 = s.eyes[e].on) :
    exec (.eye h payload) s = .next s.officeKick := by
  obtain ⟨hl, hn, hp⟩ := hr
  show execEye h payload s = _
  unfold execEye
  rw [ringFrame_taken hl hn hp]
  split
  next => rfl
  next e he =>
    unfold State.eyeReport
    rw [if_pos (hno e he)]

/-- An edge of a tracking eye (R12, R29). -/
theorem deliverEdge_tracking {e : Fin 10} (he : 4 ≤ e.val) (on : Bool) :
    s.deliverEdge e on = if s.eyes[e].reliable && on then s.trackingOn e.val else s := by
  unfold State.deliverEdge
  split
  case h_5 => rfl
  all_goals omega

/-- An edge of an eye whose delivery changes nothing but the eye. -/
theorem edge_quiet {h : Head} {payload : List Byte} {e : Fin 10} {on : Bool} (he : s.edge h payload e on)
    (hd : (s.withEye e on).deliverEdge e on = s.withEye e on) :
    ∃ t, exec (.eye h payload) s = .next t ∧ t.eyes = s.eyes.set e { s.eyes[e] with on := on } ∧ Quiet [.eyes] s t := by
  obtain ⟨t, hexec, hsame, hsends⟩ := edge_sends he (ns := []) (rs := []) (by rw [hd]; exact withEye_queues e on)
  refine ⟨t, hexec, ?_, hsends⟩
  rw [hsame.eyes, hd]
  rfl

/-- The record with a tag, with another tentative rear. -/
theorem onCar_cars (s : State) (tag : Nat) (f : Car → Car) :
    (s.onCar tag f).cars = s.cars.map fun k => if k.tag = tag then f k else k := rfl

/-- An edge of the entry eye while a car enters (R22, R23). -/
theorem entryEdge_of_entering {c : Car} (hc : enteringCar s.cars = some c) (on : Bool) :
    s.deliverEdge 1 on =
      if on = true ∧ c.tentative.isSome = true then s.onCar c.tag fun k => { k with tentative := none }
      else if on = false ∧ c.tentative = none then s.onCar c.tag fun k => { k with tentative := some s.belt.count }
      else s := by
  cases on with
  | true =>
    show s.entryOn = _
    unfold State.entryOn
    rw [hc]
    cases htentative : c.tentative <;> simp [htentative]
  | false =>
    show s.entryOff = _
    unfold State.entryOff
    rw [hc]
    cases htentative : c.tentative <;> simp [htentative]

/-- Settles O11. -/
theorem edgesThatRaiseNothing : Obligations.EdgesThatRaiseNothing := by
  refine ⟨fun s h payload hl => ⟨fun hno => ?_, fun r hr hnone => ?_, fun r e hr he hsame => ?_, fun e on he htracking hno => ?_⟩,
    fun s h payload => ⟨fun on he c hc => ?_, fun he hc => ?_⟩⟩
  · have hexec : execEye h payload s = .next s.officeKick := ringFrame_discarded hl hno _
    exact ⟨_, hexec, (Queues.refl s).kick⟩
  · refine ⟨_, exec_eye_quiet hr fun e he => ?_, (Queues.refl s).kick⟩
    rw [hnone] at he
    cases he
  · refine ⟨_, exec_eye_quiet hr fun k hk => ?_, (Queues.refl s).kick⟩
    rw [he] at hk
    cases hk
    exact hsame
  · refine edge_quiet he ?_
    have hdiscarded : ((s.withEye e on).eyes[e].reliable && on) = false := by
      rw [(withEye_fields e e on).2.1]
      rcases hno with rfl | hunreliable
      · exact Bool.and_false _
      · rw [hunreliable, Bool.false_and]
    rw [deliverEdge_tracking htracking, hdiscarded]
    rfl
  · have hdelivered := entryEdge_of_entering (s := s.withEye 1 on) hc on
    have hqueues : Queues [.eyes, .cars] s ((s.withEye 1 on).deliverEdge 1 on) [] [] := by
      rw [hdelivered]
      exact (withEye_queues 1 on).touch ((onCar_touches _ _ _).ite ((onCar_touches _ _ _).ite (Touches.refl _ _)))
    obtain ⟨t, hexec, hsame, hsends⟩ := edge_sends he hqueues
    refine ⟨t, hexec, ?_, ?_, hsends⟩
    · rw [hsame.cars, hdelivered]
      split
      · rfl
      · split <;> rfl
    · rw [hsame.eyes, hdelivered]
      split
      · rfl
      · split <;> rfl
  · refine edge_quiet he ?_
    show (s.withEye 1 false).entryOff = _
    unfold State.entryOff
    rw [withEye_cars, hc]

/-! ## The loading eye (R41, R42) -/

theorem enteringCar_isNone_iff {cars : List Car} :
    (enteringCar cars).isNone = true ↔ ∀ c, cars.getLast? = some c → c.length ≠ none := by
  unfold enteringCar
  cases cars.getLast? with
  | none => simp
  | some c => cases hlength : c.length <;> simp [hlength]

theorem stampPassed_iff {b : Word} {stamp : Option Word} {limit : Nat} :
    stampPassed b stamp limit = true ↔ ∀ x, stamp = some x → limit ≤ (b - x).toNat := by
  cases stamp <;> simp [stampPassed]

/-- The seven admission conditions (R42). -/
theorem admissible_iff : s.admissible = true ↔
    s.gate.isOpen = true ∧ s.halt.state = .clear ∧ s.pacer.state = .running ∧
    (s.cars.length < 16 ∧ ∀ c, s.cars.getLast? = some c → c.length ≠ none) ∧
    (∀ x, s.gate.lastCall = some x → s.gate.pitch ≤ (s.belt.count - x).toNat) ∧
    (∀ x, s.gate.prevRear = some x → s.gate.gap ≤ (s.belt.count - x).toNat) ∧
    (s.book.queue ≠ [] ∨ s.gate.admitUnsold = true) := by
  rw [← enteringCar_isNone_iff, ← stampPassed_iff, ← stampPassed_iff]
  simp only [State.admissible, Bool.and_eq_true, Bool.or_eq_true, beq_iff_eq, decide_eq_true_eq, Bool.not_eq_true',
    List.isEmpty_eq_false_iff, and_assoc]

/-- A phase of the gate that an edge of the loading eye does not move (R41). -/
theorem loadingEdge_of_fixed {on : Bool} (hfixed : s.gate.phase.afterLoading on = s.gate.phase) (hready : s.gate.phase ≠ .ready) :
    s.loadingEdge on = s := by
  have hgate : (s.onGate fun g => { g with phase := g.phase.afterLoading on }) = s := by
    unfold State.onGate
    dsimp only
    rw [hfixed]
  unfold State.loadingEdge
  rw [hgate]
  exact admissionCheck_none (.inl hready)

/-- An edge of the loading eye that moves the gate, without a call (R41). -/
theorem loadingEdge_of_moved {on : Bool} {p : GatePhase} (hmoved : s.gate.phase.afterLoading on = p)
    (hno : p ≠ .ready ∨ s.admissible = false) : s.loadingEdge on = s.onGate fun g => { g with phase := p } := by
  subst hmoved
  exact admissionCheck_none (s := s.onGate fun g => { g with phase := g.phase.afterLoading on }) hno

/-- An edge of the loading eye that calls the next car (R41, R43). -/
theorem loadingEdge_calls {on : Bool} (hmoved : s.gate.phase.afterLoading on = .ready) (hcalls : s.admissible = true) :
    s.loadingEdge on = (s.onGate fun g => { g with phase := .ready }).issueCall := by
  rw [← hmoved]
  exact admissionCheck_calls (s := s.onGate fun g => { g with phase := g.phase.afterLoading on }) hmoved hcalls

/-- Settles O16. -/
theorem loadingEyeMovesTheGate : Obligations.LoadingEyeMovesTheGate := by
  refine ⟨fun s => admissible_iff, fun s h payload on he => ?_⟩
  have hdelivered : (s.withEye 0 on).deliverEdge 0 on = (s.withEye 0 on).loadingEdge on := rfl
  have heyes : ((s.withEye 0 on).loadingEdge on).eyes = s.eyes.set (0 : Fin 10) { s.eyes[(0 : Fin 10)] with on := on } :=
    (loadingEdge_touches _ _).eyes
  refine ⟨_, exec_edge he, ?_, fun hphase => ?_, fun hphase hon => ?_, fun hphase hon hno => ?_, fun hphase hon hcalls => ?_⟩
  · rw [hdelivered]
    exact heyes
  · have hfixed : s.gate.phase.afterLoading on = s.gate.phase := by
      rcases hphase with h | h | h <;> rw [h] <;> rfl
    have hready : s.gate.phase ≠ .ready := by
      rcases hphase with h | h | h <;> rw [h] <;> decide
    rw [hdelivered, loadingEdge_of_fixed (s := s.withEye 0 on) hfixed hready]
    exact (withEye_queues 0 on).kick
  · have hmoved : (s.withEye 0 on).gate.phase.afterLoading on = .waiting := by
      rw [withEye_gate, hphase, hon]
      rfl
    rw [hdelivered, loadingEdge_of_moved hmoved (.inl (by decide))]
    exact ⟨rfl, ((withEye_queues 0 on).touch (touches_onGate _ _) (hs := [.eyes, .gate])).kick⟩
  · have hmoved : (s.withEye 0 on).gate.phase.afterLoading on = .ready := by
      rw [withEye_gate, hphase, hon]
      rfl
    rw [hdelivered, loadingEdge_of_moved hmoved (.inr hno)]
    exact ⟨rfl, ((withEye_queues 0 on).touch (touches_onGate _ _) (hs := [.eyes, .gate])).kick⟩
  · have hmoved : (s.withEye 0 on).gate.phase.afterLoading on = .ready := by
      rw [withEye_gate, hphase, hon]
      rfl
    rw [hdelivered, loadingEdge_calls hmoved hcalls]
    exact ⟨rfl, rfl, rfl, ((withEye_queues 0 on).touch ((touches_onGate _ _).andThen (issueCall_touches _)
      (hs := [.gate, .seq, .ring])) (hs := [.eyes, .gate, .ring, .seq])).kick⟩

/-! ## The exit-zone eye (R71, R74) -/

theorem exitZoneClear_of_other (h : s.pacer.state ≠ .pointStop) : s.exitZoneClear = s := if_neg h

/-- The exit zone clears in POINT_STOP, while the halt state is CLEAR and the gate is not READY (R74). -/
theorem exitZoneClear_returns (hstop : s.pacer.state = .pointStop) (hclear : s.halt.state = .clear)
    (hready : s.gate.phase ≠ .ready) (hzone : s.eyes[(3 : Fin 10)].on = false) :
    s.exitZoneClear = s.onPacer fun p => { p with state := .running, pointStop := none } := by
  have hnot : s.halt.state ≠ .restarting := by
    rw [hclear]
    decide
  have hrunning : (s.onPacer fun p => { p with pointStop := none }).setPacerState .running =
      s.onPacer fun p => { p with state := .running, pointStop := none } :=
    (setPacerState_settles (s := s.onPacer fun p => { p with pointStop := none }) (by decide) hnot).trans
      (admissionCheck_none (s := s.onPacer fun p => { p with state := .running, pointStop := none }) (.inl hready))
  unfold State.exitZoneClear
  rw [if_pos hstop, hrunning]
  exact exitBlockedCheck_free (.inr (.inl hzone))

/-- Settles O17. -/
theorem exitZoneEyeStopsAndStarts : Obligations.ExitZoneEyeStopsAndStarts := by
  intro s h payload on he
  have hdelivered : (s.withEye 3 on).deliverEdge 3 on = (s.withEye 3 on).zoneEdge on := rfl
  have heyes : ((s.withEye 3 on).zoneEdge on).eyes = s.eyes.set (3 : Fin 10) { s.eyes[(3 : Fin 10)] with on := on } :=
    (zoneEdge_touches _ _).eyes
  have hzone : (s.withEye 3 on).eyes[(3 : Fin 10)].on = on := by rw [withEye_self]
  refine ⟨_, exec_edge he, by rw [hdelivered]; exact heyes, fun c hon hrun hlead hreached => ?_, fun hon hfree => ?_,
    fun hon hother => ?_, fun hon hstop hclear hready => ?_⟩
  · subst hon
    have heq := exitBlockedCheck_blocked (s := s.withEye 3 true) hrun hzone hlead hreached
    have hedge : (s.withEye 3 true).zoneEdge true = (s.withEye 3 true).exitBlockedCheck := rfl
    rw [hdelivered, hedge, heq]
    exact ⟨rfl, ((withEye_queues 3 true).touch (touches_onPacer _ _) (hs := [.eyes, .pacer])).kick⟩
  · subst hon
    have heq : (s.withEye 3 true).zoneEdge true = s.withEye 3 true :=
      exitBlockedCheck_free (s := s.withEye 3 true) (hfree.imp_right .inr)
    rw [hdelivered, heq]
    exact (withEye_queues 3 true).kick
  · subst hon
    have heq : (s.withEye 3 false).zoneEdge false = s.withEye 3 false := exitZoneClear_of_other (s := s.withEye 3 false) hother
    rw [hdelivered, heq]
    exact (withEye_queues 3 false).kick
  · subst hon
    have heq : (s.withEye 3 false).zoneEdge false = _ :=
      exitZoneClear_returns (s := s.withEye 3 false) hstop hclear hready hzone
    rw [hdelivered, heq]
    exact ⟨rfl, ((withEye_queues 3 false).touch (touches_onPacer _ _) (hs := [.eyes, .pacer])).kick⟩

end Sys2Proof.Machine
end

section
/-! A cause that a block raises (R142), the edges that halt (O13), and the exit front (O15). -/

set_option Elab.async false

namespace Sys2Proof.Machine

variable {s t u : State} {fs hs : List Field} {ns : List Notice}

/-! ## What a cause does to the cars (R142, R145) -/

theorem addSecondary_cars (s : State) (c : Cause) : (s.addSecondary c).cars = s.cars := (addSecondary_touches s c).cars

theorem openBy_cars (s : State) (c : Cause) :
    (s.openBy c).cars = s.cars.map fun x => { x with missed := x.missed ||| (s.newIncident c).droppedServices x } := by
  have hentered : (s.openBy c).cars = ((s.newIncident c).haltActions.notify (.incidentOpen s.freeIncidentNumber c)).cars :=
    (enterHalting_touches _).cars
  rw [hentered, notify_cars, haltActions_cars, (newIncident_touches s c).cars]

/-- The halt of a cause records services of the stations engaged with a car as missed, and changes no car otherwise. -/
theorem takeCause_cars (s : State) (c : Cause) :
    ∃ f : Car → StationSet, (∀ x (i : StationId), (f x).getLsbD i.val = true → s.seq.stations[i].car = some x.tag) ∧
      (s.takeCause c).cars = (s.markStruck c).cars.map fun x => { x with missed := x.missed ||| f x } := by
  have hempty (x : Car) (i : StationId) (h : (0 : StationSet).getLsbD i.val = true) : s.seq.stations[i].car = some x.tag := by
    have hzero : (0 : StationSet).getLsbD i.val = false := BitVec.getLsbD_zero
    rw [hzero] at h
    cases h
  have hdropped {u : State} (hu : u.seq = s.seq) (x : Car) (i : StationId) (h : (u.droppedServices x).getLsbD i.val = true) :
      s.seq.stations[i].car = some x.tag := by
    rw [State.droppedServices, getLsbD_ofFnLE_val, hu, Bool.and_eq_true, beq_iff_eq] at h
    exact h.1
  have hunchanged (u : State) : u.cars = u.cars.map fun x => { x with missed := x.missed ||| (0 : StationSet) } := by
    have hid : (fun x : Car => { x with missed := x.missed ||| (0 : StationSet) }) = id := by
      funext x
      have hmissed : x.missed ||| (0 : StationSet) = x.missed := BitVec.or_zero
      rw [hmissed]
      rfl
    rw [hid, List.map_id]
  unfold State.takeCause
  dsimp only
  split
  · split
    · exact ⟨_, hempty, hunchanged _⟩
    · exact ⟨_, hdropped rfl, openBy_cars _ c⟩
  · unfold State.secondaryBy
    dsimp only
    split
    · refine ⟨State.droppedServices (((s.markStruck c).addSecondary c).onHalt fun b => { b with line := .asserted }),
        hdropped ((addSecondary_touches _ c).seq), ?_⟩
      rw [(enterHalting_touches _).cars, haltActions_cars, (touches_onHalt _ _).cars, addSecondary_cars]
    · rw [addSecondary_cars]
      exact ⟨_, hempty, hunchanged _⟩

/-- A car's tag and its STRUCK flag. -/
def Car.strike (c : Car) : Nat × Bool := (c.tag, c.flags.struck)

/-- The cars a cause names are marked STRUCK, and no other is (R142). -/
theorem takeCause_strikes (s : State) (c : Cause) : Strikes s (s.takeCause c) c := by
  obtain ⟨f, -, hcars⟩ := takeCause_cars s c
  unfold Strikes
  rw [hcars]
  unfold State.markStruck State.onCars
  dsimp only
  rw [List.map_map, List.map_map]
  refine List.map_congr_left fun k _ => ?_
  by_cases hnamed : c.tag = some k.tag ∨ c.tag2 = some k.tag
  · rcases hnamed with h | h <;> simp [h]
  · rw [not_or] at hnamed
    obtain ⟨htag, htag2⟩ := hnamed
    have h1 : (c.tag == some k.tag) = false := by simpa using htag
    have h2 : (c.tag2 == some k.tag) = false := by simpa using htag2
    simp [htag, htag2, h1, h2]

/-! ## A cause after a change of the cars and the eyes -/

theorem Raises.of_halt {c : Cause} (hhalt : u.halt = s.halt) (h : Raises u t c) : Raises s t c := by
  unfold Raises State.freeIncidentNumber State.incidentNumberHeld at *
  rwa [hhalt] at h

theorem Strikes.of_strike {c : Cause} (hcars : u.cars.map Car.strike = s.cars.map Car.strike) (h : Strikes u t c) :
    Strikes s t c := by
  have hmarked (cars : List Car) :
      cars.map (fun k => (k.tag, k.flags.struck || c.tag == some k.tag || c.tag2 == some k.tag)) =
        (cars.map Car.strike).map fun x => (x.1, x.2 || c.tag == some x.1 || c.tag2 == some x.1) := by
    rw [List.map_map]
    rfl
  unfold Strikes at *
  rw [h, hmarked, hmarked, hcars]

theorem Strikes.of_cars {c : Cause} (h : Strikes s t c) (hcars : u.cars = t.cars) : Strikes s u c := by
  unfold Strikes at *
  rw [hcars, h]

/-- A change of one record that keeps its tag and its STRUCK flag. -/
theorem onCar_strike (s : State) (tag : Nat) {f : Car → Car} (hf : ∀ c, (f c).strike = c.strike) :
    (s.onCar tag f).cars.map Car.strike = s.cars.map Car.strike := by
  rw [onCar_cars, List.map_map]
  refine List.map_congr_left fun k _ => ?_
  show Car.strike (if k.tag = tag then f k else k) = _
  split
  · exact hf k
  · rfl

theorem causeNotices_of_halt {c : Cause} (hhalt : u.halt = s.halt) : u.causeNotices c = s.causeNotices c := by
  unfold State.causeNotices State.freeIncidentNumber State.incidentNumberHeld State.openIncident
  rw [hhalt]

theorem causeNow_congr (hbelt : u.belt = s.belt) (huptime : u.clock.uptime = s.clock.uptime) (k : CauseKind)
    (tag tag2 station eye : Option Nat) : u.causeNow k tag tag2 station eye = s.causeNow k tag tag2 station eye := by
  unfold State.causeNow
  rw [hbelt, huptime]

/-- A cause raised after a change that queued notices. -/
theorem Queues.raise {rs : List Reply} (q : Queues fs s u rs ns) (k : CauseKind) (tag tag2 station eye : Option Nat)
    (hk : k ≠ .driveNoStop) (room : s.noticeRoom (ns.length + 1)) (hhalt : u.halt = s.halt) (hf : fs ⊆ hs := by decide)
    (hcause : [.cars, .pacer, .seq, .gate, .ring, .halt] ⊆ hs := by decide) :
    Queues hs s (u.raise k tag tag2 station eye) rs (ns ++ s.causeNotices (u.causeNow k tag tag2 station eye)) := by
  have hplaces : u.office.notices.length < 32 := by
    rw [q.notices_length]
    unfold State.noticeRoom at room
    omega
  have hraised := raise_queues (s := u) k tag tag2 station eye hk hplaces
  rw [causeNotices_of_halt hhalt] at hraised
  simpa using q.andThen hraised hf hcause

/-- A cause raised after a change that leaves the halt state and the cars' strikes alone. -/
theorem raise_after (k : CauseKind) (tag tag2 station eye : Option Nat) (hk : k ≠ .driveNoStop) (hhalt : u.halt = s.halt)
    (hcars : u.cars.map Car.strike = s.cars.map Car.strike) :
    Raises s (u.raise k tag tag2 station eye) (u.causeNow k tag tag2 station eye) ∧
    Strikes s (u.raise k tag tag2 station eye) (u.causeNow k tag tag2 station eye) :=
  ⟨.of_halt hhalt (raise_raises k tag tag2 station eye hk), .of_strike hcars (takeCause_strikes _ _)⟩

/-- The core of the cars after a change of one record. -/
theorem onCar_core (s : State) (tag : Nat) (f : Car → Car) :
    (s.onCar tag f).cars.map Car.core = s.cars.map fun k => Car.core (if k.tag = tag then f k else k) := by
  rw [onCar_cars, List.map_map]
  rfl

/-! ## Edges that halt (R20, R29, R30) -/

/-- An edge whose delivery is a cause, after a change u of the cars. -/
theorem edge_raises {h : Head} {payload : List Byte} {e : Fin 10} {on : Bool} (he : s.edge h payload e on) (k : CauseKind)
    (tag tag2 station eye : Option Nat) (hk : k ≠ .driveNoStop) (room : s.noticeRoom 1) (hu : Touches [.eyes, .cars] s u)
    (hcars : u.cars.map Car.strike = s.cars.map Car.strike)
    (hd : (s.withEye e on).deliverEdge e on = u.raise k tag tag2 station eye) :
    ∃ t, exec (.eye h payload) s = .next t ∧ t.cars.map Car.core = u.cars.map Car.core ∧
      Raises s t (s.causeNow k tag tag2 station eye) ∧ Strikes s t (s.causeNow k tag tag2 station eye) ∧
      Sends [.eyes, .cars, .pacer, .seq, .gate, .ring, .halt] s t []
        (s.causeNotices (s.causeNow k tag tag2 station eye)) := by
  have hcause : u.causeNow k tag tag2 station eye = s.causeNow k tag tag2 station eye :=
    causeNow_congr hu.belt hu.uptime k tag tag2 station eye
  have hqueues := (Queues.of_touches hu).raise k tag tag2 station eye hk room hu.halt
    (hs := [.eyes, .cars, .pacer, .seq, .gate, .ring, .halt])
  rw [← hd, hcause] at hqueues
  obtain ⟨t, hexec, hsame, hsends⟩ := edge_sends he hqueues
  rw [hd] at hsame
  obtain ⟨hraises, hstrikes⟩ := raise_after k tag tag2 station eye hk hu.halt hcars
  rw [hcause] at hraises hstrikes
  refine ⟨t, hexec, ?_, hraises.kick hsame, hstrikes.of_cars hsame.cars, hsends⟩
  rw [hsame.cars]
  exact raise_core k tag tag2 station eye

theorem entryOn_full (hentering : enteringCar s.cars = none) (hfull : 16 ≤ s.cars.length) :
    s.entryOn = s.raise .trackFull none none none (some 1) := by
  unfold State.entryOn
  rw [hentering]
  exact if_pos hfull

theorem withEye_touches (s : State) (e : Fin 10) (on : Bool) : Touches [.eyes] s (s.withEye e on) := touches_onEyes s _

/-- An on edge of a reliable tracking eye (R29, R30). -/
theorem deliverEdge_trackingOn {e : Fin 10} (he : 4 ≤ e.val) (hreliable : s.eyes[e].reliable = true) :
    (s.withEye e true).deliverEdge e true = (s.withEye e true).trackingOn e.val := by
  rw [deliverEdge_tracking he, (withEye_fields e e true).2.1, hreliable]
  rfl

/-- Settles O13. -/
theorem edgesThatHalt : Obligations.EdgesThatHalt := by
  refine ⟨fun s h payload he hentering hfull hroom => ?_, fun s h payload e he htracking hreliable hroom =>
    ⟨fun hnone => ?_, fun c hc hout => ?_⟩⟩
  · have hfront : (s.withEye 1 true).entryOn = (s.withEye 1 true).raise .trackFull none none none (some 1) :=
      entryOn_full (s := s.withEye 1 true) hentering hfull
    obtain ⟨t, hexec, hcore, hrest⟩ := edge_raises (u := s.withEye 1 true) he .trackFull none none none (some 1) (by decide) hroom
      ((withEye_touches s 1 true).mono (gs := [.eyes, .cars]) (by decide)) rfl hfront
    exact ⟨t, hexec, hcore, hrest⟩
  · refine edge_raises (u := s.withEye e true) he .object none none none (some e.val) (by decide) hroom
      ((withEye_touches s e true).mono (gs := [.eyes, .cars]) (by decide)) rfl ?_
    rw [deliverEdge_trackingOn htracking hreliable]
    unfold State.trackingOn
    rw [withEye_cars, hnone]
  · have hraised := edge_raises (u := (s.withEye e true).onCar c.tag fun k => { k with nextEye := nextEyeAbove s.eyes e.val }) he
      .carRoll (some c.tag) none none (some e.val) (by decide) hroom
      ((withEye_touches s e true).andThen (onCar_touches _ _ _)) (onCar_strike _ _ fun _ => rfl) (by
        rw [deliverEdge_trackingOn htracking hreliable]
        unfold State.trackingOn
        rw [withEye_cars, hc]
        dsimp only
        rw [eyePosition_withEye, nextEyeAbove_withEye]
        exact if_neg (Nat.not_le.2 hout))
    obtain ⟨t, hexec, hcore, hrest⟩ := hraised
    exact ⟨t, hexec, hcore.trans (onCar_core _ _ _), hrest⟩

/-! ## The exit front (R32) -/

/-- Settles O15. -/
theorem exitFront : Obligations.ExitFront := by
  intro s h payload he hroom
  have hdelivered : (s.withEye 2 true).deliverEdge 2 true = (s.withEye 2 true).exitOn := rfl
  have hzone : (s.withEye 2 true).zoneOn = s.eyes[(3 : Fin 10)].on := by
    unfold State.zoneOn
    exact congrArg Eye.on (withEye_other (e := 2) (k := 3) (by decide) true)
  refine ⟨fun c hc hnear => ?_, fun hstray => ?_⟩
  · have hexit : (s.withEye 2 true).exitOn =
        if s.eyes[(3 : Fin 10)].on = true then
          ((s.withEye 2 true).onCar c.tag fun k => { k with phase := .leaving }).raise .exitCrash (some c.tag) none none (some 2)
        else (s.withEye 2 true).onCar c.tag fun k => { k with phase := .leaving } := by
      unfold State.exitOn
      rw [withEye_cars, hc]
      dsimp only
      rw [withEye_belt, withEye_track, if_pos hnear, hzone]
    have hleft : Touches [.eyes, .cars] s ((s.withEye 2 true).onCar c.tag fun k => { k with phase := .leaving }) :=
      (withEye_touches s 2 true).andThen (onCar_touches _ _ _)
    cases hon : s.eyes[(3 : Fin 10)].on with
    | true =>
      rw [hon, if_pos rfl] at hexit
      obtain ⟨t, hexec, hcore, hrest⟩ := edge_raises he .exitCrash (some c.tag) none none (some 2) (by decide) hroom hleft
        (onCar_strike _ _ fun _ => rfl) (hdelivered.trans hexit)
      exact ⟨t, hexec, hcore.trans (onCar_core _ _ _), nofun, fun _ => hrest⟩
    | false =>
      rw [hon, if_neg nofun] at hexit
      obtain ⟨t, hexec, hsame, hsends⟩ := edge_sends he (by
        rw [hdelivered, hexit]
        exact Queues.of_touches hleft)
      have hcars : t.cars = s.cars.map fun k => if k.tag = c.tag then { k with phase := .leaving } else k := by
        rw [hsame.cars, hdelivered, hexit]
        rfl
      refine ⟨t, hexec, ?_, fun _ => ⟨hcars, hsends⟩, nofun⟩
      rw [hcars, List.map_map]
      rfl
  · have hexit : (s.withEye 2 true).exitOn = (s.withEye 2 true).notify (.exitStray s.belt.count) := by
      unfold State.exitOn
      split
      next => rfl
      next c hc => exact if_neg (Nat.not_le.2 (hstray c hc))
    obtain ⟨t, hexec, -, hsends⟩ := edge_sends he (by
      rw [hdelivered, hexit]
      exact (withEye_queues 2 true).andThen (Queues.notify (s.withEye 2 true) (.exitStray s.belt.count) hroom) (hs := [.eyes]))
    exact ⟨t, hexec, hsends⟩

end Sys2Proof.Machine
end

section
/-! The neighbours of a car in the list, the crowd checks (R28), the eye-missed test (R31), and O14. -/

set_option Elab.async false

namespace Sys2Proof.Machine

variable {s t u v : State} {cars : List Car}

/-! ## The record with a tag, and its neighbours -/

/-- No two records of the list have a tag in common (R18). -/
def TagsDiffer (cars : List Car) : Prop := (cars.map fun c => c.tag).Nodup

theorem State.listLaw.tagsDiffer (h : s.listLaw) : TagsDiffer s.cars := h.2.1

theorem TagsDiffer.eq_of_tag (h : TagsDiffer cars) {c d : Car} (hc : c ∈ cars) (hd : d ∈ cars) (htag : c.tag = d.tag) : c = d :=
  List.inj_on_of_nodup_map h hc hd htag

theorem TagsDiffer.map {f : Car → Car} (h : TagsDiffer cars) (hf : ∀ c, (f c).tag = c.tag) : TagsDiffer (cars.map f) := by
  unfold TagsDiffer
  rw [List.map_map]
  have htags : ((fun c : Car => c.tag) ∘ f) = fun c => c.tag := funext hf
  rw [htags]
  exact h

theorem carByTag_of_mem (h : TagsDiffer cars) {c : Car} (hc : c ∈ cars) : carByTag cars c.tag = some c := by
  cases hfound : carByTag cars c.tag with
  | none =>
    have hnone := List.find?_eq_none.1 hfound c hc
    simp at hnone
  | some d =>
    have htag : d.tag = c.tag := by simpa using List.find?_some hfound
    rw [h.eq_of_tag (List.mem_of_find?_eq_some hfound) hc htag]

theorem carByTag_eq_some {tag : Nat} {c : Car} (h : carByTag cars tag = some c) : c ∈ cars ∧ c.tag = tag :=
  ⟨List.mem_of_find?_eq_some h, by simpa using List.find?_some h⟩

theorem Behind.mem_left {a b : Car} (h : Behind cars a b) : a ∈ cars := by
  obtain ⟨before, after, rfl⟩ := h
  simp

theorem Behind.mem_right {a b : Car} (h : Behind cars a b) : b ∈ cars := by
  obtain ⟨before, after, rfl⟩ := h
  simp

theorem behind_cons_iff {x a b : Car} :
    Behind (x :: cars) a b ↔ (x = a ∧ cars.head? = some b) ∨ Behind cars a b := by
  constructor
  · rintro ⟨before, after, h⟩
    cases before with
    | nil =>
      obtain ⟨rfl, rfl⟩ := List.cons.inj h
      exact .inl ⟨rfl, rfl⟩
    | cons y before => exact .inr ⟨before, after, (List.cons.inj h).2⟩
  · rintro (⟨rfl, h⟩ | ⟨before, after, rfl⟩)
    · obtain ⟨after, rfl⟩ := List.head?_eq_some_iff.1 h
      exact ⟨[], after, rfl⟩
    · exact ⟨x :: before, after, rfl⟩

/-- The second of two neighbours is not the first of the list. -/
theorem Behind.mem_tail {x a b : Car} (h : Behind (x :: cars) a b) : b ∈ cars := by
  rcases behind_cons_iff.1 h with ⟨-, h⟩ | h
  · exact List.mem_of_mem_head? h
  · exact h.mem_right

theorem carAhead_eq_some_iff (h : TagsDiffer cars) {tag : Nat} {a : Car} :
    carAhead tag cars = some a ↔ ∃ b, b.tag = tag ∧ Behind cars a b := by
  induction cars with
  | nil =>
    refine ⟨nofun, ?_⟩
    rintro ⟨b, -, hb⟩
    cases hb.mem_left
  | cons x cars ih =>
    have hrest : TagsDiffer cars := (List.nodup_cons.1 h).2
    cases cars with
    | nil =>
      refine ⟨nofun, ?_⟩
      rintro ⟨b, -, hb⟩
      cases hb.mem_tail
    | cons y rest =>
      simp only [carAhead, behind_cons_iff (x := x), List.head?_cons, Option.some.injEq]
      by_cases hy : y.tag = tag
      · rw [if_pos hy, Option.some.injEq]
        refine ⟨fun hx => ⟨y, hy, .inl ⟨hx, rfl⟩⟩, ?_⟩
        rintro ⟨b, hb, ⟨hx, -⟩ | hbehind⟩
        · exact hx
        · exact absurd (List.mem_map.2 ⟨b, hbehind.mem_tail, hb.trans hy.symm⟩) (List.nodup_cons.1 hrest).1
      · rw [if_neg hy, ih hrest]
        refine exists_congr fun b => and_congr_right fun hb => ⟨.inr, ?_⟩
        rintro (⟨-, rfl⟩ | hbehind)
        · exact absurd hb hy
        · exact hbehind

theorem carBehind_eq_some_iff (h : TagsDiffer cars) {tag : Nat} {b : Car} :
    carBehind tag cars = some b ↔ ∃ a, a.tag = tag ∧ Behind cars a b := by
  induction cars with
  | nil =>
    refine ⟨nofun, ?_⟩
    rintro ⟨a, -, ha⟩
    cases ha.mem_left
  | cons x cars ih =>
    have hrest : TagsDiffer cars := (List.nodup_cons.1 h).2
    cases cars with
    | nil =>
      refine ⟨nofun, ?_⟩
      rintro ⟨a, -, ha⟩
      cases ha.mem_tail
    | cons y rest =>
      simp only [carBehind, behind_cons_iff (x := x), List.head?_cons, Option.some.injEq]
      by_cases hx : x.tag = tag
      · rw [if_pos hx, Option.some.injEq]
        refine ⟨fun hy => ⟨x, hx, .inl ⟨rfl, hy⟩⟩, ?_⟩
        rintro ⟨a, ha, ⟨-, hy⟩ | hbehind⟩
        · exact hy
        · exact absurd (List.mem_map.2 ⟨a, hbehind.mem_left, ha.trans hx.symm⟩) (List.nodup_cons.1 h).1
      · rw [if_neg hx, ih hrest]
        refine exists_congr fun a => and_congr_right fun ha => ⟨.inr, ?_⟩
        rintro (⟨rfl, -⟩ | hbehind)
        · exact absurd ha hx
        · exact hbehind

/-- The car ahead of a record of the list, and the one behind it. -/
theorem carAhead_of_mem (h : TagsDiffer cars) {c a : Car} (hc : c ∈ cars) : carAhead c.tag cars = some a ↔ Behind cars a c := by
  rw [carAhead_eq_some_iff h]
  refine ⟨?_, fun hbehind => ⟨c, rfl, hbehind⟩⟩
  rintro ⟨d, hd, hbehind⟩
  rwa [← h.eq_of_tag hbehind.mem_right hc hd]

theorem carBehind_of_mem (h : TagsDiffer cars) {c b : Car} (hc : c ∈ cars) : carBehind c.tag cars = some b ↔ Behind cars c b := by
  rw [carBehind_eq_some_iff h]
  refine ⟨?_, fun hbehind => ⟨c, rfl, hbehind⟩⟩
  rintro ⟨d, hd, hbehind⟩
  rwa [← h.eq_of_tag hbehind.mem_left hc hd]

/-! ## The list after a halt: the same records but for the service sets and STRUCK -/

theorem carByTag_core (cars : List Car) (tag : Nat) : carByTag (cars.map Car.core) tag = (carByTag cars tag).map Car.core :=
  List.find?_map

theorem carAhead_core (cars : List Car) (tag : Nat) : carAhead tag (cars.map Car.core) = (carAhead tag cars).map Car.core := by
  induction cars with
  | nil => rfl
  | cons x cars ih =>
    cases cars with
    | nil => rfl
    | cons y rest =>
      simp only [List.map_cons, carAhead] at ih ⊢
      by_cases hy : y.tag = tag
      · rw [if_pos hy, if_pos (show y.core.tag = tag from hy)]
        rfl
      · rw [if_neg hy, if_neg (show ¬ y.core.tag = tag from hy)]
        exact ih

theorem carBehind_core (cars : List Car) (tag : Nat) : carBehind tag (cars.map Car.core) = (carBehind tag cars).map Car.core := by
  induction cars with
  | nil => rfl
  | cons x cars ih =>
    cases cars with
    | nil => rfl
    | cons y rest =>
      simp only [List.map_cons, carBehind] at ih ⊢
      by_cases hx : x.tag = tag
      · rw [if_pos hx, if_pos (show x.core.tag = tag from hx)]
        rfl
      · rw [if_neg hx, if_neg (show ¬ x.core.tag = tag from hx)]
        exact ih

theorem core_tag {c d : Car} (h : c.core = d.core) : c.tag = d.tag := by
  have htag : c.core.tag = d.core.tag := by rw [h]
  exact htag

/-- A record found in the later state has the core of the one found in the earlier. -/
theorem CoreSame.carByTag (h : CoreSame s t) {tag : Nat} {c : Car} (hc : carByTag s.cars tag = some c) :
    ∃ d, carByTag t.cars tag = some d ∧ d.core = c.core := by
  have hcore : (Machine.carByTag t.cars tag).map Car.core = some c.core := by
    rw [← carByTag_core, show t.cars.map Car.core = s.cars.map Car.core from h, carByTag_core, hc]
    rfl
  exact Option.map_eq_some_iff.1 hcore

theorem CoreSame.carBehind (h : CoreSame s t) {tag : Nat} {b : Car} (hb : carBehind tag s.cars = some b) :
    ∃ d, carBehind tag t.cars = some d ∧ d.core = b.core := by
  have hcore : (Machine.carBehind tag t.cars).map Car.core = some b.core := by
    rw [← carBehind_core, show t.cars.map Car.core = s.cars.map Car.core from h, carBehind_core, hb]
    rfl
  exact Option.map_eq_some_iff.1 hcore

theorem CoreSame.symm (h : CoreSame s t) : CoreSame t s := Eq.symm h

/-! ## The crowd checks (R28) -/

theorem crowdPair_free {a b : Car} (h : ¬ s.crowds a b) : s.crowdPair a b = s := by
  unfold State.crowdPair crowdGap
  cases hrear : a.rear s.belt.count with
  | none => rfl
  | some r => exact if_neg fun hgap => h ⟨r, hrear, hgap⟩

theorem crowdPair_crowds {a b : Car} (h : s.crowds a b) :
    s.crowdPair a b = s.raise .crowding (some b.tag) (some a.tag) none none := by
  obtain ⟨r, hrear, hgap⟩ := h
  unfold State.crowdPair crowdGap
  rw [hrear]
  exact if_pos hgap

theorem crowdAhead_free {tag : Nat}
    (h : ∀ c a, carByTag s.cars tag = some c → carAhead tag s.cars = some a → ¬ s.crowds a c) : s.crowdAhead tag = s := by
  unfold State.crowdAhead
  split
  next c a hc ha => exact crowdPair_free (h c a hc ha)
  next => rfl

theorem crowdAhead_crowds {tag : Nat} {c a : Car} (hc : carByTag s.cars tag = some c) (ha : carAhead tag s.cars = some a)
    (h : s.crowds a c) : s.crowdAhead tag = s.raise .crowding (some c.tag) (some a.tag) none none := by
  unfold State.crowdAhead
  rw [hc, ha]
  exact crowdPair_crowds h

theorem crowdBehind_free {tag : Nat}
    (h : ∀ c b, carByTag s.cars tag = some c → carBehind tag s.cars = some b → ¬ s.crowds c b) : s.crowdBehind tag = s := by
  unfold State.crowdBehind
  split
  next c b hc hb => exact crowdPair_free (h c b hc hb)
  next => rfl

theorem crowdBehind_crowds {tag : Nat} {c b : Car} (hc : carByTag s.cars tag = some c) (hb : carBehind tag s.cars = some b)
    (h : s.crowds c b) : s.crowdBehind tag = s.raise .crowding (some b.tag) (some c.tag) none none := by
  unfold State.crowdBehind
  rw [hc, hb]
  exact crowdPair_crowds h

theorem crowdPair_core (s : State) (a b : Car) : CoreSame s (s.crowdPair a b) := by
  by_cases h : s.crowds a b
  · rw [crowdPair_crowds h]
    exact raise_core _ _ _ _ _
  · rw [crowdPair_free h]
    exact .refl s

theorem crowdAhead_core (s : State) (tag : Nat) : CoreSame s (s.crowdAhead tag) := by
  unfold State.crowdAhead
  split
  · exact crowdPair_core s _ _
  · exact .refl s

theorem crowdBehind_core (s : State) (tag : Nat) : CoreSame s (s.crowdBehind tag) := by
  unfold State.crowdBehind
  split
  · exact crowdPair_core s _ _
  · exact .refl s

/-- Crowding looks at the belt, at the crowd limit and at the cores of the two cars. -/
theorem crowds_congr {a b a' b' : Car} (hbelt : t.belt = s.belt) (htrack : t.track = s.track) (ha : a'.core = a.core)
    (hb : b'.core = b.core) : t.crowds a' b' ↔ s.crowds a b := by
  have hrear (x y : Car) (h : x.core = y.core) (n : Word) : x.rear n = y.rear n ∧ x.front n = y.front n := by
    have hx : x.core.rear n = y.core.rear n ∧ x.core.front n = y.core.front n := by rw [h]; exact ⟨rfl, rfl⟩
    exact hx
  unfold State.crowds
  rw [hbelt, htrack, (hrear a' a ha _).1, (hrear b' b hb _).2]

/-! ## What waits without a frame being begun -/

theorem Queues.sends {fs : List Field} {rs : List Reply} {ns : List Notice} (h : Queues fs s t rs ns) : Sends fs s t rs ns := by
  obtain ⟨htouches, htx, hreplies, hnotices, hsettings⟩ := h
  refine ⟨htouches, ?_, hsettings⟩
  rw [Office.outgoing, htx, hreplies, hnotices]

/-! ## The next tracking eye (R20, R29, R31) -/

/-- The first of an increasing list with a property is the least with it. -/
theorem find?_increasing_iff {n : Nat} {p : Fin n → Bool} {l : List (Fin n)} (hl : l.Pairwise (· < ·)) {k : Fin n} :
    l.find? p = some k ↔ k ∈ l ∧ p k = true ∧ ∀ j ∈ l, j < k → p j = false := by
  induction l with
  | nil => simp
  | cons x l ih =>
    obtain ⟨hx, hl⟩ := List.pairwise_cons.1 hl
    rw [List.find?_cons]
    cases hp : p x with
    | true =>
      simp only [Option.some.injEq]
      constructor
      · rintro rfl
        refine ⟨List.mem_cons_self, hp, fun j hj hlt => ?_⟩
        rcases List.mem_cons.1 hj with rfl | hj
        · exact absurd hlt (lt_irrefl _)
        · exact absurd (hx j hj) (lt_asymm hlt)
      · rintro ⟨hk, -, hleast⟩
        rcases List.mem_cons.1 hk with rfl | hk
        · rfl
        · rw [hleast x List.mem_cons_self (hx k hk)] at hp
          cases hp
    | false =>
      simp only [ih hl]
      constructor
      · rintro ⟨hk, hpk, hleast⟩
        refine ⟨List.mem_cons_of_mem _ hk, hpk, fun j hj hlt => ?_⟩
        rcases List.mem_cons.1 hj with rfl | hj
        · exact hp
        · exact hleast j hj hlt
      · rintro ⟨hk, hpk, hleast⟩
        rcases List.mem_cons.1 hk with rfl | hk
        · rw [hp] at hpk
          cases hpk
        · exact ⟨hk, hpk, fun j hj => hleast j (List.mem_cons_of_mem _ hj)⟩

theorem mem_trackingEyes (k : Fin 10) : k ∈ trackingEyes ↔ 4 ≤ k.val := by
  revert k
  decide

theorem nextEyeAbove_eq_some_iff {eyes : Vector Eye 10} {e : Nat} {k : Fin 10} : nextEyeAbove eyes e = some k.val ↔
    4 ≤ k.val ∧ e < k.val ∧ eyes[k].enabled = true ∧ eyes[k].reliable = true ∧
    ∀ j : Fin 10, 4 ≤ j.val → e < j.val → j < k → eyes[j].enabled = false ∨ eyes[j].reliable = false := by
  have hval : nextEyeAbove eyes e = some k.val ↔
      (trackingEyes.find? fun k => decide (e < k.val) && eyes[k].enabled && eyes[k].reliable) = some k := by
    unfold nextEyeAbove
    rw [Option.map_eq_some_iff]
    refine ⟨?_, fun h => ⟨k, h, rfl⟩⟩
    rintro ⟨j, hj, hval⟩
    rwa [← Fin.ext hval]
  rw [hval, find?_increasing_iff (by decide)]
  simp only [mem_trackingEyes, Bool.and_eq_true, decide_eq_true_eq, Bool.and_eq_false_iff, decide_eq_false_iff_not]
  refine and_congr_right fun _ => ?_
  constructor
  · rintro ⟨⟨⟨hlt, henabled⟩, hreliable⟩, hleast⟩
    refine ⟨hlt, henabled, hreliable, fun j hj he hjk => ?_⟩
    rcases hleast j hj hjk with (hno | hno) | hno
    · exact absurd he hno
    · exact .inl hno
    · exact .inr hno
  · rintro ⟨hlt, henabled, hreliable, hleast⟩
    refine ⟨⟨⟨hlt, henabled⟩, hreliable⟩, fun j hj hjk => ?_⟩
    by_cases he : e < j.val
    · exact (hleast j hj he hjk).elim (fun h => .inl (.inr h)) .inr
    · exact .inl (.inl he)

/-! ## The eye-missed test (R31) -/

theorem markUnreliable_eq (eyes : Vector Eye 10) (e : Fin 10) :
    markUnreliable eyes e.val = eyes.set e { eyes[e] with reliable := false } := by
  refine Vector.ext fun i hi => ?_
  simp only [markUnreliable, Vector.getElem_map, Vector.getElem_zipIdx, Nat.zero_add, Vector.getElem_set]
  by_cases h : i = e.val
  · subst h
    simp
  · rw [if_neg h, if_neg (Ne.symm h)]

theorem missTest_of_passed {tag n e : Nat} (h : s.passedEye tag = some e) :
    s.missTest tag (n + 1) = (s.missEye e tag).missTest tag n := by
  rw [State.missTest]
  simp only [h]

theorem missTest_of_none {tag n : Nat} (h : s.passedEye tag = none) : s.missTest tag n = s := by
  cases n with
  | zero => rfl
  | succ n =>
    rw [State.missTest]
    simp only [h]

theorem passedEye_of_next {c : Car} {e : Fin 10} (hc : carByTag s.cars c.tag = some c) (he : c.nextEye = some e.val) :
    s.passedEye c.tag =
      if s.eyes[e].position + s.track.driftHalt < (c.front s.belt.count).toNat then some e.val else none := by
  unfold State.passedEye
  rw [hc]
  dsimp only
  rw [he]
  dsimp only
  rw [eyePosition_val]

theorem missEye_queues (e tag : Nat) (room : s.noticeRoom 1) :
    Queues [.eyes, .cars] s (s.missEye e tag) [] [.eyeMissed e tag] :=
  ((Queues.of_touches (touches_onEyes s fun eyes => markUnreliable eyes e)).andThen (Queues.notify _ (.eyeMissed e tag) room)
    (hs := [.eyes])).touch (touches_onCars _ _)

theorem missEye_eyes (s : State) (e : Fin 10) (tag : Nat) :
    (s.missEye e.val tag).eyes = s.eyes.set e { s.eyes[e] with reliable := false } := markUnreliable_eq s.eyes e

theorem missEye_cars (s : State) (e tag : Nat) :
    (s.missEye e tag).cars = s.cars.map fun k =>
      if k.nextEye = some e then { k with nextEye := nextEyeAbove (s.missEye e tag).eyes e } else k := rfl

end Sys2Proof.Machine
end

section
/-! A tracking eye's matched edge (R29) with its crowd checks: O14. -/

set_option Elab.async false

namespace Sys2Proof.Machine

variable {s t u v : State}

/-- The record after a matched edge of eye e, whose position is p (R29). -/
def State.matched (s : State) (e : Nat) (p : Nat) (k : Car) : Car :=
  { k.reAnchor s.belt.count p with nextEye := nextEyeAbove s.eyes e }

/-- DRIFT is sent beyond the drift adjust tolerance (R29). -/
def State.driftNotices (s : State) (e : Nat) (p : Nat) (c : Car) : List Notice :=
  if s.track.driftAdjust < (distance p (c.front s.belt.count).toNat).natAbs then
    [.drift c.tag e (distance p (c.front s.belt.count).toNat)] else []

/-- The state after a matched edge, before the crowd checks (R29). -/
def State.anchored (s : State) (e : Nat) (c : Car) : State :=
  let p := eyePosition s.eyes e
  let d := distance p (c.front s.belt.count).toNat
  let s1 := s.onCar c.tag fun k => { k.reAnchor s.belt.count p with nextEye := nextEyeAbove s.eyes e }
  if s.track.driftAdjust < d.natAbs then s1.notify (.drift c.tag e d) else s1

theorem matchEye_eq (s : State) (e : Nat) (c : Car) : s.matchEye e c = ((s.anchored e c).crowdAhead c.tag).crowdBehind c.tag := rfl

theorem driftNotices_length (s : State) (e p : Nat) (c : Car) : (s.driftNotices e p c).length ≤ 1 := by
  unfold State.driftNotices
  split <;> simp

theorem anchored_cars (s : State) (e : Nat) (c : Car) :
    (s.anchored e c).cars = s.cars.map fun k => if k.tag = c.tag then s.matched e (eyePosition s.eyes e) k else k := by
  unfold State.anchored
  dsimp only
  split <;> rfl

theorem anchored_halt (s : State) (e : Nat) (c : Car) : (s.anchored e c).halt = s.halt := by
  unfold State.anchored
  dsimp only
  split <;> rfl

theorem anchored_queues (e : Nat) (c : Car) (room : s.noticeRoom 1) :
    Queues [.cars] s (s.anchored e c) [] (s.driftNotices e (eyePosition s.eyes e) c) := by
  unfold State.anchored State.driftNotices
  dsimp only
  split
  · exact (Queues.of_touches (onCar_touches s _ _)).andThen (Queues.notify _ _ room)
  · exact .of_touches (onCar_touches s _ _)

theorem anchored_strike (s : State) (e : Nat) (c : Car) : (s.anchored e c).cars.map Car.strike = s.cars.map Car.strike := by
  rw [anchored_cars, List.map_map]
  refine List.map_congr_left fun k _ => ?_
  show Car.strike (if k.tag = c.tag then s.matched e (eyePosition s.eyes e) k else k) = k.strike
  split <;> rfl

/-- An on edge of a tracking eye that finds its car within the drift halt tolerance (R29). -/
theorem deliverEdge_matched {e : Fin 10} {c : Car} (htracking : 4 ≤ e.val) (hreliable : s.eyes[e].reliable = true)
    (hc : s.cars.find? (fun k => k.nextEye == some e.val) = some c)
    (hnear : (distance (c.front s.belt.count).toNat s.eyes[e].position).natAbs ≤ s.track.driftHalt) :
    (s.withEye e true).deliverEdge e true = (s.withEye e true).matchEye e.val c := by
  rw [deliverEdge_trackingOn htracking hreliable]
  unfold State.trackingOn
  rw [withEye_cars, hc]
  dsimp only
  rw [eyePosition_withEye]
  exact if_pos hnear

/-- What the new reading of the eye leaves as it was, after a matched edge of it. -/
theorem matched_withEye (s : State) (e : Fin 10) (k : Car) :
    (s.withEye e true).matched e.val (eyePosition (s.withEye e true).eyes e.val) k =
      { k with
        stamp := s.belt.count - BitVec.ofNat 32 s.eyes[e].position
        tentative := k.tentative.map fun x => x + (s.belt.count - BitVec.ofNat 32 s.eyes[e].position - k.stamp)
        nextEye := nextEyeAbove s.eyes e.val } := by
  unfold State.matched Car.reAnchor
  rw [eyePosition_withEye, nextEyeAbove_withEye]
  rfl

/-! ## The two crowd checks after a matched edge -/

/-- After the first halt of the two checks, the second still looks at the same records. -/
theorem crowdBehind_after_raise_free {c : Car} {k : CauseKind} {tag tag2 station eye : Option Nat}
    (hc : carByTag s.cars c.tag = some c)
    (hfree : ∀ b, carBehind c.tag s.cars = some b → ¬ s.crowds c b) :
    (s.raise k tag tag2 station eye).crowdBehind c.tag = s.raise k tag tag2 station eye := by
  have hcore : CoreSame s (s.raise k tag tag2 station eye) := raise_core k tag tag2 station eye
  have htouches := raise_touches s k tag tag2 station eye
  refine crowdBehind_free fun d b hd hb hcrowds => ?_
  obtain ⟨c', hc', hccore⟩ := hcore.symm.carByTag hd
  obtain ⟨b', hb', hbcore⟩ := hcore.symm.carBehind hb
  rw [hc] at hc'
  cases hc'
  exact hfree b' hb' ((crowds_congr htouches.belt htouches.track hccore.symm hbcore.symm).1 hcrowds)

theorem crowdBehind_after_raise_crowds {c b : Car} {k : CauseKind} {tag tag2 station eye : Option Nat}
    (hc : carByTag s.cars c.tag = some c) (hb : carBehind c.tag s.cars = some b) (hcrowds : s.crowds c b) :
    (s.raise k tag tag2 station eye).crowdBehind c.tag =
      (s.raise k tag tag2 station eye).raise .crowding (some b.tag) (some c.tag) none none := by
  have hcore : CoreSame s (s.raise k tag tag2 station eye) := raise_core k tag tag2 station eye
  have htouches := raise_touches s k tag tag2 station eye
  obtain ⟨c', hc', hccore⟩ := hcore.carByTag hc
  obtain ⟨b', hb', hbcore⟩ := hcore.carBehind hb
  rw [crowdBehind_crowds hc' hb' ((crowds_congr htouches.belt htouches.track hccore hbcore).2 hcrowds), core_tag hccore,
    core_tag hbcore]

/-- The cars STRUCK by two causes in a row. -/
theorem Strikes.twice {c d : Cause} (h : Strikes s t c) (k : Strikes t u d) :
    u.cars.map (fun x => x.flags.struck) = s.cars.map fun x =>
      ((x.flags.struck || c.tag == some x.tag || c.tag2 == some x.tag) || d.tag == some x.tag || d.tag2 == some x.tag) := by
  have hstruck (l : List Car) : l.map (fun x => x.flags.struck) = (l.map fun x => (x.tag, x.flags.struck)).map Prod.snd := by
    rw [List.map_map]
    rfl
  have hmarked (l : List Car) : (l.map fun x => (x.tag, x.flags.struck || d.tag == some x.tag || d.tag2 == some x.tag)) =
      (l.map fun x => (x.tag, x.flags.struck)).map fun x => (x.1, x.2 || d.tag == some x.1 || d.tag2 == some x.1) := by
    rw [List.map_map]
    rfl
  unfold Strikes at h k
  rw [hstruck, k, hmarked, h, List.map_map, List.map_map]
  rfl

/-- Settles O14. -/
theorem trackingEyeReanchors : Obligations.TrackingEyeReanchors := by
  refine ⟨fun s h payload e c he htracking hreliable hc hnear => ?_, fun eyes e k => nextEyeAbove_eq_some_iff,
    fun s c n hc => ⟨fun hnone => ?_, fun e hnext => ⟨fun hnear => ?_, fun hpast hroom => ?_⟩⟩⟩
  · -- the edge
    generalize hu : (s.withEye e true).anchored e.val c = u
    have hdelivered : (s.withEye e true).deliverEdge e true = (u.crowdAhead c.tag).crowdBehind c.tag := by
      rw [deliverEdge_matched htracking hreliable hc hnear, matchEye_eq, hu]
    have hcars : u.cars = s.cars.map fun k => if k.tag = c.tag then
        { k with
          stamp := s.belt.count - BitVec.ofNat 32 s.eyes[e].position
          tentative := k.tentative.map fun x => x + (s.belt.count - BitVec.ofNat 32 s.eyes[e].position - k.stamp)
          nextEye := nextEyeAbove s.eyes e.val } else k := by
      rw [← hu, anchored_cars]
      simp only [matched_withEye]
      rfl
    have hqueued (room : s.noticeRoom 1) : Queues [.eyes, .cars] s u [] (s.driftNotices e.val s.eyes[e].position c) := by
      have hanchored := (anchored_queues (s := s.withEye e true) e.val c room).after (withEye_touches s e true)
        (hs := [.eyes, .cars])
      rw [eyePosition_withEye, hu] at hanchored
      exact hanchored
    have hhalt : u.halt = s.halt := by
      rw [← hu]
      exact anchored_halt _ _ _
    have hstrike : u.cars.map Car.strike = s.cars.map Car.strike := by
      rw [← hu]
      exact anchored_strike _ _ _
    obtain ⟨t, hexec, hsame⟩ : ∃ t, exec (.eye h payload) s = .next t ∧ SameButOffice ((u.crowdAhead c.tag).crowdBehind c.tag) t ∧
        t = ((u.crowdAhead c.tag).crowdBehind c.tag).officeKick := by
      rw [exec_edge he, hdelivered]
      exact ⟨_, rfl, .kick _, rfl⟩
    obtain ⟨hsame, hkick⟩ := hsame
    have hkicked {fs : List Field} {ns : List Notice} (q : Queues fs s ((u.crowdAhead c.tag).crowdBehind c.tag) [] ns) :
        Sends fs s t [] ns := by
      rw [hkick]
      exact q.kick
    refine ⟨t, hexec, ?_, fun hone hroom => ?_, fun k cs told hk hcs htold hlist hroom => ?_⟩
    · rw [hsame.cars, show _ = _ from (crowdAhead_core u c.tag).trans (crowdBehind_core _ c.tag), hcars, List.map_map]
      rfl
    · -- a single car has no neighbour
      obtain ⟨x, hx⟩ : ∃ x, u.cars = [x] := by
        rw [hcars, hone]
        exact ⟨_, rfl⟩
      have hahead : u.crowdAhead c.tag = u := crowdAhead_free fun d a _ ha => by rw [hx] at ha; cases ha
      have hbehind : u.crowdBehind c.tag = u := crowdBehind_free fun d b _ hb => by rw [hx] at hb; cases hb
      refine hkicked ?_
      rw [hahead, hbehind]
      exact hqueued hroom
    · -- the neighbours of the re-anchored car
      have hmem : c ∈ s.cars := List.mem_of_find?_eq_some hc
      have hucars : u.cars = cs := by
        rw [hcars, hcs]
        refine List.map_congr_left fun x hx => ?_
        by_cases htag : x.tag = c.tag
        · rw [hlist.tagsDiffer.eq_of_tag hx hmem htag, if_pos rfl, if_pos rfl, hk]
        · rw [if_neg htag, if_neg htag]
      have hktag : k.tag = c.tag := by rw [hk]
      have hkmem : k ∈ u.cars := by
        rw [hucars, hcs]
        exact List.mem_map.2 ⟨c, hmem, if_pos rfl⟩
      have hdiffer : TagsDiffer u.cars := by
        rw [hcars]
        exact hlist.tagsDiffer.map fun x => by split <;> rfl
      have hby : carByTag u.cars k.tag = some k := carByTag_of_mem hdiffer hkmem
      have hahead (a : Car) : carAhead k.tag u.cars = some a ↔ Behind cs a k := by
        rw [carAhead_of_mem hdiffer hkmem, hucars]
      have hbehind (b : Car) : carBehind k.tag u.cars = some b ↔ Behind cs k b := by
        rw [carBehind_of_mem hdiffer hkmem, hucars]
      have hqueues := hqueued (by unfold State.noticeRoom at hroom ⊢; omega)
      have htouches : Touches [.office, .eyes, .cars] s u := hqueues.1
      have hcrowds (a b : Car) : u.crowds a b ↔ s.crowds a b := crowds_congr htouches.belt htouches.track rfl rfl
      have htold' : s.driftNotices e.val s.eyes[e].position c = told := htold.symm
      have hshort : told.length ≤ 1 := htold' ▸ driftNotices_length s _ _ _
      have hroomTold : s.noticeRoom (told.length + 1) := by unfold State.noticeRoom at hroom ⊢; omega
      rw [htold'] at hqueues
      have hcause (tag tag2 : Option Nat) : u.causeNow .crowding tag tag2 none none = s.causeNow .crowding tag tag2 none none :=
        causeNow_congr htouches.belt htouches.uptime _ _ _ _ _
      rw [← hktag] at hsame hkicked hkick ⊢
      -- a single crowding
      have hraised (tag tag2 : Option Nat) (heq : (u.crowdAhead k.tag).crowdBehind k.tag = u.raise .crowding tag tag2 none none) :
          Raises s t (s.causeNow .crowding tag tag2 none none) ∧ Strikes s t (s.causeNow .crowding tag tag2 none none) ∧
          Sends [.eyes, .cars, .pacer, .seq, .gate, .ring, .halt] s t []
            (told ++ s.causeNotices (s.causeNow .crowding tag tag2 none none)) := by
        obtain ⟨hraises, hstrikes⟩ := raise_after .crowding tag tag2 none none (by decide) hhalt hstrike
        have hsent := hqueues.raise .crowding tag tag2 none none (by decide) hroomTold hhalt
          (hs := [.eyes, .cars, .pacer, .seq, .gate, .ring, .halt])
        rw [hcause] at hraises hstrikes hsent
        rw [heq] at hsame hkicked
        exact ⟨hraises.kick hsame, hstrikes.of_cars hsame.cars, hkicked hsent⟩
      have haheadFree (hfree : ∀ a, Behind cs a k → ¬s.crowds a k) : u.crowdAhead k.tag = u :=
        crowdAhead_free fun d a hd ha => by
          rw [hby] at hd
          cases hd
          rw [hcrowds]
          exact hfree a ((hahead a).1 ha)
      have hbehindFree (hfree : ∀ b, Behind cs k b → ¬s.crowds k b) (b : Car) (hb : carBehind k.tag u.cars = some b) :
          ¬u.crowds k b := by
        rw [hcrowds]
        exact hfree b ((hbehind b).1 hb)
      have haheadCrowds (a : Car) (ha : Behind cs a k) (hac : s.crowds a k) :
          u.crowdAhead k.tag = u.raise .crowding (some k.tag) (some a.tag) none none :=
        crowdAhead_crowds hby ((hahead a).2 ha) ((hcrowds a k).2 hac)
      refine ⟨fun hnoAhead hnoBehind => ?_, fun a cause ha hac hnoBehind hcauseEq => ?_,
        fun b cause hb hbc hnoAhead hcauseEq => ?_, fun a b ha hac hb hbc => ?_⟩
      · have hnone : (u.crowdAhead k.tag).crowdBehind k.tag = u := by
          rw [haheadFree hnoAhead]
          exact crowdBehind_free fun d b hd hb => by
            rw [hby] at hd
            cases hd
            exact hbehindFree hnoBehind b hb
        rw [hnone] at hsame hkicked
        exact ⟨hsame.cars.trans hucars, hkicked hqueues⟩
      · rw [hcauseEq]
        refine hraised (some k.tag) (some a.tag) ?_
        rw [haheadCrowds a ha hac]
        exact crowdBehind_after_raise_free hby (hbehindFree hnoBehind)
      · rw [hcauseEq]
        refine hraised (some b.tag) (some k.tag) ?_
        rw [haheadFree hnoAhead]
        exact crowdBehind_crowds hby ((hbehind b).2 hb) ((hcrowds k b).2 hbc)
      · obtain ⟨hraisesAhead, hstrikesAhead⟩ :=
          raise_after .crowding (some k.tag) (some a.tag) none none (by decide) hhalt hstrike
        have hfirst := raise_touches u .crowding (some k.tag) (some a.tag) none none
        obtain ⟨hraisesBehind, hstrikesBehind⟩ := raise_after (u := u.raise .crowding (some k.tag) (some a.tag) none none)
          .crowding (some b.tag) (some k.tag) none none (by decide) rfl rfl
        rw [haheadCrowds a ha hac, crowdBehind_after_raise_crowds hby ((hbehind b).2 hb) ((hcrowds k b).2 hbc)] at hsame
        rw [causeNow_congr hfirst.belt hfirst.uptime, hcause] at hraisesBehind hstrikesBehind
        rw [hcause] at hraisesAhead hstrikesAhead
        refine ⟨_, hraisesAhead, hraisesBehind.kick hsame, ?_⟩
        rw [hsame.cars, hstrikesAhead.twice hstrikesBehind]
        refine List.map_congr_left fun x _ => ?_
        have hflip (y : Nat) : (some y == some x.tag) = (x.tag == y) := by
          rw [Option.some_beq_some, Bool.beq_comm]
        simp only [State.causeNow, hflip]
        cases x.flags.struck <;> cases (x.tag == a.tag) <;> cases (x.tag == b.tag) <;> cases (x.tag == k.tag) <;> rfl
  · refine missTest_of_none ?_
    unfold State.passedEye
    rw [hc]
    dsimp only
    rw [hnone]
  · refine missTest_of_none ?_
    rw [passedEye_of_next hc hnext, if_neg (Nat.not_lt.2 hnear)]
  · have hpassed : s.passedEye c.tag = some e.val := by rw [passedEye_of_next hc hnext, if_pos hpast]
    exact ⟨s.missEye e.val c.tag, missEye_eyes s e c.tag, missEye_cars s e.val c.tag, (missEye_queues e.val c.tag hroom).sends,
      missTest_of_passed hpassed⟩

end Sys2Proof.Machine
end

section
/-! What a station's request, release and on trigger make of the state, each as one equation (R98 to R102), and that an order
takes a free number (R95). -/

set_option Elab.async false

namespace Sys2Proof.Machine

variable {s t u : State} {i j : StationId}

/-! ## Free order numbers (R95) -/

/-- A number chosen from a sequence with few numbers held is free, wherever the choice starts. -/
theorem firstFree_free_of_short {held : Nat → Bool} {top : Nat} {l : List Nat} (hl : ∀ n, held n = true → n ∈ l)
    (hshort : l.length + 1 < top) (n : Nat) : held (firstFree held top top n) = false := by
  cases hheld : held (firstFree held top top n) with
  | false => rfl
  | true =>
    exfalso
    obtain ⟨hlow, hhigh⟩ := nextInSequence_range (top := top) (by omega) n
    have hsub : ((List.range (top - 1)).map fun k => stepped top k (nextInSequence top n)) ⊆ l := by
      intro x hx
      obtain ⟨k, hk, rfl⟩ := List.mem_map.1 hx
      have hk := List.mem_range.1 hk
      exact hl _ (held_of_firstFree (i := k + 1) top hheld (by omega))
    have hnodup : ((List.range (top - 1)).map fun k => stepped top k (nextInSequence top n)).Nodup := by
      refine List.Nodup.map_on (fun a ha b hb hab => ?_) List.nodup_range
      have ha := List.mem_range.1 ha
      have hb := List.mem_range.1 hb
      rw [stepped_eq a hlow hhigh (by omega), stepped_eq b hlow hhigh (by omega)] at hab
      split at hab <;> split at hab <;> omega
    have hlength := (hnodup.subperm hsub).length_le
    rw [List.length_map, List.length_range] at hlength
    omega

/-- The order numbers held by the stations, the gate and the pacer. -/
def State.orderNumbers (s : State) : List Nat :=
  (stationIds.filterMap fun i => s.seq.stations[i].current.bind fun o => o.number) ++
  (s.gate.call.map fun r => r.number).toList ++ (s.pacer.start.map fun r => r.number).toList

theorem mem_orderNumbers_of_held {n : Nat} (h : s.orderNumberHeld n = true) : n ∈ s.orderNumbers := by
  simp only [State.orderNumberHeld, Bool.or_eq_true, List.any_eq_true, beq_iff_eq] at h
  simp only [State.orderNumbers, List.mem_append, List.mem_filterMap, Option.mem_toList]
  exact h

theorem orderNumbers_length (s : State) : s.orderNumbers.length ≤ 34 := by
  have hstations := List.length_filterMap_le (fun i : StationId => s.seq.stations[i].current.bind fun o => o.number) stationIds
  have hids : stationIds.length = 32 := List.length_finRange
  have htoList (o : Option Nat) : o.toList.length ≤ 1 := by cases o <;> simp
  have hcall := htoList (s.gate.call.map fun r => r.number)
  have hstart := htoList (s.pacer.start.map fun r => r.number)
  simp only [State.orderNumbers, List.length_append]
  omega

/-- The number of a new order is held by no other (R95). -/
theorem freeOrderNumber_free (s : State) : s.orderNumberHeld s.freeOrderNumber = false :=
  firstFree_free_of_short (fun _ => mem_orderNumbers_of_held) (by have := orderNumbers_length s; omega) _

/-! ## One station's record -/

/-- The state with another record of a station. -/
def State.stationed (s : State) (i : StationId) (st : Station) : State := s.onStation i fun _ => st

theorem onStation_eq_stationed (s : State) (i : StationId) (f : Station → Station) :
    s.onStation i f = s.stationed i (f s.seq.stations[i]) := rfl

@[simp] theorem stationed_self (s : State) (i : StationId) (st : Station) : (s.stationed i st).seq.stations[i] = st :=
  onStation_self i _

theorem stationed_other (h : j ≠ i) (st : Station) : (s.stationed i st).seq.stations[j] = s.seq.stations[j] := onStation_other h _

theorem stationed_stationed (s : State) (i : StationId) (a b : Station) : (s.stationed i a).stationed i b = s.stationed i b :=
  onStation_onStation i _ _

theorem stationed_onStation (s : State) (i : StationId) (st : Station) (f : Station → Station) :
    (s.stationed i st).onStation i f = s.stationed i (f st) := by
  rw [onStation_eq_stationed, stationed_self, stationed_stationed]

/-- A change of the phase that cannot settle the sequencer: the station is no arm, or it is sent to work (R112, R147). -/
theorem setStationPhase_eq {p : StationPhase} (h : s.map.table[i].kind ≠ .arm ∨ (p ≠ .idle ∧ p ≠ .fault)) :
    s.setStationPhase i p = s.onStation i fun st => { st with phase := p } := by
  unfold State.setStationPhase
  dsimp only
  split
  next harm =>
    obtain ⟨hidle, hfault⟩ := h.resolve_left (not_not.2 harm.1)
    have hunsettled : (s.onStation i fun st => { st with phase := p }).settled = false := by
      unfold State.settled
      rw [List.all_eq_false]
      refine ⟨i, mem_stationIds i, ?_⟩
      rw [onStation_self]
      have hkind : (s.onStation i fun st => { st with phase := p }).map.table[i].kind = .arm := harm.1
      rw [hkind]
      simp [hidle, hfault]
    rw [haltingCheck_eq, if_neg]
    rintro ⟨-, hsettled, -⟩
    rw [hunsettled] at hsettled
    cases hsettled
  next => rfl

/-! ## Requests (R102) -/

/-- The order that a request issues to a station with none in flight (R102). -/
def State.newOrder (s : State) (i : StationId) (action : Action) (car : Option Nat) : StationOrder :=
  { action := action, number := some s.freeOrderNumber, car := car, wait := s.map.table[i].kind.firstWait }

/-- The state after an order has been issued to a station whose record is st otherwise: the number is taken, and the frame
joins the ORDER queue (R102). -/
def State.ordered (s : State) (i : StationId) (action : Action) (car : Option Nat) (st : Station) : State :=
  (s.takeOrderNumber.stationed i { st with current := some (s.newOrder i action car) }).pushOrder
    s.map.aliases[i] s.freeOrderNumber action i.val

theorem orderNumberHeld_congr (hcurrent : ∀ j : StationId, t.seq.stations[j].current = s.seq.stations[j].current)
    (hgate : t.gate = s.gate) (hpacer : t.pacer = s.pacer) : t.orderNumberHeld = s.orderNumberHeld := by
  funext n
  unfold State.orderNumberHeld
  simp only [hcurrent, hgate, hpacer]

theorem stationed_current {st : Station} (h : st.current = s.seq.stations[i].current) (j : StationId) :
    (s.stationed i st).seq.stations[j].current = s.seq.stations[j].current := by
  by_cases hj : j = i
  · subst hj
    rw [stationed_self, h]
  · rw [stationed_other hj]

theorem freeOrderNumber_stationed {st : Station} (h : st.current = s.seq.stations[i].current) :
    (s.stationed i st).freeOrderNumber = s.freeOrderNumber := by
  unfold State.freeOrderNumber
  rw [orderNumberHeld_congr (stationed_current h) rfl rfl]
  rfl

/-- A request that finds an order in flight stays pending (R102). -/
theorem requestOrder_busy {st : Station} (h : st.current.isSome = true) (action : Action) (car : Option Nat) :
    (s.stationed i st).requestOrder i action car = s.stationed i { st with queued := some action } := by
  unfold State.requestOrder
  rw [stationed_self, if_pos h, stationed_onStation]

/-- A request that finds none sends its frame (R102). -/
theorem requestOrder_free {st : Station} (h : st.current = none) (hs : s.seq.stations[i].current = none) (action : Action)
    (car : Option Nat) : (s.stationed i st).requestOrder i action car = s.ordered i action car st := by
  have hnumber := freeOrderNumber_stationed (s := s) (i := i) (st := st) (h.trans hs.symm)
  unfold State.requestOrder
  rw [stationed_self, if_neg (by rw [h]; simp)]
  unfold State.issueStationOrder State.ordered State.newOrder
  dsimp only
  rw [hnumber]
  have htaken : (s.stationed i st).takeOrderNumber = s.takeOrderNumber.stationed i st := by
    unfold State.takeOrderNumber
    rw [hnumber]
    rfl
  rw [htaken, stationed_onStation]
  rfl

/-- A change of the phase after the order has been issued. -/
theorem ordered_phase (s : State) (i : StationId) (action : Action) (car : Option Nat) (st : Station) (p : StationPhase) :
    ((s.ordered i action car st).onStation i fun st => { st with phase := p }) = s.ordered i action car { st with phase := p } := by
  have hinner : ((s.ordered i action car st).onStation i fun st => { st with phase := p }) =
      ((s.takeOrderNumber.stationed i { st with current := some (s.newOrder i action car) }).onStation i fun st =>
        { st with phase := p }).pushOrder s.map.aliases[i] s.freeOrderNumber action i.val := rfl
  rw [hinner, stationed_onStation]
  rfl

/-! ## Releases (R99, R108) -/

/-- The release of a station that serves a car: its OFF or OUT stays pending behind an order in flight, or is issued (R99, R102,
R108). -/
theorem releaseStation_eq {tag : Nat} (early : Bool) (hcar : s.seq.stations[i].car = some tag)
    (hidle : s.seq.stations[i].phase ≠ .idle) (hfault : s.seq.stations[i].phase ≠ .fault) :
    s.releaseStation i early =
      if s.seq.stations[i].current.isSome = true then
        (s.recordService tag i (s.seq.stations[i].phase == .engaged && !early)).stationed i { s.seq.stations[i] with
          car := none
          queued := some s.map.table[i].kind.offAction
          phase := if s.map.table[i].kind = .posted then .idle else .releasing }
      else
        (s.recordService tag i (s.seq.stations[i].phase == .engaged && !early)).ordered i s.map.table[i].kind.offAction (some tag)
          { s.seq.stations[i] with
            car := none
            phase := if s.map.table[i].kind = .posted then .idle else .releasing } := by
  generalize hr : s.recordService tag i (s.seq.stations[i].phase == .engaged && !early) = r
  have hrecorded : Touches [.cars] s r := by
    rw [← hr]
    exact recordService_touches s tag i _
  have hstation : r.seq.stations[i] = s.seq.stations[i] := by rw [hrecorded.seq]
  have hphase (u : State) (hu : u.map = s.map) :
      u.setStationPhase i (if s.map.table[i].kind = .posted then .idle else .releasing) =
        u.onStation i fun st => { st with phase := if s.map.table[i].kind = .posted then .idle else .releasing } := by
    refine setStationPhase_eq ?_
    rw [hu]
    by_cases hposted : s.map.table[i].kind = .posted
    · rw [hposted]
      exact .inl (by decide)
    · rw [if_neg hposted]
      exact .inr ⟨by decide, by decide⟩
  have hrelease : s.releaseStation i early =
      ((r.onStation i fun st => { st with car := none }).requestOrder i s.map.table[i].kind.offAction (some tag)).setStationPhase i
        (if s.map.table[i].kind = .posted then .idle else .releasing) := by
    unfold State.releaseStation
    rw [hcar]
    dsimp only
    split
    next h => exact absurd h hidle
    next h => exact absurd h hfault
    next => rw [hr]
  have hmap : (((r.onStation i fun st => { st with car := none }).requestOrder i s.map.table[i].kind.offAction
      (some tag))).map = s.map :=
    ((requestOrder_touches _ _ _ _).map.trans (onStation_touches r i _).map).trans hrecorded.map
  rw [hrelease, hphase _ hmap, onStation_eq_stationed r, hstation]
  by_cases hbusy : s.seq.stations[i].current.isSome = true
  · rw [if_pos hbusy, requestOrder_busy (st := { s.seq.stations[i] with car := none }) hbusy, stationed_onStation]
  · rw [if_neg hbusy]
    rw [Option.not_isSome_iff_eq_none] at hbusy
    rw [requestOrder_free (st := { s.seq.stations[i] with car := none }) hbusy (by rw [hstation]; exact hbusy), ordered_phase]

end Sys2Proof.Machine
end

section
/-! The release of every station that serves a car (R26, R27, R35, R108), and what it makes of the car's service sets. -/

set_option Elab.async false

namespace Sys2Proof.Machine

variable {s t u : State} {i j : StationId} {tag : Nat}

/-! ## Frames of the ORDER class on their way -/

/-- A frame of the ORDER class is being sent or waits. -/
def Ring.orders (r : Ring) (f : RingFrame) : Prop := f ∈ r.tx.toList ++ r.order

theorem Ring.orders_kick {r : Ring} {f : RingFrame} (h : r.orders f) : r.kick.orders f := by
  unfold Ring.kick
  split
  next hidle =>
    rw [Option.isNone_iff_eq_none] at hidle
    rw [Ring.orders, hidle] at h
    have hmem : f ∈ r.order := h
    unfold Ring.choose
    split
    next => rwa [Ring.orders, hidle]
    next c hc =>
      by_cases horder : c = .order
      · subst horder
        cases hqueue : r.order with
        | nil =>
          rw [hqueue] at hmem
          cases hmem
        | cons g gs =>
          rw [hqueue] at hmem
          simpa [Ring.orders, Ring.queueOf, hqueue] using hmem
      · simp [Ring.orders, horder, hmem]
  next => exact h

theorem Ring.orders_push {r : Ring} {f : RingFrame} (h : r.orders f) (g : RingFrame) : (r.push .order g).orders f := by
  refine Ring.orders_kick ?_
  unfold Ring.orders Ring.append at *
  rw [List.mem_append] at h ⊢
  exact h.imp_right fun hmem => List.mem_append_left _ hmem

theorem Ring.orders_pushed (r : Ring) (f : RingFrame) : (r.push .order f).orders f := by
  refine Ring.orders_kick ?_
  simp [Ring.orders, Ring.append]

/-! ## Stations released one by one -/

theorem offAction_eq (k : StationKind) : k.offAction = if k = .arm then .out else .off := by cases k <;> rfl

theorem onAction_eq (k : StationKind) : k.onAction = if k = .arm then .inn else .on := by cases k <;> rfl

theorem firstWait_eq (k : StationKind) : k.firstWait = if k = .posted then .ret else .ack := by cases k <;> rfl

theorem orderNumberHeld_iff {n : Nat} : s.orderNumberHeld n = true ↔
    (∃ i : StationId, ∃ o, s.seq.stations[i].current = some o ∧ o.number = some n) ∨
    (∃ r, s.gate.call = some r ∧ r.number = n) ∨ ∃ r, s.pacer.start = some r ∧ r.number = n := by
  simp only [State.orderNumberHeld, Bool.or_eq_true, List.any_eq_true, beq_iff_eq, Option.bind_eq_some_iff, Option.map_eq_some_iff,
    mem_stationIds, true_and, or_assoc]

/-- The stations of a set have been released from the car of a tag; the others are as they were, and no order number and no frame
of the ORDER class is given up. -/
structure Releases (s t : State) (tag : Nat) (b : StationId → Prop) : Prop where
  released : ∀ i, b i → Released s t i tag
  kept : ∀ i, ¬ b i → t.seq.stations[i] = s.seq.stations[i]
  held : ∀ n, s.orderNumberHeld n = true → t.orderNumberHeld n = true
  frames : ∀ f, s.ring.orders f → t.ring.orders f
  touches : Touches [.cars, .seq, .ring] s t

theorem Releases.none {b : StationId → Prop} (h : Touches [.cars] s t) (hb : ∀ i, ¬ b i) : Releases s t tag b where
  released i hi := absurd hi (hb i)
  kept i _ := by rw [h.seq]
  held n hn := by
    rw [orderNumberHeld_congr (fun j => by rw [h.seq]) h.gate h.pacer]
    exact hn
  frames f hf := by rwa [h.ring]
  touches := h.mono (by decide)

theorem Releases.mono {b b' : StationId → Prop} (h : Releases s t tag b) (hb : ∀ i, b i ↔ b' i) : Releases s t tag b' where
  released i hi := h.released i ((hb i).2 hi)
  kept i hi := h.kept i fun hi' => hi ((hb i).1 hi')
  held := h.held
  frames := h.frames
  touches := h.touches

theorem Releases.trans {b b' : StationId → Prop} (h : Releases s t tag b) (k : Releases t u tag b') (hdisjoint : ∀ i, b i → ¬ b' i) :
    Releases s u tag fun i => b i ∨ b' i where
  released i hi := by
    by_cases hfirst : b i
    · obtain ⟨hbusy, hfree⟩ := h.released i hfirst
      have hkept := k.kept i (hdisjoint i hfirst)
      refine ⟨fun hcurrent => hkept.trans (hbusy hcurrent), fun hcurrent => ?_⟩
      obtain ⟨number, hnumber, hstation, hframe⟩ := hfree hcurrent
      exact ⟨number, hnumber, hkept.trans hstation, k.frames _ hframe⟩
    · obtain ⟨hbusy, hfree⟩ := k.released i (hi.resolve_left hfirst)
      have hkept := h.kept i hfirst
      rw [hkept, h.touches.map] at hbusy hfree
      refine ⟨hbusy, fun hcurrent => ?_⟩
      obtain ⟨number, hnumber, hstation, hframe⟩ := hfree hcurrent
      refine ⟨number, ?_, hstation, hframe⟩
      cases hheld : s.orderNumberHeld number with
      | false => rfl
      | true => exact hnumber.symm.trans (h.held number hheld) |>.symm
  kept i hi := by
    rw [not_or] at hi
    exact (k.kept i hi.2).trans (h.kept i hi.1)
  held n hn := k.held n (h.held n hn)
  frames f hf := k.frames f (h.frames f hf)
  touches := h.touches.andThen k.touches

/-- A station that serves the car of a tag can be released from it: it is neither IDLE nor FAULT. -/
def State.serves (s : State) (i : StationId) (tag : Nat) : Prop :=
  s.seq.stations[i].car = some tag ∧ s.seq.stations[i].phase ≠ .idle ∧ s.seq.stations[i].phase ≠ .fault

theorem recordService_eq (s : State) (tag : Nat) (i : StationId) (served : Bool) :
    s.recordService tag i served = s.onCar tag fun c => if served then c.recordServed i else c.recordMissed i := by
  cases served <;> rfl

theorem freeOrderNumber_of_touches (h : Touches [.cars] s t) : t.freeOrderNumber = s.freeOrderNumber := by
  unfold State.freeOrderNumber
  rw [orderNumberHeld_congr (fun j => by rw [h.seq]) h.gate h.pacer, h.seq]

theorem newOrder_of_touches (h : Touches [.cars] s t) (i : StationId) (a : Action) (car : Option Nat) :
    t.newOrder i a car = s.newOrder i a car := by
  unfold State.newOrder
  rw [freeOrderNumber_of_touches h, h.map]

theorem stationed_held {st : Station} (h : st.current = s.seq.stations[i].current) (n : Nat) :
    (s.stationed i st).orderNumberHeld n = s.orderNumberHeld n := by
  rw [orderNumberHeld_congr (stationed_current h) rfl rfl]

theorem ordered_self (s : State) (i : StationId) (a : Action) (car : Option Nat) (st : Station) :
    (s.ordered i a car st).seq.stations[i] = { st with current := some (s.newOrder i a car) } :=
  stationed_self s.takeOrderNumber i _

theorem ordered_other (h : j ≠ i) (a : Action) (car : Option Nat) (st : Station) :
    (s.ordered i a car st).seq.stations[j] = s.seq.stations[j] := stationed_other (s := s.takeOrderNumber) h _

theorem ordered_held {a : Action} {car : Option Nat} {st : Station} (hfree : s.seq.stations[i].current = none) {n : Nat}
    (h : s.orderNumberHeld n = true) : (s.ordered i a car st).orderNumberHeld n = true := by
  rw [orderNumberHeld_iff] at h ⊢
  refine h.imp ?_ fun h => h
  rintro ⟨j, o, ho, hn⟩
  refine ⟨j, o, ?_, hn⟩
  have hj : j ≠ i := by
    rintro rfl
    rw [hfree] at ho
    cases ho
  rw [ordered_other hj]
  exact ho

/-- The release of one station that serves the car. -/
theorem releases_releaseStation (early : Bool) (h : s.serves i tag) :
    Releases s (s.releaseStation i early) tag fun j => j = i := by
  obtain ⟨hcar, hidle, hfault⟩ := h
  have heq := releaseStation_eq early hcar hidle hfault
  have hrecorded := recordService_touches s tag i (s.seq.stations[i].phase == .engaged && !early)
  generalize hr : s.recordService tag i (s.seq.stations[i].phase == .engaged && !early) = r at heq hrecorded
  have hstations : r.seq = s.seq := hrecorded.seq
  by_cases hbusy : s.seq.stations[i].current.isSome = true
  · rw [if_pos hbusy] at heq
    rw [heq]
    exact {
      released := by
        rintro j rfl
        refine ⟨fun _ => ?_, fun hnone => ?_⟩
        · rw [stationed_self, offAction_eq]
        · rw [hnone] at hbusy
          cases hbusy
      kept := fun j hj => by rw [stationed_other hj, hstations]
      held := fun n hn => by
        rw [stationed_held (by rw [hstations]), orderNumberHeld_congr (fun j => by rw [hstations]) hrecorded.gate hrecorded.pacer]
        exact hn
      frames := fun f hf => by
        rw [show (r.stationed i _).ring = s.ring from hrecorded.ring]
        exact hf
      touches := hrecorded.andThen (onStation_touches _ _ _) }
  · rw [if_neg hbusy] at heq
    rw [Option.not_isSome_iff_eq_none] at hbusy
    have hring (st : Station) : (r.ordered i s.map.table[i].kind.offAction (some tag) st).ring =
        s.ring.push .order (.order s.map.aliases[i] s.freeOrderNumber s.map.table[i].kind.offAction i.val) := by
      rw [← freeOrderNumber_of_touches hrecorded, ← hrecorded.ring, ← hrecorded.map]
      rfl
    rw [heq]
    exact {
      released := by
        rintro j rfl
        refine ⟨fun hsome => ?_, fun _ => ⟨s.freeOrderNumber, freeOrderNumber_free s, ?_, ?_⟩⟩
        · rw [hbusy] at hsome
          cases hsome
        · rw [ordered_self, newOrder_of_touches hrecorded, State.newOrder, offAction_eq, firstWait_eq]
        · rw [hring, offAction_eq]
          exact Ring.orders_pushed _ _
      kept := fun j hj => by rw [ordered_other hj, hstations]
      held := fun n hn => by
        refine ordered_held (by rw [hstations]; exact hbusy) ?_
        rw [orderNumberHeld_congr (fun j => by rw [hstations]) hrecorded.gate hrecorded.pacer]
        exact hn
      frames := fun f hf => by
        rw [hring]
        exact Ring.orders_push hf _
      touches := hrecorded.andThen (((takeOrderNumber_touches r).andThen (onStation_touches _ _ _) (hs := [.seq])).andThen
        (pushOrder_touches _ _ _ _ _) (hs := [.seq, .ring])) }

/-- A release takes nothing from a station that does not serve the car. -/
theorem releaseStation_of_not_serves (early : Bool) (hcar : s.seq.stations[i].car = some tag) (h : ¬ s.serves i tag) :
    s.releaseStation i early = s := by
  unfold State.releaseStation
  rw [hcar]
  dsimp only
  split
  next => rfl
  next => rfl
  next hidle hfault => exact absurd ⟨hcar, hidle, hfault⟩ h

/-- Operations taken station by station, each of which releases its own station or leaves it alone. -/
theorem foldl_releases {f : State → StationId → State} {b : State → StationId → Prop}
    (hstep : ∀ s i, Releases s (f s i) tag fun j => j = i ∧ b s i)
    (hkeep : ∀ s i j, j ≠ i → (b (f s i) j ↔ b s j)) (is : List StationId) (hnodup : is.Nodup) (s : State) :
    Releases s (is.foldl f s) tag fun j => j ∈ is ∧ b s j := by
  induction is generalizing s with
  | nil => exact .none (Touches.refl _ s) fun _ h => nomatch h.1
  | cons i is ih =>
    obtain ⟨hi, his⟩ := List.nodup_cons.1 hnodup
    refine ((hstep s i).trans (ih his (f s i)) ?_).mono fun j => ?_
    · rintro j ⟨rfl, -⟩ ⟨hj, -⟩
      exact hi hj
    · by_cases hj : j = i
      · subst hj
        simp [hi]
      · simp [hj, hkeep s i j hj]

theorem serves_congr (hstation : t.seq.stations[i] = s.seq.stations[i]) : t.serves i tag ↔ s.serves i tag := by
  unfold State.serves
  rw [hstation]

/-- Every station that serves the car is released (R26, R35, R108). -/
theorem releaseCar_releases (s : State) (tag : Nat) (early : Bool) :
    Releases s (s.releaseCar tag early) tag fun i => s.serves i tag := by
  have hstep (s : State) (i : StationId) : Releases s (if s.seq.stations[i].car = some tag then s.releaseStation i early else s)
      tag fun j => j = i ∧ s.serves i tag := by
    by_cases hserves : s.serves i tag
    · rw [if_pos hserves.1]
      exact (releases_releaseStation early hserves).mono fun j => by simp [hserves]
    · have hnone : (if s.seq.stations[i].car = some tag then s.releaseStation i early else s) = s := by
        split
        next hcar => exact releaseStation_of_not_serves early hcar hserves
        next => rfl
      rw [hnone]
      exact .none (Touches.refl _ s) fun j hj => hserves hj.2
  exact (foldl_releases hstep (fun s i j hj => serves_congr ((hstep s i).kept j fun h => hj h.1)) stationIds nodup_stationIds s).mono
    fun j => by simp [mem_stationIds]

/-- Every ARM station that serves the car is released (R27, R109). -/
theorem settleOversize_releases (s : State) (tag : Nat) :
    Releases s (s.settleOversize tag) tag fun i => s.map.table[i].kind = .arm ∧ s.serves i tag := by
  have hstep (s : State) (i : StationId) : Releases s
      (if s.map.table[i].kind = .arm then
        if s.seq.stations[i].car = some tag then s.releaseStation i true else s.recordMissed tag i else s)
      tag fun j => j = i ∧ s.map.table[i].kind = .arm ∧ s.serves i tag := by
    by_cases harm : s.map.table[i].kind = .arm
    · rw [if_pos harm]
      by_cases hserves : s.serves i tag
      · rw [if_pos hserves.1]
        exact (releases_releaseStation true hserves).mono fun j => (and_iff_left ⟨harm, hserves⟩).symm
      · split
        next hcar =>
          rw [releaseStation_of_not_serves true hcar hserves]
          exact .none (Touches.refl _ s) fun j hj => hserves hj.2.2
        next => exact .none (recordMissed_touches s tag i) fun j hj => hserves hj.2.2
    · rw [if_neg harm]
      exact .none (Touches.refl _ s) fun j hj => harm hj.2.1
  refine (foldl_releases (b := fun s i => s.map.table[i].kind = .arm ∧ s.serves i tag) hstep (fun s i j hj => ?_) stationIds
    nodup_stationIds s).mono fun j => by simp [mem_stationIds]
  rw [(hstep s i).touches.map, serves_congr ((hstep s i).kept j fun h => hj h.1)]

/-! ## The service sets (R96) -/

/-- The car with some of its unsettled services counted as served, and some others as missed. -/
def Car.marked (x : Car) (p q : StationId → Bool) : Car :=
  { x with
    served := x.served ||| BitVec.ofFnLE fun i : Fin 32 => p i && x.unsettled i
    missed := x.missed ||| BitVec.ofFnLE fun i : Fin 32 => q i && !p i && x.unsettled i }

theorem Car.marked_served (x : Car) (p q : StationId → Bool) (i : StationId) :
    (x.marked p q).served.getLsbD i.val = (x.served.getLsbD i.val || (p i && x.unsettled i)) := by
  simp only [Car.marked, BitVec.getLsbD_or, getLsbD_ofFnLE_val]

theorem Car.marked_missed (x : Car) (p q : StationId → Bool) (i : StationId) :
    (x.marked p q).missed.getLsbD i.val = (x.missed.getLsbD i.val || (q i && !p i && x.unsettled i)) := by
  simp only [Car.marked, BitVec.getLsbD_or, getLsbD_ofFnLE_val]

/-- Two records that differ in their service sets alone are equal when these are. -/
theorem Car.ext_sets {x y : Car} (hrest : { x with served := 0, missed := 0 } = ({ y with served := 0, missed := 0 } : Car))
    (hserved : ∀ i : StationId, x.served.getLsbD i.val = y.served.getLsbD i.val)
    (hmissed : ∀ i : StationId, x.missed.getLsbD i.val = y.missed.getLsbD i.val) : x = y := by
  obtain ⟨xtag, xstamp, xlength, xtentative, xphase, xflags, xplan, xsale, xactivity, xserved, xmissed, xeye⟩ := x
  obtain ⟨ytag, ystamp, ylength, ytentative, yphase, yflags, yplan, ysale, yactivity, yserved, ymissed, yeye⟩ := y
  have hs : xserved = yserved := stationSet_ext hserved
  have hm : xmissed = ymissed := stationSet_ext hmissed
  simp only [Car.mk.injEq] at hrest ⊢
  tauto

theorem Car.marked_unsettled (x : Car) (p q : StationId → Bool) (i : StationId) :
    (x.marked p q).unsettled i = (x.unsettled i && !p i && !q i) := by
  have hactivity : (x.marked p q).activity = x.activity := rfl
  rw [Car.unsettled, hasStation, hasStation, hasStation, Car.marked_served, Car.marked_missed, hactivity, Car.unsettled,
    hasStation, hasStation, hasStation]
  cases p i <;> cases q i <;> cases x.activity.getLsbD i.val <;> cases x.served.getLsbD i.val <;>
    cases x.missed.getLsbD i.val <;> rfl

theorem Car.marked_none (x : Car) : (x.marked (fun _ => false) fun _ => false) = x :=
  Car.ext_sets rfl (fun i => by rw [Car.marked_served]; simp) fun i => by rw [Car.marked_missed]; simp

theorem Car.marked_marked (x : Car) {p q p' q' : StationId → Bool} (hdisjoint : ∀ i, p i = true ∨ q i = true → p' i = false ∧ q' i = false) :
    (x.marked p q).marked p' q' = x.marked (fun i => p i || p' i) fun i => q i || q' i := by
  refine Car.ext_sets rfl (fun i => ?_) fun i => ?_
  · have h := hdisjoint i
    rw [Car.marked_served, Car.marked_served, Car.marked_served, Car.marked_unsettled]
    cases hp : p i <;> cases hq : q i <;> simp_all
  · have h := hdisjoint i
    rw [Car.marked_missed, Car.marked_missed, Car.marked_missed, Car.marked_unsettled]
    cases hp : p i <;> cases hq : q i <;> simp_all

theorem Car.recordServed_eq (x : Car) (i : StationId) :
    x.recordServed i = x.marked (fun j => decide (j = i)) fun _ => false := by
  refine Car.ext_sets (by unfold Car.recordServed; split <;> rfl) (fun j => ?_) fun j => ?_
  · rw [Car.marked_served]
    unfold Car.recordServed
    by_cases hj : j = i
    · subst hj
      cases x.unsettled j <;> simp [stationBit_getLsbD]
    · have hne : ¬ i.val = j.val := fun h => hj (Fin.ext h.symm)
      rw [decide_eq_false hj]
      split
      · rw [BitVec.getLsbD_or, stationBit_getLsbD, decide_eq_false hne, Bool.false_and]
      · rw [Bool.false_and, Bool.or_false]
  · rw [Car.marked_missed]
    unfold Car.recordServed
    split <;> simp

theorem Car.recordMissed_eq_marked (x : Car) (i : StationId) :
    x.recordMissed i = x.marked (fun _ => false) fun j => decide (j = i) := by
  rw [Car.recordMissed_eq]
  refine Car.ext_sets rfl (fun j => ?_) fun j => ?_
  · rw [Car.marked_served]
    simp [Car.missing]
  · rw [Car.marked_missed, Car.missing, BitVec.getLsbD_or, getLsbD_ofFnLE_val]
    simp

/-- Operations taken station by station, each of which marks the service of its own station for the car of a tag. -/
theorem foldl_marked {f : State → StationId → State} {p q : State → StationId → Bool}
    (hstep : ∀ s i, (f s i).cars = s.cars.map fun k =>
      if k.tag = tag then k.marked (fun j => decide (j = i) && p s i) (fun j => decide (j = i) && q s i) else k)
    (hkeep : ∀ s i j, j ≠ i → p (f s i) j = p s j ∧ q (f s i) j = q s j) (is : List StationId) (hnodup : is.Nodup) (s : State) :
    (is.foldl f s).cars = s.cars.map fun k =>
      if k.tag = tag then k.marked (fun j => decide (j ∈ is) && p s j) (fun j => decide (j ∈ is) && q s j) else k := by
  induction is generalizing s with
  | nil => simp [Car.marked_none]
  | cons i is ih =>
    obtain ⟨hi, his⟩ := List.nodup_cons.1 hnodup
    rw [List.foldl_cons, ih his, hstep, List.map_map]
    refine List.map_congr_left fun k _ => ?_
    rw [Function.comp_apply]
    by_cases hk : k.tag = tag
    · have htag (p q : StationId → Bool) : (k.marked p q).tag = k.tag := rfl
      rw [if_pos hk, htag, if_pos hk, if_pos hk, Car.marked_marked]
      · congr 1
        · funext j
          by_cases hj : j = i
          · subst hj
            simp [hi]
          · simp [hj, (hkeep s i j hj).1]
        · funext j
          by_cases hj : j = i
          · subst hj
            simp [hi]
          · simp [hj, (hkeep s i j hj).2]
      · intro j hj
        have hji : j = i := by
          by_contra hne
          simp [hne] at hj
        simp [hji, hi]
    · rw [if_neg hk, if_neg hk, if_neg hk]

/-- Whether a station serves the car, as a value. -/
def State.servesB (s : State) (i : StationId) (tag : Nat) : Bool :=
  s.seq.stations[i].car == some tag && s.seq.stations[i].phase != .idle && s.seq.stations[i].phase != .fault

theorem servesB_iff : s.servesB i tag = true ↔ s.serves i tag := by
  simp [State.servesB, State.serves, and_assoc]

theorem stationed_cars (s : State) (i : StationId) (st : Station) : (s.stationed i st).cars = s.cars :=
  (onStation_touches s i _).cars

theorem ordered_cars (s : State) (i : StationId) (a : Action) (car : Option Nat) (st : Station) :
    (s.ordered i a car st).cars = s.cars :=
  (pushOrder_touches _ _ _ _ _).cars.trans (stationed_cars s.takeOrderNumber i _)

theorem releaseStation_cars (early : Bool) (h : s.serves i tag) :
    (s.releaseStation i early).cars = s.cars.map fun k => if k.tag = tag then
      (if (s.seq.stations[i].phase == .engaged && !early) = true then k.recordServed i else k.recordMissed i) else k := by
  obtain ⟨hcar, hidle, hfault⟩ := h
  rw [releaseStation_eq early hcar hidle hfault, recordService_eq]
  split
  · rw [stationed_cars, onCar_cars]
  · rw [ordered_cars, onCar_cars]

/-- The services of the stations that serve a car: counted as served in ENGAGED unless the release is early, as missed otherwise
(R99, R108). -/
theorem releaseCar_cars (s : State) (tag : Nat) (early : Bool) :
    (s.releaseCar tag early).cars = s.cars.map fun k => if k.tag = tag then
      k.marked (fun i => s.servesB i tag && (s.seq.stations[i].phase == .engaged && !early))
        (fun i => s.servesB i tag && !(s.seq.stations[i].phase == .engaged && !early)) else k := by
  have hstep (s : State) (i : StationId) :
      (if s.seq.stations[i].car = some tag then s.releaseStation i early else s).cars = s.cars.map fun k => if k.tag = tag then
        k.marked (fun j => decide (j = i) && (s.servesB i tag && (s.seq.stations[i].phase == .engaged && !early)))
          (fun j => decide (j = i) && (s.servesB i tag && !(s.seq.stations[i].phase == .engaged && !early))) else k := by
    by_cases hserves : s.serves i tag
    · rw [if_pos hserves.1, releaseStation_cars early hserves, servesB_iff.2 hserves]
      refine List.map_congr_left fun k _ => ?_
      cases s.seq.stations[i].phase == .engaged && !early
      · simp [Car.recordMissed_eq_marked]
      · simp [Car.recordServed_eq]
    · have hfalse : s.servesB i tag = false := by rw [← Bool.not_eq_true, servesB_iff]; exact hserves
      have hnone : (if s.seq.stations[i].car = some tag then s.releaseStation i early else s) = s := by
        split
        next hcar => exact releaseStation_of_not_serves early hcar hserves
        next => rfl
      rw [hnone, hfalse]
      simp [Car.marked_none]
  have hkeep (s : State) (i j : StationId) (hj : j ≠ i) :
      (if s.seq.stations[i].car = some tag then s.releaseStation i early else s).seq.stations[j] = s.seq.stations[j] := by
    split
    next hcar =>
      by_cases hserves : s.serves i tag
      · exact (releases_releaseStation early hserves).kept j hj
      · rw [releaseStation_of_not_serves early hcar hserves]
    next => rfl
  unfold State.releaseCar
  rw [foldl_marked (p := fun s i => s.servesB i tag && (s.seq.stations[i].phase == .engaged && !early))
    (q := fun s i => s.servesB i tag && !(s.seq.stations[i].phase == .engaged && !early)) hstep
    (fun s i j hj => by simp only [State.servesB, hkeep s i j hj, and_self]) stationIds nodup_stationIds s]
  simp only [mem_stationIds, decide_true, Bool.true_and]

/-- A station that keeps an ARM service from being missed: it has the car, but cannot be released from it. -/
def State.stuckWith (s : State) (i : StationId) (tag : Nat) : Bool := s.seq.stations[i].car == some tag && !s.servesB i tag

/-- The ARM services of an oversize car are missed (R27, R109). -/
theorem settleOversize_cars (s : State) (tag : Nat) :
    (s.settleOversize tag).cars = s.cars.map fun k => if k.tag = tag then
      k.marked (fun _ => false) (fun i => s.map.table[i].kind == .arm && !s.stuckWith i tag) else k := by
  have hstep (s : State) (i : StationId) :
      (if s.map.table[i].kind = .arm then
        if s.seq.stations[i].car = some tag then s.releaseStation i true else s.recordMissed tag i else s).cars =
      s.cars.map fun k => if k.tag = tag then
        k.marked (fun j => decide (j = i) && false)
          (fun j => decide (j = i) && (s.map.table[i].kind == .arm && !s.stuckWith i tag)) else k := by
    by_cases harm : s.map.table[i].kind = .arm
    · rw [if_pos harm, harm]
      by_cases hcar : s.seq.stations[i].car = some tag
      · rw [if_pos hcar]
        by_cases hserves : s.serves i tag
        · have hstuck : s.stuckWith i tag = false := by rw [State.stuckWith, servesB_iff.2 hserves, Bool.not_true, Bool.and_false]
          rw [releaseStation_cars true hserves, hstuck]
          simp [Car.recordMissed_eq_marked]
        · have hstuck : s.stuckWith i tag = true := by
            have hfalse : s.servesB i tag = false := by rw [← Bool.not_eq_true, servesB_iff]; exact hserves
            rw [State.stuckWith, hfalse, hcar]
            simp
          rw [releaseStation_of_not_serves true hcar hserves, hstuck]
          simp [Car.marked_none]
      · have hstuck : s.stuckWith i tag = false := by
          have hother : (s.seq.stations[i].car == some tag) = false := by simpa using hcar
          rw [State.stuckWith, hother, Bool.false_and]
        rw [if_neg hcar, hstuck]
        refine List.map_congr_left fun k _ => ?_
        simp [Car.recordMissed_eq_marked]
    · have hother : (s.map.table[i].kind == .arm) = false := by simpa using harm
      rw [if_neg harm, hother]
      simp [Car.marked_none]
  have hkeep (s : State) (i j : StationId) (hj : j ≠ i) :
      (if s.map.table[i].kind = .arm then
        if s.seq.stations[i].car = some tag then s.releaseStation i true else s.recordMissed tag i else s).seq.stations[j] =
      s.seq.stations[j] := by
    split
    · split
      next hcar =>
        by_cases hserves : s.serves i tag
        · exact (releases_releaseStation true hserves).kept j hj
        · rw [releaseStation_of_not_serves true hcar hserves]
      next => rfl
    · rfl
  have hmap (s : State) (i : StationId) :
      (if s.map.table[i].kind = .arm then
        if s.seq.stations[i].car = some tag then s.releaseStation i true else s.recordMissed tag i else s).map = s.map := by
    split
    · split
      · exact (releaseStation_touches s i true).map
      · rfl
    · rfl
  unfold State.settleOversize
  rw [foldl_marked (p := fun _ _ => false) (q := fun s i => s.map.table[i].kind == .arm && !s.stuckWith i tag) hstep
    (fun s i j hj => ⟨rfl, by simp only [State.stuckWith, State.servesB, hkeep s i j hj, hmap]⟩) stationIds nodup_stationIds s]
  simp only [mem_stationIds, decide_true, Bool.true_and]

end Sys2Proof.Machine
end

section
/-! The entry front (R20, R21), the confirmed rear (R25, R26), the foreign object (R26) and the oversize car (R27): O12. -/

set_option Elab.async false

namespace Sys2Proof.Machine

variable {s t u v : State} {i j : StationId} {init : List Car} {c k : Car}

/-! ## The entry front (R20, R21, R46) -/

/-- The new record with the oldest sale bound to it, if there is one (R20, R21). -/
def State.boundCar (s : State) : Car :=
  { s.newCar with
    plan := (s.book.queue.head?.map fun q => q.sale.plan).getD 0
    sale := s.book.queue.head?.map fun q => q.sale
    activity := (s.book.queue.head?.map fun q => q.activity).getD s.book.plans[(0 : Fin 16)].stations }

/-- The state with a record at the tail of the list, and the oldest sale taken from the queue. -/
def State.appended (s : State) (c : Car) : State :=
  ((s.onNextTag fun _ => nextInSequence 255 s.freeTag).onCars fun cars => cars ++ [c]).onBook fun b =>
    { b with queue := b.queue.tail }

theorem appended_touches (s : State) (c : Car) : Touches [.nextTag, .cars, .book] s (s.appended c) :=
  ((touches_onNextTag s _).andThen (touches_onCars _ _) (hs := [.nextTag, .cars])).andThen (touches_onBook _ _)

theorem enteringCar_appended (s : State) {c : Car} (hc : c.length = none) : enteringCar (s.appended c).cars = some c := by
  have hcars : (s.appended c).cars = s.cars ++ [c] := rfl
  rw [hcars, enteringCar_concat, hc]
  rfl

theorem appendCar_eq (s : State) : s.appendCar = s.appended s.boundCar := by
  unfold State.appendCar State.appended State.boundCar
  dsimp only
  cases hqueue : s.book.queue with
  | nil =>
    have hbook : { s.book with queue := s.book.queue.tail } = s.book := by
      rw [hqueue, List.tail_nil, ← hqueue]
    simp only [State.onBook, State.onCars, State.onNextTag, hbook]
    rfl
  | cons q rest =>
    have hbook : { s.book with queue := s.book.queue.tail } = { s.book with queue := rest } := by rw [hqueue, List.tail_cons]
    have hentering : enteringCar (s.cars ++ [s.newCar.bind q]) = some (s.newCar.bind q) := by
      rw [enteringCar_concat]
      rfl
    have hnone := admissionCheck_of_entering (s := ((s.onNextTag fun _ => nextInSequence 255 s.freeTag).onCars fun cars =>
      cars ++ [s.newCar.bind q]).onBook fun b => { b with queue := rest }) hentering
    refine hnone.trans ?_
    simp only [State.onBook, State.onCars, State.onNextTag, hbook]
    rfl

/-- A change of the last record of a list without its tag elsewhere. -/
theorem map_concat_of_tag {f : Car → Car} (h : ∀ x ∈ init, x.tag ≠ k.tag) :
    (init ++ [k]).map (fun x => if x.tag = k.tag then f x else x) = init ++ [f k] := by
  rw [List.map_append, List.map_singleton, if_pos rfl]
  congr 1
  conv_rhs => rw [← List.map_id init]
  exact List.map_congr_left fun x hx => if_neg (h x hx)

theorem tag_ne_of_differ (h : TagsDiffer (init ++ [k])) : ∀ x ∈ init, x.tag ≠ k.tag := by
  intro x hx htag
  have hparts := List.nodup_append.1 (List.map_append ▸ h : (init.map (fun c => c.tag) ++ [k].map fun c => c.tag).Nodup)
  exact hparts.2.2 _ (List.mem_map_of_mem hx) _ (List.mem_map_of_mem (List.mem_singleton.2 rfl)) htag

theorem tag_ne_of_free (h : s.tagHeld s.freeTag = false) : ∀ x ∈ s.cars, x.tag ≠ s.freeTag := by
  intro x hx htag
  rw [State.tagHeld, List.any_eq_false] at h
  exact h x hx (by simp [htag])

/-- The record as it enters: outside ROLLING it is marked UNCALLED (R21). -/
def State.enteredCar (s : State) : Car :=
  { s.boundCar with flags := { s.boundCar.flags with uncalled := s.gate.phase != .rolling } }

/-- The state after an entry front with room in the list (R20, R21, R46). -/
def State.entered (s : State) : State :=
  if s.gate.phase = .rolling then (s.appended s.enteredCar).endCall
  else (s.appended s.enteredCar).notify (.uncalledEntry s.freeTag)

theorem markUncalled_of_rolling {tag : Nat} (h : s.gate.phase = .rolling) : s.markUncalled tag = s := if_pos h

theorem gateEntryFront_eq {c : Car} (h : enteringCar s.cars = some c) :
    s.gateEntryFront = if s.gate.phase = .rolling then s.endCall else s := by
  unfold State.gateEntryFront State.finishCall
  rw [admissionCheck_of_entering (s := s.endCall) h, admissionCheck_of_entering h]

/-- An entry front with room in the list (R20, R21). -/
theorem entryOn_room (hentering : enteringCar s.cars = none) (hroom : s.cars.length ≤ 15) (hfree : s.tagHeld s.freeTag = false) :
    s.entryOn = s.entered := by
  have hfront : s.entryOn = ((s.appended s.boundCar).markUncalled s.freeTag).gateEntryFront := by
    rw [← appendCar_eq]
    unfold State.entryOn
    rw [hentering]
    exact if_neg (by omega)
  have hmarked : (s.appended s.boundCar).markUncalled s.freeTag =
      if s.gate.phase = .rolling then s.appended s.enteredCar
      else (s.appended s.enteredCar).notify (.uncalledEntry s.freeTag) := by
    by_cases hrolling : s.gate.phase = .rolling
    · have hflag : (s.gate.phase != .rolling) = false := by simpa using hrolling
      rw [if_pos hrolling, markUncalled_of_rolling (s := s.appended s.boundCar) hrolling, State.enteredCar, hflag]
      rfl
    · have hflag : (s.gate.phase != .rolling) = true := by simpa using hrolling
      have hcars := map_concat_of_tag (k := s.boundCar) (init := s.cars)
        (f := fun c => { c with flags := { c.flags with uncalled := true } }) (tag_ne_of_free hfree)
      rw [if_neg hrolling, State.enteredCar, hflag]
      unfold State.markUncalled
      rw [if_neg (show ¬ (s.appended s.boundCar).gate.phase = .rolling from hrolling)]
      unfold State.appended State.onCar changeCar
      simp only [State.onCars, State.onNextTag, State.onBook]
      rw [← hcars]
      rfl
  rw [hfront, hmarked]
  unfold State.entered
  by_cases hrolling : s.gate.phase = .rolling
  · rw [if_pos hrolling, if_pos hrolling, gateEntryFront_eq (enteringCar_appended s rfl)]
    exact if_pos hrolling
  · have hentered : enteringCar ((s.appended s.enteredCar).notify (.uncalledEntry s.freeTag)).cars = some s.enteredCar :=
      enteringCar_appended s rfl
    rw [if_neg hrolling, if_neg hrolling, gateEntryFront_eq hentered]
    exact if_neg hrolling

theorem entered_queues (room : s.noticeRoom 1) : Queues [.cars, .nextTag, .book, .gate] s s.entered []
    (if s.gate.phase = .rolling then [] else [.uncalledEntry s.freeTag]) := by
  have happended : Queues [.cars, .nextTag, .book, .gate] s (s.appended s.enteredCar) [] [] :=
    (Queues.of_touches (appended_touches s _)).mono
  unfold State.entered
  split
  · exact happended.touch (endCall_touches _)
  · exact happended.andThen (Queues.notify _ _ room)

theorem entered_gate (s : State) : s.entered.gate =
    if s.gate.phase = .rolling then { s.gate with call := none, ackTimer := none, phase := s.gateRest } else s.gate := by
  unfold State.entered
  split <;> rfl

theorem entered_cars (s : State) : s.entered.cars = s.cars ++ [s.enteredCar] := by
  unfold State.entered
  split <;> rfl

theorem entered_nextTag (s : State) : s.entered.nextTag = nextInSequence 255 s.freeTag := by
  unfold State.entered
  split <;> rfl

theorem entered_book (s : State) : s.entered.book = { s.book with queue := s.book.queue.tail } := by
  unfold State.entered
  split <;> rfl

end Sys2Proof.Machine
end

section
/-! The confirmed rear (R25, R26, R28) and the oversize car (R27): O12. -/

set_option Elab.async false

namespace Sys2Proof.Machine

variable {s t u v : State} {i j : StationId} {init : List Car} {c k : Car}

/-! ## The entering car at the tail of the list -/

theorem cars_eq_of_getLast (h : s.cars.getLast? = some c) : s.cars = s.cars.dropLast ++ [c] :=
  (List.dropLast_append_getLast? c h).symm

/-- The car directly ahead of the last one of a list. -/
theorem behind_concat_iff (h : TagsDiffer (init ++ [k])) {a : Car} : Behind (init ++ [k]) a k ↔ init.getLast? = some a := by
  constructor
  · rintro ⟨before, after, heq⟩
    rcases List.eq_nil_or_concat after with rfl | ⟨after, z, rfl⟩
    · have hsplit : init ++ [k] = (before ++ [a]) ++ [k] := by rw [heq]; simp
      rw [(List.append_inj' hsplit rfl).1]
      simp
    · have hsplit : init ++ [k] = (before ++ a :: k :: after) ++ [z] := by rw [heq]; simp
      have hmem : k ∈ init := by
        rw [(List.append_inj' hsplit rfl).1]
        simp
      exact absurd rfl (tag_ne_of_differ h k hmem)
  · intro hlast
    refine ⟨init.dropLast, [], ?_⟩
    conv_lhs => rw [← List.dropLast_append_getLast? a hlast]
    simp

/-- The crowd check of the last car of the list with the one ahead. -/
theorem crowdAhead_last_free (hcars : s.cars = init ++ [k]) (h : TagsDiffer (init ++ [k]))
    (hfree : ∀ a, init.getLast? = some a → ¬ s.crowds a k) : s.crowdAhead k.tag = s := by
  refine crowdAhead_free fun c a hc ha hcrowds => ?_
  rw [hcars, carByTag_of_mem h (by simp)] at hc
  cases hc
  rw [hcars, carAhead_of_mem h (by simp), behind_concat_iff h] at ha
  exact hfree a ha hcrowds

theorem crowdAhead_last_crowds {a : Car} (hcars : s.cars = init ++ [k]) (h : TagsDiffer (init ++ [k]))
    (ha : init.getLast? = some a) (hcrowds : s.crowds a k) :
    s.crowdAhead k.tag = s.raise .crowding (some k.tag) (some a.tag) none none := by
  refine crowdAhead_crowds ?_ ?_ hcrowds
  · rw [hcars, carByTag_of_mem h (by simp)]
  · rw [hcars, carAhead_of_mem h (by simp), behind_concat_iff h]
    exact ha

/-! ## What a halt keeps (R145) -/

theorem admissionCheck_prevRear (s : State) : s.admissionCheck.gate.prevRear = s.gate.prevRear := by
  unfold State.admissionCheck
  split <;> rfl

theorem admissionCheck_stations (s : State) : s.admissionCheck.seq.stations = s.seq.stations := by
  unfold State.admissionCheck
  split <;> rfl

/-- The gate's previous rear is kept, and no station is engaged. -/
structure Loosens (s t : State) : Prop where
  prevRear : t.gate.prevRear = s.gate.prevRear
  car : ∀ i : StationId, ∀ tag, t.seq.stations[i].car = some tag → s.seq.stations[i].car = some tag

theorem Loosens.trans (h : Loosens s t) (k : Loosens t u) : Loosens s u :=
  ⟨k.prevRear.trans h.prevRear, fun i tag hcar => h.car i tag (k.car i tag hcar)⟩

theorem Loosens.of_touches {fs : List Field} (h : Touches fs s t) (hgate : Field.gate ∉ fs := by decide)
    (hseq : Field.seq ∉ fs := by decide) : Loosens s t :=
  ⟨by rw [h.gate hgate], fun i tag hcar => by rwa [h.seq hseq] at hcar⟩

theorem loosens_haltActions (s : State) : Loosens s s.haltActions := by
  refine ⟨?_, fun i tag h => ?_⟩
  · rw [haltActions_gate]
    split <;> rfl
  · rw [haltActions_station] at h
    unfold Station.halted at h
    split at h
    · cases h
    · split at h <;> cases h

theorem loosens_enterHalting (s : State) : Loosens s s.enterHalting := by
  rw [enterHalting_eq]
  exact .of_touches (touches_onHalt s _)

/-- A cause keeps the gate's stamps, and engages no station. -/
theorem loosens_takeCause (s : State) (x : Cause) : Loosens s (s.takeCause x) := by
  have hmarked : Loosens s (s.markStruck x) := .of_touches (markStruck_touches s x)
  unfold State.takeCause
  dsimp only
  split
  · split
    · exact hmarked
    · exact (((hmarked.trans (.of_touches (newIncident_touches _ x))).trans (loosens_haltActions _)).trans
        (.of_touches (notify_touches _ _))).trans (loosens_enterHalting _)
  · have hadded := hmarked.trans (.of_touches (addSecondary_touches _ x))
    unfold State.secondaryBy
    dsimp only
    split
    · exact ((hadded.trans (.of_touches (touches_onHalt _ _))).trans (loosens_haltActions _)).trans (loosens_enterHalting _)
    · exact hadded

theorem raise_prevRear (s : State) (kind : CauseKind) (tag tag2 station eye : Option Nat) :
    (s.raise kind tag tag2 station eye).gate.prevRear = s.gate.prevRear := (loosens_takeCause s _).prevRear

theorem crowdAhead_prevRear (s : State) (tag : Nat) : (s.crowdAhead tag).gate.prevRear = s.gate.prevRear := by
  unfold State.crowdAhead
  split
  · unfold State.crowdPair
    split
    · rfl
    · split
      · exact raise_prevRear _ _ _ _ _ _
      · rfl
  · rfl

/-- A cause leaves a car that no station serves as it is, but for STRUCK. -/
theorem raise_lastCar {kind : CauseKind} {tag tag2 station eye : Option Nat} (hcars : s.cars = init ++ [k])
    (hserved : ∀ i : StationId, s.seq.stations[i].car ≠ some k.tag) :
    ∃ rest, (s.raise kind tag tag2 station eye).cars = rest ++ [{ k with flags := { k.flags with
        struck := k.flags.struck || tag == some k.tag || tag2 == some k.tag } }] ∧
      rest.map Car.core = init.map Car.core := by
  obtain ⟨f, hf, heq⟩ := takeCause_cars s (s.causeNow kind tag tag2 station eye)
  have hnone : f { k with flags := { k.flags with struck := k.flags.struck || tag == some k.tag || tag2 == some k.tag } } = 0 :=
    stationSet_ext fun i => by
      have hzero : (0 : StationSet).getLsbD i.val = false := BitVec.getLsbD_zero
      rw [hzero, ← Bool.not_eq_true]
      intro h
      have hcar := hf _ i h
      exact hserved i hcar
  have hmarked : (if tag = some k.tag ∨ tag2 = some k.tag then { k with flags := { k.flags with struck := true } } else k) =
      { k with flags := { k.flags with struck := k.flags.struck || tag == some k.tag || tag2 == some k.tag } } := by
    by_cases h1 : tag = some k.tag
    · simp [h1]
    · by_cases h2 : tag2 = some k.tag
      · simp [h2]
      · have h1' : (tag == some k.tag) = false := by simpa using h1
        have h2' : (tag2 == some k.tag) = false := by simpa using h2
        simp [h1, h2, h1', h2']
  have hmissed (x : StationSet) : x ||| (0 : StationSet) = x := BitVec.or_zero
  have hcore : CoreSame s (s.raise kind tag tag2 station eye) := raise_core _ _ _ _ _
  have hlast : (s.raise kind tag tag2 station eye).cars = (init ++ [k]).map ((fun x => { x with missed := x.missed ||| f x }) ∘
      fun x => if tag = some x.tag ∨ tag2 = some x.tag then { x with flags := { x.flags with struck := true } } else x) := by
    rw [← List.map_map, ← hcars]
    exact heq
  rw [List.map_append, List.map_singleton, Function.comp_apply, hmarked, hnone, hmissed] at hlast
  refine ⟨_, hlast, ?_⟩
  unfold CoreSame at hcore
  rw [hlast, hcars, List.map_append, List.map_append] at hcore
  exact (List.append_inj' hcore rfl).1

/-! ## The foreign object (R26) -/

/-- Every station that has the car of a record serves it, and the service is in neither set (R96). -/
def State.servesAll (s : State) (c : Car) : Prop :=
  ∀ i : StationId, s.seq.stations[i].car = some c.tag → s.serves i c.tag ∧ c.unsettled i = true

theorem State.engagedLaw.servesAll (h : s.engagedLaw) (hdiffer : TagsDiffer s.cars) (hc : c ∈ s.cars) : s.servesAll c := by
  intro i hcar
  obtain ⟨hidle, hfault, d, hd, htag, hunsettled⟩ := h i c.tag hcar
  rw [hdiffer.eq_of_tag hd hc htag] at hunsettled
  exact ⟨⟨hcar, hidle, hfault⟩, hunsettled⟩

/-- The state in which a foreign object raises its cause (R26). -/
def State.foreignMarked (s : State) (c : Car) : State :=
  let s1 := s.onCar c.tag fun k => { k with flags := { k.flags with foreign := true } }
  let s2 := (s1.returnSale c).onCar c.tag fun k => { k with plan := 0 }
  (s2.releaseCar c.tag true).onCar c.tag fun k => { k with activity := k.served ||| k.missed }

theorem foreignObject_eq (s : State) (c : Car) :
    s.foreignObject c = (s.foreignMarked c).raise .foreignObject (some c.tag) none none none := rfl

theorem returnSale_keeps (s : State) (c : Car) :
    (s.returnSale c).cars = (match c.sale with
      | none => s.cars
      | some _ => (s.onCar c.tag fun k => { k with sale := none }).cars) ∧
    (s.returnSale c).book = (match c.sale with
      | none => s.book
      | some x => { s.book with queue := { sale := x, activity := c.activity } :: s.book.queue }) ∧
    (s.returnSale c).gate.prevRear = s.gate.prevRear ∧ (s.returnSale c).seq.stations = s.seq.stations ∧
    Touches [.cars, .book, .seq, .gate, .ring] s (s.returnSale c) := by
  unfold State.returnSale
  cases hsale : c.sale with
  | none => exact ⟨rfl, rfl, rfl, rfl, Touches.refl _ s⟩
  | some x =>
    dsimp only
    have hchecked := admissionCheck_touches ((s.onCar c.tag fun k => { k with sale := none }).onBook fun b =>
      { b with queue := { sale := x, activity := c.activity } :: b.queue })
    refine ⟨?_, hchecked.book, ?_, ?_, ?_⟩
    · rw [hchecked.cars]
      rfl
    · rw [admissionCheck_prevRear]
      rfl
    · rw [admissionCheck_stations]
      rfl
    · exact ((onCar_touches s c.tag _).andThen (touches_onBook _ _) (hs := [.cars, .book])).andThen hchecked

/-- A change of the last record of the list. -/
theorem onCar_last {f : Car → Car} (hcars : s.cars = init ++ [k]) (h : ∀ x ∈ init, x.tag ≠ k.tag) :
    (s.onCar k.tag f).cars = init ++ [f k] := by
  rw [onCar_cars, hcars, map_concat_of_tag h]

/-- What a foreign object leaves before its cause: the record without its sale and its plan, with the services of the stations
that serve it missed. -/
structure ForeignLeft (s v : State) (init : List Car) (c : Car) : Prop where
  cars : v.cars = init ++ [{ c with
    flags := { c.flags with foreign := true }
    sale := none
    plan := 0
    missed := (c.marked (fun _ => false) fun i => s.servesB i c.tag).missed
    activity := c.served ||| (c.marked (fun _ => false) fun i => s.servesB i c.tag).missed }]
  book : v.book = match c.sale with
    | none => s.book
    | some x => { s.book with queue := { sale := x, activity := c.activity } :: s.book.queue }
  prevRear : v.gate.prevRear = s.gate.prevRear
  released : ∀ i : StationId, v.seq.stations[i].car ≠ some c.tag
  touches : Touches [.cars, .book, .seq, .gate, .ring] s v

theorem foreignMarked_left (hcars : s.cars = init ++ [c]) (hother : ∀ x ∈ init, x.tag ≠ c.tag) (hserves : s.servesAll c) :
    ForeignLeft s (s.foreignMarked c) init c := by
  generalize hs1 : (s.onCar c.tag fun k => { k with flags := { k.flags with foreign := true } }) = s1
  have h1 : s1.cars = init ++ [{ c with flags := { c.flags with foreign := true } }] := by
    rw [← hs1]
    exact onCar_last hcars hother
  have t1 : Touches [.cars] s s1 := by
    rw [← hs1]
    exact onCar_touches s _ _
  obtain ⟨hreturned, hbook, hrear, hstations, htouches⟩ := returnSale_keeps s1 c
  generalize hs2 : ((s1.returnSale c).onCar c.tag fun k => { k with plan := 0 }) = s2
  have h2 : s2.cars = init ++ [{ c with flags := { c.flags with foreign := true }, sale := none, plan := 0 }] := by
    have hsold : (s1.returnSale c).cars = init ++ [{ c with flags := { c.flags with foreign := true }, sale := none }] := by
      rw [hreturned]
      cases hsale : c.sale with
      | none =>
        have hself : ({ c with flags := { c.flags with foreign := true }, sale := none } : Car) =
            { c with flags := { c.flags with foreign := true } } := by rw [← hsale]
        rw [hself]
        exact h1
      | some x =>
        exact onCar_last (k := { c with flags := { c.flags with foreign := true } }) (f := fun k => { k with sale := none }) h1
          hother
    rw [← hs2]
    exact onCar_last (k := { c with flags := { c.flags with foreign := true }, sale := none }) hsold hother
  have t2 : Touches [.cars] (s1.returnSale c) s2 := by
    rw [← hs2]
    exact onCar_touches _ _ _
  have hseq2 : s2.seq.stations = s.seq.stations := by
    rw [t2.seq, hstations, t1.seq]
  have hreleases := releaseCar_releases s2 c.tag true
  have h3 : (s2.releaseCar c.tag true).cars = init ++ [{ c with
      flags := { c.flags with foreign := true }
      sale := none
      plan := 0
      missed := (c.marked (fun _ => false) fun i => s.servesB i c.tag).missed }] := by
    have hmarks : (fun i => s2.servesB i c.tag && !(s2.seq.stations[i].phase == .engaged && !true)) =
        fun i => s.servesB i c.tag := by
      funext i
      simp only [State.servesB, hseq2, Bool.not_true, Bool.and_false, Bool.not_false, Bool.and_true]
    have hnone : (fun i => s2.servesB i c.tag && (s2.seq.stations[i].phase == .engaged && !true)) = fun _ => false := by
      funext i
      simp only [Bool.not_true, Bool.and_false]
    have hrecord : Car.marked { c with flags := { c.flags with foreign := true }, sale := none, plan := 0 }
        (fun _ => false) (fun i => s.servesB i c.tag) = { c with
          flags := { c.flags with foreign := true }
          sale := none
          plan := 0
          missed := (c.marked (fun _ => false) fun i => s.servesB i c.tag).missed } :=
      Car.ext_sets rfl (fun i => by rw [Car.marked_served]; simp) fun i => rfl
    rw [releaseCar_cars, h2, hmarks, hnone, ← hrecord]
    exact map_concat_of_tag (k := { c with flags := { c.flags with foreign := true }, sale := none, plan := 0 })
      (f := fun k => k.marked (fun _ => false) fun i => s.servesB i c.tag) hother
  have heq : s.foreignMarked c =
      (s2.releaseCar c.tag true).onCar c.tag fun k => { k with activity := k.served ||| k.missed } := by
    rw [← hs2, ← hs1]
    rfl
  have t4 := onCar_touches (s2.releaseCar c.tag true) c.tag fun k => { k with activity := k.served ||| k.missed }
  rw [heq]
  exact {
    cars := onCar_last (k := { c with
      flags := { c.flags with foreign := true }
      sale := none
      plan := 0
      missed := (c.marked (fun _ => false) fun i => s.servesB i c.tag).missed }) h3 hother
    book := by
      rw [t4.book, hreleases.touches.book, t2.book, hbook, t1.book]
    prevRear := by
      rw [t4.gate, hreleases.touches.gate, t2.gate, hrear, t1.gate]
    released := by
      intro i hcar
      rw [t4.seq] at hcar
      by_cases hserving : s2.serves i c.tag
      · obtain ⟨hbusy, hfree⟩ := hreleases.released i hserving
        cases hcurrent : s2.seq.stations[i].current with
        | none =>
          obtain ⟨number, -, hstation, -⟩ := hfree hcurrent
          rw [hstation] at hcar
          cases hcar
        | some o =>
          rw [hbusy (by rw [hcurrent]; rfl)] at hcar
          cases hcar
      · rw [hreleases.kept i hserving, hseq2] at hcar
        exact hserving ((serves_congr (by rw [hseq2])).2 (hserves i hcar).1)
    touches := (((t1.andThen htouches (hs := [.cars, .book, .seq, .gate, .ring])).andThen t2
      (hs := [.cars, .book, .seq, .gate, .ring])).andThen hreleases.touches (hs := [.cars, .book, .seq, .gate, .ring])).andThen t4 }

end Sys2Proof.Machine
end

section
/-! O12: the entry front, the confirmed rear, the foreign object and the oversize car. -/

set_option Elab.async false

namespace Sys2Proof.Machine

variable {s t u v : State} {i j : StationId} {init : List Car} {c k : Car}

/-- A later cause that names the cars of an earlier one marks the cars of both. -/
theorem Strikes.absorb {x y : Cause} (h : Strikes s t x) (k : Strikes t u y)
    (hsub : ∀ n, x.tag = some n ∨ x.tag2 = some n → y.tag = some n ∨ y.tag2 = some n) : Strikes s u y := by
  have hpairs (z : Cause) (l : List Car) :
      (l.map fun k => (k.tag, k.flags.struck || z.tag == some k.tag || z.tag2 == some k.tag)) =
        (l.map Car.strike).map fun p => (p.1, p.2 || z.tag == some p.1 || z.tag2 == some p.1) := by
    rw [List.map_map]
    rfl
  unfold Strikes at *
  rw [k, hpairs y t.cars, show t.cars.map Car.strike = _ from h, hpairs x, hpairs y, List.map_map]
  refine List.map_congr_left fun p _ => Prod.ext rfl ?_
  have hnamed := hsub p.1
  by_cases hx : x.tag = some p.1 ∨ x.tag2 = some p.1
  · rcases hnamed hx with hy | hy <;> simp [hy]
  · rw [not_or] at hx
    have hfirst : (x.tag == some p.1) = false := by simpa using hx.1
    have hsecond : (x.tag2 == some p.1) = false := by simpa using hx.2
    simp [hfirst, hsecond]

/-! ## The confirmed rear (R25, R28) -/

/-- The state once the rear of the entering car is confirmed (R25). -/
def State.rearConfirmed (s : State) (k : Car) (rear : Word) : State :=
  { s with cars := s.cars.dropLast ++ [k], gate := { s.gate with prevRear := some rear } }

theorem rearConfirmed_touches (s : State) (k : Car) (rear : Word) : Touches [.cars, .gate] s (s.rearConfirmed k rear) :=
  (touches_onCars s fun cars => cars.dropLast ++ [k]).andThen (touches_onGate _ fun g => { g with prevRear := some rear })

theorem confirmRear_early {rear : Word} (hlast : s.cars.getLast? = some c) (hlength : c.length = none)
    (htentative : c.tentative = some rear) (hearly : (s.belt.count - rear).toNat < s.track.merge) : s.confirmRear = s := by
  unfold State.confirmRear
  rw [enteringCar_eq_some_iff.2 ⟨hlast, hlength⟩]
  dsimp only
  rw [htentative]
  exact if_neg (by omega)

theorem confirmRear_due {rear : Word} (hlast : s.cars.getLast? = some c) (hlength : c.length = none)
    (htentative : c.tentative = some rear) (hdue : s.track.merge ≤ (s.belt.count - rear).toNat) (hdiffer : TagsDiffer s.cars) :
    s.confirmRear = ((s.rearConfirmed (c.confirm rear) rear).foreignTest c.tag).crowdAhead c.tag := by
  have hcars := cars_eq_of_getLast hlast
  have hother := tag_ne_of_differ (hcars ▸ hdiffer)
  have hconfirmed : (s.onCar c.tag fun k => k.confirm rear).onGate (fun g => { g with prevRear := some rear }) =
      s.rearConfirmed (c.confirm rear) rear := by
    unfold State.rearConfirmed State.onGate State.onCar State.onCars changeCar
    rw [← map_concat_of_tag (f := fun k => k.confirm rear) hother, ← hcars]
  unfold State.confirmRear
  rw [enteringCar_eq_some_iff.2 ⟨hlast, hlength⟩]
  dsimp only
  rw [htentative]
  dsimp only
  rw [if_pos hdue, hconfirmed]

/-- The car just measured is long enough, or it is a foreign object (R26). -/
theorem foreignTest_eq {rear : Word} (hcars : s.cars = init ++ [k]) (hdiffer : TagsDiffer s.cars)
    (hlength : k.length = some rear) :
    s.foreignTest k.tag = if rear.toNat < s.track.minObject then s.foreignObject k else s := by
  unfold State.foreignTest
  rw [carByTag_of_mem hdiffer (by rw [hcars]; simp)]
  dsimp only
  rw [hlength]

/-- The crowd check of the last car, whose list agrees with an earlier one but for service sets and STRUCK. -/
theorem crowdAhead_of_core (hcars : v.cars = init ++ [k]) {before : List Car} (hdiffer : TagsDiffer v.cars)
    (hcore : init.map Car.core = before.map Car.core) (hcrowd : ∀ a a', a'.core = a.core → (v.crowds a' k ↔ s.crowds a c)) :
    ((∀ a, before.getLast? = some a → ¬ s.crowds a c) → v.crowdAhead k.tag = v) ∧
    (∀ a, before.getLast? = some a → s.crowds a c →
      v.crowdAhead k.tag = v.raise .crowding (some k.tag) (some a.tag) none none) := by
  rw [hcars] at hdiffer
  have hlast : init.getLast?.map Car.core = before.getLast?.map Car.core := by
    rw [← List.getLast?_map, hcore, List.getLast?_map]
  refine ⟨fun hfree => crowdAhead_last_free hcars hdiffer fun a' ha' hcrowds => ?_, fun a ha hcrowds => ?_⟩
  · rw [ha'] at hlast
    obtain ⟨a, ha, hsame⟩ := Option.map_eq_some_iff.1 hlast.symm
    exact hfree a ha ((hcrowd a a' hsame.symm).1 hcrowds)
  · rw [ha] at hlast
    obtain ⟨a', ha', hsame⟩ := Option.map_eq_some_iff.1 hlast
    rw [crowdAhead_last_crowds hcars hdiffer ha' ((hcrowd a a' hsame).2 hcrowds), core_tag hsame]

/-! ## The oversize car (R27) -/

theorem oversizeTest_eq (hlast : s.cars.getLast? = some c) (hlength : c.length = none) :
    s.oversizeTest = if c.tentative.isNone ∧ c.flags.oversize = false ∧ s.track.maxCar < (c.front s.belt.count).toNat then
      ((s.onCar c.tag fun k => { k with flags := { k.flags with oversize := true } }).settleOversize c.tag).notify
        (.oversize c.tag (c.front s.belt.count))
    else s := by
  unfold State.oversizeTest
  rw [enteringCar_eq_some_iff.2 ⟨hlast, hlength⟩]

end Sys2Proof.Machine
end

section
/-! O12: the parts of the obligation. -/

set_option Elab.async false

namespace Sys2Proof.Machine

variable {s t u v : State} {i j : StationId} {init : List Car} {c k : Car}

theorem Released.of_same {tag : Nat} (h : Released s t i tag) (hseq : u.seq = t.seq) (hring : u.ring = t.ring) :
    Released s u i tag := by
  unfold Released at *
  rw [hseq, hring]
  exact h

theorem entryFront_makes {h : Head} {payload : List Byte} (he : s.edge h payload 1 true) (hentering : enteringCar s.cars = none)
    (hroom : s.cars.length ≤ 15) (hlaw : s.listLaw) (room : s.noticeRoom 1) :
    ∃ t, exec (.eye h payload) s = .next t ∧
      t.eyes = s.eyes.set (1 : Fin 10) { s.eyes[(1 : Fin 10)] with on := true } ∧
      t.cars = s.cars ++ [{ s.enteredCar with nextEye := nextEyeAbove s.eyes 3 }] ∧
      s.tagHeld s.freeTag = false ∧
      t.nextTag = nextInSequence 255 s.freeTag ∧
      t.book = { s.book with queue := s.book.queue.tail } ∧
      t.gate = (if s.gate.phase = .rolling then { s.gate with call := none, ackTimer := none, phase := s.gateRest }
        else s.gate) ∧
      Sends [.eyes, .cars, .nextTag, .book, .gate] s t []
        (if s.gate.phase = .rolling then [] else [.uncalledEntry s.freeTag]) := by
  have hfree := freeTag_free hlaw
  have hdelivered : (s.withEye 1 true).deliverEdge 1 true = (s.withEye 1 true).entered :=
    entryOn_room (s := s.withEye 1 true) hentering hroom hfree
  have hqueues : Queues [.eyes, .cars, .nextTag, .book, .gate] s ((s.withEye 1 true).deliverEdge 1 true) []
      (if s.gate.phase = .rolling then [] else [.uncalledEntry s.freeTag]) := by
    rw [hdelivered]
    exact Queues.after (withEye_touches s 1 true) (entered_queues (s := s.withEye 1 true) room)
  obtain ⟨t, hexec, hsame, hsends⟩ := edge_sends he hqueues
  rw [hdelivered] at hsame
  refine ⟨t, hexec, ?_, ?_, hfree, ?_, ?_, ?_, hsends⟩
  · rw [hsame.eyes]
    unfold State.entered
    split <;> rfl
  · rw [hsame.cars, entered_cars]
    have hrecord : (s.withEye 1 true).enteredCar =
        { s.enteredCar with nextEye := nextEyeAbove (s.withEye 1 true).eyes 3 } := rfl
    rw [hrecord, nextEyeAbove_withEye]
    rfl
  · rw [hsame.nextTag, entered_nextTag]
    rfl
  · rw [hsame.book, entered_book]
    rfl
  · have hrest : (s.withEye 1 true).gateRest = s.gateRest := by
      unfold State.gateRest State.loadingOn
      have heye : (s.withEye 1 true).eyes[0] = s.eyes[0] := withEye_other (s := s) (e := 1) (k := 0) (by decide) true
      rw [heye]
      rfl
    rw [hsame.gate, entered_gate, hrest]
    rfl

/-! ## The oversize car (R27) -/

theorem oversizeTest_marks (hlast : s.cars.getLast? = some c) (hlength : c.length = none) (htentative : c.tentative = none)
    (hunmarked : c.flags.oversize = false) (hlong : s.track.maxCar < (c.front s.belt.count).toNat) (hlaw : s.listLaw)
    (hengaged : s.engagedLaw) (room : s.noticeRoom 1) :
    (∃ m : StationSet, (∀ i : StationId, m.getLsbD i.val =
        (c.missed.getLsbD i.val || (s.map.table[i].kind == .arm && c.unsettled i))) ∧
      s.oversizeTest.cars = s.cars.dropLast ++ [{ c with missed := m, flags := { c.flags with oversize := true } }]) ∧
    (∀ i : StationId,
      (s.map.table[i].kind = .arm → s.seq.stations[i].car = some c.tag → Released s s.oversizeTest i c.tag) ∧
      (s.map.table[i].kind ≠ .arm ∨ s.seq.stations[i].car ≠ some c.tag →
        s.oversizeTest.seq.stations[i] = s.seq.stations[i])) ∧
    Sends [.cars, .seq, .ring] s s.oversizeTest [] [.oversize c.tag (c.front s.belt.count)] := by
  have hcars := cars_eq_of_getLast hlast
  have hother := tag_ne_of_differ (hcars ▸ hlaw.tagsDiffer)
  have hserves := hengaged.servesAll hlaw.tagsDiffer (List.mem_of_getLast? hlast)
  have heq := oversizeTest_eq hlast hlength
  rw [if_pos ⟨by rw [htentative]; rfl, hunmarked, hlong⟩] at heq
  generalize hs1 : (s.onCar c.tag fun k => { k with flags := { k.flags with oversize := true } }) = s1 at heq
  have hmarked : s1.cars = s.cars.dropLast ++ [{ c with flags := { c.flags with oversize := true } }] := by
    rw [← hs1]
    exact onCar_last hcars hother
  have htouches : Touches [.cars] s s1 := by
    rw [← hs1]
    exact onCar_touches s _ _
  have hreleases := (Releases.none htouches (b := fun _ => False) (tag := c.tag) fun _ h => h).trans
    (settleOversize_releases s1 c.tag) fun _ h => h.elim
  generalize hs2 : s1.settleOversize c.tag = s2 at heq hreleases
  have hsettled : s2.cars = s.cars.dropLast ++ [Car.marked { c with flags := { c.flags with oversize := true } }
      (fun _ => false) (fun i => s1.map.table[i].kind == .arm && !s1.stuckWith i c.tag)] := by
    rw [← hs2, settleOversize_cars, hmarked]
    exact map_concat_of_tag (k := { c with flags := { c.flags with oversize := true } })
      (f := fun k => k.marked (fun _ => false) (fun i => s1.map.table[i].kind == .arm && !s1.stuckWith i c.tag)) hother
  have hnotified := Queues.after hreleases.touches
    (Queues.notify s2 (.oversize c.tag (c.front s.belt.count)) (by rw [hreleases.touches.office]; exact room))
    (hs := [.cars, .seq, .ring])
  have hstations : (s2.notify (.oversize c.tag (c.front s.belt.count))).seq = s2.seq := rfl
  have hserving (i : StationId) : s1.serves i c.tag ↔ s.seq.stations[i].car = some c.tag := by
    rw [serves_congr (t := s1) (s := s) (by rw [htouches.seq])]
    exact ⟨fun h => h.1, fun h => (hserves i h).1⟩
  rw [heq]
  refine ⟨⟨(c.marked (fun _ => false) fun i => s1.map.table[i].kind == .arm && !s1.stuckWith i c.tag).missed, fun i => ?_, ?_⟩,
    fun i => ⟨fun harm hcar => ?_, fun hnot => ?_⟩, hnotified.sends⟩
  · have hstuck : s1.stuckWith i c.tag = false := by
      unfold State.stuckWith
      cases hserved : s1.servesB i c.tag with
      | true => simp
      | false =>
        have hcar : s1.seq.stations[i].car ≠ some c.tag := by
          rw [htouches.seq]
          intro hcar
          rw [servesB_iff.2 ((hserving i).2 hcar)] at hserved
          cases hserved
        simpa using hcar
    rw [Car.marked_missed, hstuck, htouches.map]
    simp
  · have hrecord (q : StationId → Bool) :
        Car.marked { c with flags := { c.flags with oversize := true } } (fun _ => false) q =
          { c with missed := (c.marked (fun _ => false) q).missed, flags := { c.flags with oversize := true } } :=
      Car.ext_sets rfl (fun i => by rw [Car.marked_served]; simp) fun i => rfl
    rw [hrecord] at hsettled
    exact (notify_touches s2 _).cars.trans hsettled
  · have hreleased := hreleases.released i (.inr ⟨by rw [htouches.map]; exact harm, (hserving i).2 hcar⟩)
    have hnotice := notify_touches s2 (.oversize c.tag (c.front s.belt.count))
    exact hreleased.of_same hnotice.seq hnotice.ring
  · rw [hstations]
    refine hreleases.kept i ?_
    rintro (h | ⟨harm, hcar⟩)
    · exact h
    · rw [htouches.map] at harm
      exact hnot.elim (fun h => h harm) fun h => h ((hserving i).1 hcar)

end Sys2Proof.Machine
end

section
/-! O12: the confirmed rear, and the obligation. -/

set_option Elab.async false

namespace Sys2Proof.Machine

variable {s t u v : State} {i j : StationId} {init : List Car} {c k : Car} {rear : Word}

theorem rearConfirmed_differ (hlast : s.cars.getLast? = some c) (hdiffer : TagsDiffer s.cars) :
    TagsDiffer (s.rearConfirmed (c.confirm rear) rear).cars := by
  have hcars := cars_eq_of_getLast hlast
  rw [hcars] at hdiffer
  show TagsDiffer (s.cars.dropLast ++ [c.confirm rear])
  unfold TagsDiffer at *
  rw [List.map_append] at *
  exact hdiffer

theorem rearConfirmed_strike (hlast : s.cars.getLast? = some c) :
    (s.rearConfirmed (c.confirm rear) rear).cars.map Car.strike = s.cars.map Car.strike := by
  have hcars := cars_eq_of_getLast hlast
  conv_rhs => rw [hcars]
  rw [List.map_append]
  exact List.map_append

/-- The crowd check of a car just measured that is long enough (R28). -/
theorem confirmRear_long (hlast : s.cars.getLast? = some c) (hlength : c.length = none) (htentative : c.tentative = some rear)
    (hdue : s.track.merge ≤ (s.belt.count - rear).toNat) (hdiffer : TagsDiffer s.cars)
    (hlong : s.track.minObject ≤ (rear - c.stamp).toNat) :
    ((∀ a, s.cars.dropLast.getLast? = some a → ¬ s.crowds a (c.confirm rear)) →
      s.confirmRear = s.rearConfirmed (c.confirm rear) rear) ∧
    (∀ a, s.cars.dropLast.getLast? = some a → s.crowds a (c.confirm rear) →
      s.confirmRear = (s.rearConfirmed (c.confirm rear) rear).raise .crowding (some c.tag) (some a.tag) none none) := by
  have htest : (s.rearConfirmed (c.confirm rear) rear).foreignTest c.tag = s.rearConfirmed (c.confirm rear) rear := by
    refine (foreignTest_eq (k := c.confirm rear) rfl (rearConfirmed_differ hlast hdiffer) rfl).trans (if_neg ?_)
    show ¬ (rear - c.stamp).toNat < s.track.minObject
    omega
  rw [confirmRear_due hlast hlength htentative hdue hdiffer, htest]
  exact crowdAhead_of_core (s := s) (k := c.confirm rear) (c := c.confirm rear) rfl (rearConfirmed_differ hlast hdiffer) rfl
    fun a a' hsame => crowds_congr rfl rfl hsame rfl

theorem confirmRear_crowds (hlast : s.cars.getLast? = some c) (room : s.noticeRoom 2) {tag2 : Nat}
    (hu : u = (s.rearConfirmed (c.confirm rear) rear).raise .crowding (some c.tag) (some tag2) none none) :
    u.cars.map Car.core = (s.cars.dropLast ++ [c.confirm rear]).map Car.core ∧
    Raises s u (s.causeNow .crowding (some c.tag) (some tag2)) ∧
    Strikes s u (s.causeNow .crowding (some c.tag) (some tag2)) ∧
    Sends [.cars, .pacer, .seq, .gate, .ring, .halt] s u [] (s.causeNotices (s.causeNow .crowding (some c.tag) (some tag2))) := by
  have htouches := rearConfirmed_touches s (c.confirm rear) rear
  have hstrike := rearConfirmed_strike (rear := rear) hlast
  have hcarsConfirmed : (s.rearConfirmed (c.confirm rear) rear).cars = s.cars.dropLast ++ [c.confirm rear] := rfl
  generalize s.rearConfirmed (c.confirm rear) rear = w at *
  have hcause := causeNow_congr htouches.belt htouches.uptime .crowding (some c.tag) (some tag2) none none
  obtain ⟨hraises, hstrikes⟩ := raise_after .crowding (some c.tag) (some tag2) none none (by decide) htouches.halt hstrike
  have hqueues := (Queues.of_touches htouches).raise .crowding (some c.tag) (some tag2) none none (by decide)
    (by unfold State.noticeRoom at *; simp only [List.length_nil]; omega) htouches.halt
    (hs := [.cars, .pacer, .seq, .gate, .ring, .halt])
  rw [hcause, ← hu] at hraises hstrikes hqueues
  refine ⟨?_, hraises, hstrikes, hqueues.sends⟩
  rw [hu, ← hcarsConfirmed]
  exact raise_core _ _ _ _ _

/-! ## The foreign object (R26) -/

/-- What a foreign object leaves, with its cause raised and before the crowd check. -/
structure ForeignRaised (s v : State) (c : Car) (rear : Word) : Prop where
  car : ∃ before, ∃ m : StationSet, v.cars = before ++ [{ c.confirm rear with
      sale := none
      plan := 0
      missed := m
      activity := c.served ||| m
      flags := { c.flags with foreign := true, struck := true } }] ∧
    before.map Car.core = s.cars.dropLast.map Car.core ∧
    ∀ i : StationId, m.getLsbD i.val = (c.missed.getLsbD i.val || s.seq.stations[i].car == some c.tag)
  released : ∀ i : StationId, v.seq.stations[i].car ≠ some c.tag
  book : v.book = match c.sale with
    | none => s.book
    | some x => { s.book with queue := { sale := x, activity := c.activity } :: s.book.queue }
  prevRear : v.gate.prevRear = some rear
  raises : Raises s v (s.causeNow .foreignObject (some c.tag))
  strikes : Strikes s v (s.causeNow .foreignObject (some c.tag))
  queues : Queues [.cars, .book, .pacer, .seq, .gate, .ring, .halt] s v []
    (s.causeNotices (s.causeNow .foreignObject (some c.tag)))

theorem foreignRaised_foreignObject (hlast : s.cars.getLast? = some c) (hlaw : s.listLaw) (hengaged : s.engagedLaw)
    (room : s.noticeRoom 2) :
    ForeignRaised s ((s.rearConfirmed (c.confirm rear) rear).foreignObject (c.confirm rear)) c rear := by
  have hdiffer := hlaw.tagsDiffer
  have hcars := cars_eq_of_getLast hlast
  have hother := tag_ne_of_differ (hcars ▸ hdiffer)
  have hserves := hengaged.servesAll hdiffer (List.mem_of_getLast? hlast)
  have htouches := rearConfirmed_touches s (c.confirm rear) rear
  have hstrike := rearConfirmed_strike (rear := rear) hlast
  have hrear : (s.rearConfirmed (c.confirm rear) rear).gate.prevRear = some rear := rfl
  have hleft := foreignMarked_left (s := s.rearConfirmed (c.confirm rear) rear) (init := s.cars.dropLast) (c := c.confirm rear)
    rfl hother (fun i h => by
      have hserved := hserves i h
      exact hserved)
  have hunion := htouches.andThen hleft.touches (hs := [.cars, .book, .seq, .gate, .ring])
  have hstations : (s.rearConfirmed (c.confirm rear) rear).seq = s.seq := rfl
  have hbook : (s.rearConfirmed (c.confirm rear) rear).book = s.book := rfl
  have hbits (i : StationId) : ((c.confirm rear).marked (fun _ => false)
      fun i => (s.rearConfirmed (c.confirm rear) rear).servesB i (c.confirm rear).tag).missed.getLsbD i.val =
      (c.missed.getLsbD i.val || s.seq.stations[i].car == some c.tag) := by
    rw [Car.marked_missed]
    by_cases hcar : s.seq.stations[i].car = some c.tag
    · have hserved : (s.rearConfirmed (c.confirm rear) rear).servesB i (c.confirm rear).tag = true :=
        servesB_iff.2 (hserves i hcar).1
      have hunsettled : (c.confirm rear).unsettled i = true := (hserves i hcar).2
      rw [hserved, hunsettled, hcar]
      simp [Car.confirm]
    · have hserved : (s.rearConfirmed (c.confirm rear) rear).servesB i (c.confirm rear).tag = false := by
        rw [← Bool.not_eq_true, servesB_iff]
        exact fun h => hcar h.1
      have hno : (s.seq.stations[i].car == some c.tag) = false := by simpa using hcar
      rw [hserved, hno]
      simp [Car.confirm]
  have hmarkedStrike : (s.rearConfirmed (c.confirm rear) rear |>.foreignMarked (c.confirm rear)).cars.map Car.strike =
      s.cars.map Car.strike := by
    rw [hleft.cars]
    conv_rhs => rw [hcars]
    rw [List.map_append, List.map_append]
    rfl
  obtain ⟨hmarkedCars, hmarkedBook, hmarkedRear, hreleased, -⟩ := hleft
  rw [foreignObject_eq]
  generalize ((c.confirm rear).marked (fun _ => false)
    fun i => (s.rearConfirmed (c.confirm rear) rear).servesB i (c.confirm rear).tag).missed = m at *
  generalize (s.rearConfirmed (c.confirm rear) rear).foreignMarked (c.confirm rear) = w at *
  have hcause := causeNow_congr hunion.belt hunion.uptime .foreignObject (some c.tag) none none none
  obtain ⟨hraises, hstrikes⟩ := raise_after .foreignObject (some c.tag) none none none (by decide) hunion.halt hmarkedStrike
  have hqueues := (Queues.of_touches hunion).raise .foreignObject (some c.tag) none none none (by decide)
    (by unfold State.noticeRoom at *; simp only [List.length_nil]; omega) hunion.halt
    (hs := [.cars, .book, .pacer, .seq, .gate, .ring, .halt])
  rw [hcause] at hraises hstrikes hqueues
  obtain ⟨before, hlastCar, hbefore⟩ := raise_lastCar (kind := .foreignObject) (tag := some c.tag) (tag2 := none)
    (station := none) (eye := none) hmarkedCars hreleased
  exact {
    car := ⟨before, m, by
      refine hlastCar.trans ?_
      simp [Car.confirm], hbefore, hbits⟩
    released := fun i hcar => hreleased i ((loosens_takeCause w _).car i _ hcar)
    book := by
      rw [(raise_touches w _ _ _ _ _).book, hmarkedBook, hbook]
      rfl
    prevRear := (raise_prevRear w _ _ _ _ _).trans (hmarkedRear.trans hrear)
    raises := hraises
    strikes := hstrikes
    queues := hqueues }

end Sys2Proof.Machine
end

section
/-! O12, settled. -/

set_option Elab.async false

namespace Sys2Proof.Machine

variable {s t u v : State} {i j : StationId} {init : List Car} {c k : Car} {rear : Word}

theorem foreignObject_prevRear (s : State) (c : Car) : (s.foreignObject c).gate.prevRear = s.gate.prevRear := by
  rw [foreignObject_eq, raise_prevRear]
  unfold State.foreignMarked
  dsimp only
  generalize hs1 : (s.onCar c.tag fun k => { k with flags := { k.flags with foreign := true } }) = s1
  have hgate : s1.gate = s.gate := by rw [← hs1]; exact (onCar_touches s _ _).gate
  obtain ⟨-, -, hrear, -⟩ := returnSale_keeps s1 c
  rw [(onCar_touches _ _ _).gate, (releaseCar_releases _ c.tag true).touches.gate, (onCar_touches _ _ _).gate, hrear, hgate]

theorem foreignTest_prevRear (s : State) (tag : Nat) : (s.foreignTest tag).gate.prevRear = s.gate.prevRear := by
  unfold State.foreignTest
  split
  · rfl
  · split
    · rfl
    · split
      · exact foreignObject_prevRear _ _
      · rfl

/-- The last car of the list after a foreign object (R26). -/
def Car.foreignAt (c : Car) (rear : Word) (m : StationSet) : Car :=
  { c.confirm rear with
    sale := none
    plan := 0
    missed := m
    activity := c.served ||| m
    flags := { c.flags with foreign := true, struck := true } }

/-- The car just measured is a foreign object: its records, its sale and its causes (R26, R28). -/
theorem confirmRear_foreign (hlast : s.cars.getLast? = some c) (hlength : c.length = none) (htentative : c.tentative = some rear)
    (hdue : s.track.merge ≤ (s.belt.count - rear).toNat) (hlaw : s.listLaw) (room : s.noticeRoom 2)
    (hshort : (rear - c.stamp).toNat < s.track.minObject) (hengaged : s.engagedLaw) :
    ∃ v, ForeignRaised s v c rear ∧
      ((∀ a, s.cars.dropLast.getLast? = some a → ¬ s.crowds a (c.confirm rear)) → s.confirmRear = v) ∧
      (∀ a, s.cars.dropLast.getLast? = some a → s.crowds a (c.confirm rear) →
        s.confirmRear = v.raise .crowding (some c.tag) (some a.tag) none none) ∧
      s.confirmRear = v.crowdAhead c.tag := by
  have hraised := foreignRaised_foreignObject (rear := rear) hlast hlaw hengaged room
  have hdiffer := rearConfirmed_differ (rear := rear) hlast hlaw.tagsDiffer
  have htest : (s.rearConfirmed (c.confirm rear) rear).foreignTest c.tag =
      (s.rearConfirmed (c.confirm rear) rear).foreignObject (c.confirm rear) :=
    (foreignTest_eq (k := c.confirm rear) rfl hdiffer rfl).trans (if_pos hshort)
  have heq := confirmRear_due hlast hlength htentative hdue hlaw.tagsDiffer
  rw [htest] at heq
  generalize (s.rearConfirmed (c.confirm rear) rear).foreignObject (c.confirm rear) = v at *
  obtain ⟨before, m, hcars, hbefore, -⟩ := hraised.car
  have htags : TagsDiffer v.cars := by
    have hpair (p : Car → Nat × Bool) (hp : ∀ x, (p x).1 = x.tag) (l : List Car) :
        l.map (fun c => c.tag) = (l.map p).map Prod.fst := by
      rw [List.map_map]
      exact List.map_congr_left fun x _ => (hp x).symm
    have hstruck := hraised.strikes
    unfold Strikes at hstruck
    unfold TagsDiffer
    rw [hpair (fun k => (k.tag, k.flags.struck)) fun _ => rfl, hstruck, ← hpair _ fun _ => rfl]
    exact hlaw.tagsDiffer
  have hbelt : v.belt = s.belt := hraised.queues.1.belt
  have htrack : v.track = s.track := hraised.queues.1.track
  obtain ⟨hfree, hcrowded⟩ := crowdAhead_of_core (s := s) (c := c.confirm rear) hcars htags hbefore fun a a' hsame =>
    (crowds_congr hbelt htrack hsame rfl).trans Iff.rfl
  refine ⟨v, hraised, fun h => heq.trans (hfree h), fun a ha h => heq.trans (hcrowded a ha h), heq⟩

/-- What the crowd check keeps of a foreign object. -/
theorem crowdAhead_keeps_foreign (hraised : ForeignRaised s v c rear)
    (hu : u = v ∨ ∃ tag2, u = v.raise .crowding (some c.tag) (some tag2) none none) :
    (∃ m : StationSet, (∀ i : StationId, m.getLsbD i.val =
        (c.missed.getLsbD i.val || s.seq.stations[i].car == some c.tag)) ∧
      u.cars.getLast? = some (c.foreignAt rear m)) ∧
    u.cars.dropLast.map Car.core = s.cars.dropLast.map Car.core ∧
    u.book = v.book := by
  obtain ⟨before, m, hcars, hbefore, hbits⟩ := hraised.car
  rcases hu with rfl | ⟨tag2, rfl⟩
  · refine ⟨⟨m, hbits, ?_⟩, ?_, rfl⟩
    · rw [hcars, List.getLast?_concat]
      rfl
    · rw [hcars, List.dropLast_concat, hbefore]
  · obtain ⟨rest, hlast, hrest⟩ := raise_lastCar (kind := .crowding) (tag := some c.tag) (tag2 := some tag2)
      (station := none) (eye := none) hcars hraised.released
    refine ⟨⟨m, hbits, ?_⟩, ?_, (raise_touches v _ _ _ _ _).book⟩
    · rw [hlast, List.getLast?_concat]
      rfl
    · rw [hlast, List.dropLast_concat, hrest, hbefore]

theorem crowdAhead_after_foreign (hraised : ForeignRaised s v c rear) {tag2 : Nat} :
    Raises v (v.raise .crowding (some c.tag) (some tag2) none none) (s.causeNow .crowding (some c.tag) (some tag2)) ∧
    Strikes s (v.raise .crowding (some c.tag) (some tag2) none none) (s.causeNow .crowding (some c.tag) (some tag2)) := by
  have hcause := causeNow_congr hraised.queues.1.belt hraised.queues.1.uptime .crowding (some c.tag) (some tag2) none none
  rw [← hcause]
  refine ⟨raise_raises _ _ _ _ _ (by decide), hraised.strikes.absorb (takeCause_strikes v _) fun n hn => ?_⟩
  exact .inl (hn.elim id nofun)

/-- Settles O12: the entry front makes its record from the oldest sale; the rear test and the oversize test speak of the last
record of the list, whose tag no other car and, once it is released, no station holds. -/
theorem entryFrontMakesACar : Obligations.EntryFrontMakesACar := by
  refine ⟨fun s h payload he hentering hroom hlaw room => entryFront_makes he hentering hroom hlaw room, fun s hentering => ?_,
    ?_, ?_⟩
  · unfold State.confirmRear State.oversizeTest
    rw [hentering]
    exact ⟨rfl, rfl⟩
  · rintro s c k rear hlast hlength htentative rfl
    refine ⟨confirmRear_early hlast hlength htentative, fun hdue hlaw room => ⟨_, rfl, ?_, fun hlong => ?_, fun hshort hengaged => ?_⟩⟩
    · rw [confirmRear_due hlast hlength htentative hdue hlaw.tagsDiffer, crowdAhead_prevRear]
      exact foreignTest_prevRear _ _
    · obtain ⟨hfree, hcrowded⟩ := confirmRear_long hlast hlength htentative hdue hlaw.tagsDiffer hlong
      exact ⟨hfree, fun a ha h => confirmRear_crowds hlast room (hcrowded a ha h)⟩
    · obtain ⟨v, hraised, hfree, hcrowded, heq⟩ := confirmRear_foreign hlast hlength htentative hdue hlaw room hshort hengaged
      have hu : s.confirmRear = v ∨ ∃ tag2, s.confirmRear = v.raise .crowding (some c.tag) (some tag2) none none := by
        by_cases hcrowds : ∃ a, s.cars.dropLast.getLast? = some a ∧ s.crowds a (c.confirm rear)
        · obtain ⟨a, ha, hcrowds⟩ := hcrowds
          exact .inr ⟨a.tag, hcrowded a ha hcrowds⟩
        · exact .inl (hfree fun a ha h => hcrowds ⟨a, ha, h⟩)
      obtain ⟨hcar, hothers, hbook⟩ := crowdAhead_keeps_foreign hraised hu
      have hsold := hbook.trans hraised.book
      refine ⟨hcar, hothers, fun hsale => by rw [hsold, hsale], fun x hsale => by rw [hsold, hsale], fun h => ?_, fun a ha h => ?_⟩
      · rw [hfree h]
        exact ⟨hraised.raises, hraised.strikes, hraised.queues.sends⟩
      · rw [hcrowded a ha h]
        exact ⟨v, hraised.raises, crowdAhead_after_foreign hraised⟩
  · intro s c hlast hlength
    refine ⟨fun hnot => ?_, fun htentative hunmarked hlong hlaw hengaged room =>
      ⟨_, rfl, oversizeTest_marks hlast hlength htentative hunmarked hlong hlaw hengaged room⟩⟩
    rw [oversizeTest_eq hlast hlength]
    refine if_neg ?_
    rintro ⟨hnone, hflag, hfar⟩
    rcases hnot with h | h | h
    · rw [Option.isNone_iff_eq_none.1 hnone] at h
      cases h
    · rw [hflag] at h
      cases h
    · omega

end Sys2Proof.Machine
end

section
/-! A station order completes (R104), by an acknowledgment, a return window or an arm report (R101): O18 and O23. -/

set_option Elab.async false

namespace Sys2Proof.Machine

variable {s t u : State} {i j : StationId} {o : StationOrder} {a : Action} {st : Station}

/-- The record of a station once its order has ended. -/
def Station.freed (st : Station) : Station := { st with current := none, queued := none, timer := none }

theorem Station.freed_of_queued (h : st.queued = none) : st.freed = { st with current := none, timer := none } := by
  unfold Station.freed
  rw [← h]

theorem stationed_seq (s : State) (i : StationId) (st : Station) :
    (s.stationed i st).seq = { s.seq with stations := s.seq.stations.set i st } := rfl

/-- A phase taken by a station that is POSTED or whose change is no halting check (R112, R147). -/
theorem stationed_phase {p : StationPhase} (h : s.map.table[i].kind ≠ .arm ∨ s.halt.state ≠ .halting) :
    (s.stationed i st).setStationPhase i p = s.stationed i { st with phase := p } := by
  rw [setStationPhase_quiet (s := s.stationed i st) h, stationed_onStation]

/-- The phase a completed order leaves when nothing is pending (R104). -/
def State.phaseLeft (s : State) (i : StationId) (st : Station) : StationPhase :=
  if s.map.table[i].kind = .posted ∨ st.phase = .fault then st.phase else if st.car.isSome then .engaged else .idle

/-- The pending order is dropped when it asks for what was done (R104). -/
theorem completeOrder_dropped (ho : s.seq.stations[i].current = some o)
    (hqueued : s.seq.stations[i].queued = none ∨ s.seq.stations[i].queued = some o.action) :
    s.completeOrder i = if s.map.table[i].kind = .posted ∨ s.seq.stations[i].phase = .fault then
      s.stationed i s.seq.stations[i].freed
    else (s.stationed i s.seq.stations[i].freed).setStationPhase i (if s.seq.stations[i].car.isSome then .engaged else .idle) := by
  have hpending : (s.onStation i fun st => { st with current := none, timer := none }).handlePending i o.action =
      s.stationed i s.seq.stations[i].freed := by
    unfold State.handlePending
    rw [onStation_eq_stationed, stationed_self]
    dsimp only
    rcases hqueued with h | h
    · rw [Station.freed_of_queued h, h]
    · rw [h]
      dsimp only
      rw [if_pos rfl, stationed_onStation]
      rfl
  unfold State.completeOrder
  rw [ho]
  dsimp only
  rw [hpending, stationed_self]
  rfl

theorem completeOrder_quiet (ho : s.seq.stations[i].current = some o)
    (hqueued : s.seq.stations[i].queued = none ∨ s.seq.stations[i].queued = some o.action)
    (hno : s.map.table[i].kind ≠ .arm ∨ s.halt.state ≠ .halting ∨ s.seq.stations[i].phase = .fault) :
    s.completeOrder i = s.stationed i { s.seq.stations[i].freed with phase := s.phaseLeft i s.seq.stations[i] } := by
  rw [completeOrder_dropped ho hqueued]
  unfold State.phaseLeft
  split
  · rfl
  next hphase =>
    rw [not_or] at hphase
    exact stationed_phase (hno.imp_right fun h => h.resolve_right hphase.2)

/-- The pending order is issued when it asks for something else (R104). -/
theorem completeOrder_issued (ho : s.seq.stations[i].current = some o) (hqueued : s.seq.stations[i].queued = some a)
    (ha : a ≠ o.action) :
    s.completeOrder i = (s.stationed i s.seq.stations[i].freed).ordered i a (if a.begins then s.seq.stations[i].car else none)
      { s.seq.stations[i].freed with
        phase := if s.map.table[i].kind = .posted ∨ s.seq.stations[i].phase = .fault then s.seq.stations[i].phase
          else if a.begins then .engaging else .releasing } := by
  have hissued (st : Station) (hst : st.current = none) (car : Option Nat) : (s.stationed i st).requestOrder i a car =
      (s.stationed i st).ordered i a car st := by
    have hfree := requestOrder_free (s := s.stationed i st) (i := i) hst (by rw [stationed_self s i st]; exact hst) a car
    rwa [stationed_stationed] at hfree
  have hpending : (s.onStation i fun st => { st with current := none, timer := none }).handlePending i o.action =
      (s.stationed i s.seq.stations[i].freed).ordered i a (if a.begins then s.seq.stations[i].car else none)
        s.seq.stations[i].freed := by
    unfold State.handlePending
    rw [onStation_eq_stationed, stationed_self]
    dsimp only
    rw [hqueued]
    dsimp only
    rw [if_neg ha, stationed_onStation]
    exact hissued s.seq.stations[i].freed rfl _
  unfold State.completeOrder
  rw [ho]
  dsimp only
  rw [hpending, ordered_self]
  by_cases hphase : s.map.table[i].kind = .posted ∨ s.seq.stations[i].phase = .fault
  · rw [if_pos hphase]
    exact if_pos hphase
  · rw [if_neg hphase]
    refine (if_neg hphase).trans ((setStationPhase_eq (.inr ?_)).trans (ordered_phase _ _ _ _ _ _))
    show (if a.begins then StationPhase.engaging else .releasing) ≠ .idle ∧
      (if a.begins then StationPhase.engaging else .releasing) ≠ .fault
    cases a.begins <;> decide

/-- What an issued order leaves (R102): its number, its frame, its record. -/
theorem ordered_freed (s : State) (i : StationId) (a : Action) (car : Option Nat) (x st : Station) :
    ((s.stationed i x).ordered i a car st).seq = { s.seq with
      stations := s.seq.stations.set i { st with current := some ((s.stationed i x).newOrder i a car) }
      nextNumber := nextInSequence 255 (s.stationed i x).freeOrderNumber } ∧
    ((s.stationed i x).ordered i a car st).ring =
      s.ring.push .order (.order s.map.aliases[i] (s.stationed i x).freeOrderNumber a i.val) ∧
    Touches [.seq, .ring] s ((s.stationed i x).ordered i a car st) := by
  refine ⟨?_, rfl, (((onStation_touches s i _).andThen (takeOrderNumber_touches _) (hs := [.seq])).andThen
    (onStation_touches _ i _) (hs := [.seq])).andThen (pushOrder_touches _ _ _ _ _)⟩
  show ({ s.seq with
    stations := (s.seq.stations.set i x).set i _
    nextNumber := nextInSequence 255 (s.stationed i x).freeOrderNumber } : Sequencer) = _
  rw [Vector.set_set]

end Sys2Proof.Machine
end

section
/-! Station orders complete by a DONE or by the return window (R103, R104): O23. -/

set_option Elab.async false

namespace Sys2Proof.Machine

variable {s t u : State} {i j : StationId} {o : StationOrder} {a : Action} {st : Station} {h : Head} {payload : List Byte}

theorem exec_orderAck_station {r : AckResult} (hr : s.hears h ackPayload payload r) (hi : s.stationAwaitingAck h.order = some i) :
    exec (.orderAck h payload) s = .next (s.stationAck i r).officeKick := by
  obtain ⟨hl, hn, hp⟩ := hr
  show execOrderAck h payload s = _
  unfold execOrderAck
  rw [ringFrame_taken hl hn hp, hi]

theorem stationWaiting_of {w : Wait} (htimer : s.seq.stations[i].timer.isSome = true) (ho : s.seq.stations[i].current = some o)
    (hw : o.wait = w) : s.stationWaiting i.val w = some i := by
  unfold State.stationWaiting
  rw [dif_pos i.isLt]
  exact if_pos ⟨htimer, by
    show (s.seq.stations[i].current.map fun o => o.wait) = some w
    rw [ho, Option.map_some, hw]⟩

theorem exec_orderCompletes {c : Instr} (h : OrderCompletes c s i o) : exec c s = .next (s.completeOrder i).officeKick := by
  obtain ⟨ho, ⟨h, payload, rfl, hr, hi, hseen⟩ | ⟨rfl, hl, htimer, hwait⟩⟩ := h
  · rw [exec_orderAck_station hr hi]
    show Host.Outcome.next (s.stationDone i).officeKick = _
    unfold State.stationDone
    rw [ho]
    dsimp only
    rw [if_neg]
    rintro ⟨harm, hunseen⟩
    rw [hseen harm] at hunseen
    cases hunseen
  · show execReturnWindowExpiry i.val s = _
    unfold execReturnWindowExpiry
    rw [live_of_released hl, stationWaiting_of htimer ho hwait]

/-- What a change of one station's record leaves once the office port has been kicked. -/
theorem stationed_kicked (s : State) (i : StationId) (st : Station) :
    (s.stationed i st).officeKick.seq = { s.seq with stations := s.seq.stations.set i st } ∧
    Quiet [.seq] s (s.stationed i st).officeKick :=
  ⟨(SameButOffice.kick (s.stationed i st)).seq, (Queues.of_touches (onStation_touches s i _)).kick⟩

/-- What an issued order leaves once the office port has been kicked. -/
theorem ordered_kicked (s : State) (i : StationId) (a : Action) (car : Option Nat) (x st : Station) :
    ((s.stationed i x).ordered i a car st).officeKick.seq = { s.seq with
      stations := s.seq.stations.set i { st with current := some ((s.stationed i x).newOrder i a car) }
      nextNumber := nextInSequence 255 (s.stationed i x).freeOrderNumber } ∧
    ((s.stationed i x).ordered i a car st).officeKick.ring =
      s.ring.push .order (.order s.map.aliases[i] (s.stationed i x).freeOrderNumber a i.val) ∧
    Quiet [.seq, .ring] s ((s.stationed i x).ordered i a car st).officeKick := by
  obtain ⟨hseq, hring, htouches⟩ := ordered_freed s i a car x st
  have hsame := SameButOffice.kick ((s.stationed i x).ordered i a car st)
  exact ⟨hsame.seq.trans hseq, hsame.ring.trans hring, (Queues.of_touches htouches).kick⟩

/-- Settles O23: a completed order leaves its station as the pending order says, by the two equations of completeOrder. -/
theorem stationOrderCompletes : Obligations.StationOrderCompletes := by
  intro s
  refine ⟨fun c i o h hhalting => ⟨_, exec_orderCompletes h, fun hqueued => ?_, fun a hqueued ha => ?_⟩,
    fun h payload i o hr hi ho harm hseen => ?_⟩
  · rw [completeOrder_quiet h.1 hqueued (.inr (.inl hhalting))]
    exact stationed_kicked s i _
  · rw [completeOrder_issued h.1 hqueued ha]
    obtain ⟨hseq, hring, hquiet⟩ := ordered_kicked s i a (if a.begins then s.seq.stations[i].car else none)
      s.seq.stations[i].freed { s.seq.stations[i].freed with
        phase := if s.map.table[i].kind = .posted ∨ s.seq.stations[i].phase = .fault then s.seq.stations[i].phase
          else if a.begins then .engaging else .releasing }
    exact ⟨_, rfl, by rw [hseq]; rfl, by rw [hseq]; rfl, hring, hquiet⟩
  · refine ⟨_, exec_orderAck_station hr hi, ?_⟩
    have hwaits : s.stationDone i = s.stationed i { s.seq.stations[i] with
        current := some { o with wait := .position }, timer := some s.map.table[i].busy } := by
      unfold State.stationDone
      rw [ho]
      exact if_pos ⟨harm, hseen⟩
    show (s.stationDone i).officeKick.seq = _ ∧ Quiet [.seq] s (s.stationDone i).officeKick
    rw [hwaits]
    exact stationed_kicked s i _

end Sys2Proof.Machine
end

section
/-! Arm reports (R101, R110): O18. -/

set_option Elab.async false

namespace Sys2Proof.Machine

variable {s t u : State} {i j : StationId} {o : StationOrder} {a : Action} {st : Station} {h : Head} {payload : List Byte}
  {position : ArmPosition} {load : Nat}

/-- The record of an arm station with the report in it (R101). -/
def Station.reported (st : Station) (position : ArmPosition) (load : Nat) : Station := { st with position := position, load := load }

theorem exec_armState_other (hr : s.hears h armPayload payload (position, load)) (hi : s.armOfNode h.src = none) :
    exec (.armState h payload) s = .next s.officeKick := by
  obtain ⟨hl, hn, hp⟩ := hr
  show execArmState h payload s = _
  unfold execArmState
  rw [ringFrame_taken hl hn hp, hi]

theorem exec_armState (hr : s.hears h armPayload payload (position, load)) (hi : s.armOfNode h.src = some i) :
    exec (.armState h payload) s = .next (s.armReport i position load).officeKick := by
  obtain ⟨hl, hn, hp⟩ := hr
  show execArmState h payload s = _
  unfold execArmState
  rw [ringFrame_taken hl hn hp, hi]

theorem kind_of_armOfNode {node : Nat} (hi : s.armOfNode node = some i) : s.map.table[i].kind = .arm := by
  unfold State.armOfNode at hi
  have hfound := List.find?_some hi
  simp only [Bool.and_eq_true, beq_iff_eq] at hfound
  exact hfound.1

/-- A report whose load does not rise above the limit (R110). -/
theorem armReport_light (hload : load ≤ s.map.table[i].load ∨ s.map.table[i].load < s.seq.stations[i].load) :
    s.armReport i position load = (s.stationed i (s.seq.stations[i].reported position load)).confirmPosition i position := by
  unfold State.armReport
  dsimp only
  rw [if_neg]
  · rfl
  · rw [Bool.and_eq_true, decide_eq_true_eq, Bool.not_eq_true', decide_eq_false_iff_not]
    rintro ⟨hrises, hwas⟩
    omega

theorem armReport_strikes (hload : s.map.table[i].load < load) (hwas : s.seq.stations[i].load ≤ s.map.table[i].load) :
    s.armReport i position load = ((s.stationed i (s.seq.stations[i].reported position load)).confirmPosition i position).raise
      .armStrike (tag := s.seq.stations[i].car) (station := some i.val) := by
  unfold State.armReport
  dsimp only
  rw [if_pos]
  · rfl
  · rw [Bool.and_eq_true, decide_eq_true_eq, Bool.not_eq_true', decide_eq_false_iff_not]
    omega

/-- A report that gives no order the position it waits for (R101). -/
theorem confirmPosition_unasked (hst : st.current = s.seq.stations[i].current)
    (hnot : ∀ o, s.seq.stations[i].current = some o →
      o.action.asks ≠ some position ∨ (o.wait = .ack ∧ o.transmitted = false)) :
    (s.stationed i st).confirmPosition i position = s.stationed i st := by
  unfold State.confirmPosition
  rw [stationed_self s i st, hst]
  cases ho : s.seq.stations[i].current with
  | none => rfl
  | some o =>
    dsimp only
    rcases hnot o ho with hasks | ⟨hwait, hsent⟩
    · exact if_neg hasks
    · rw [hwait, hsent]
      simp

theorem confirmPosition_seen (ho : st.current = some o) (hasks : o.action.asks = some position) (hwait : o.wait = .ack)
    (hsent : o.transmitted = true) :
    (s.stationed i st).confirmPosition i position =
      s.stationed i { st with current := some { o with positionSeen := true } } := by
  unfold State.confirmPosition
  rw [stationed_self s i st, ho]
  dsimp only
  rw [if_pos hasks, hwait]
  dsimp only
  rw [if_pos hsent, stationed_onStation]

theorem confirmPosition_completes (ho : st.current = some o) (hasks : o.action.asks = some position) (hwait : o.wait = .position) :
    (s.stationed i st).confirmPosition i position = (s.stationed i st).completeOrder i := by
  unfold State.confirmPosition
  rw [stationed_self s i st, ho]
  dsimp only
  rw [if_pos hasks, hwait]

/-- A phase taken by an arm station that settles the sequencer (R112, R147). -/
theorem stationed_phase_settles {p : StationPhase} (harm : s.map.table[i].kind = .arm) (hhalting : s.halt.state = .halting)
    (hwatch : s.pacer.watch = .met) (hphase : st.phase ≠ p) (hsettled : (s.stationed i { st with phase := p }).settled = true) :
    (s.stationed i st).setStationPhase i p = (s.stationed i { st with phase := p }).onHalt fun b => { b with state := .halted } := by
  unfold State.setStationPhase
  dsimp only
  rw [stationed_onStation, if_pos ⟨harm, by rw [stationed_self s i st]; exact hphase⟩, haltingCheck_eq]
  exact if_pos ⟨hhalting, hsettled, hwatch⟩

/-- A phase leaves the rest of the sequencer as it is. -/
theorem stationed_phase_seq {p : StationPhase} :
    ((s.stationed i st).setStationPhase i p).seq = (s.stationed i { st with phase := p }).seq := by
  unfold State.setStationPhase
  dsimp only
  rw [stationed_onStation, haltingCheck_eq]
  split
  · split <;> rfl
  · rfl

theorem reported_freed (st : Station) (position : ArmPosition) (load : Nat) :
    (st.reported position load).freed =
      { st with position := position, load := load, current := none, queued := none, timer := none } := rfl

end Sys2Proof.Machine
end

section
/-! Arm reports (R101, R110), settled: O18. -/

set_option Elab.async false

namespace Sys2Proof.Machine

variable {s t u : State} {i j : StationId} {o : StationOrder} {a : Action} {st : Station} {h : Head} {payload : List Byte}
  {position : ArmPosition} {load : Nat}

theorem stationed_dropped (ho : st.current = some o) (hqueued : st.queued = none ∨ st.queued = some o.action) :
    (s.stationed i st).completeOrder i = if s.map.table[i].kind = .posted ∨ st.phase = .fault then s.stationed i st.freed
    else (s.stationed i st.freed).setStationPhase i (if st.car.isSome then .engaged else .idle) := by
  have hdropped := completeOrder_dropped (s := s.stationed i st) (i := i) (o := o) (by rw [stationed_self s i st]; exact ho)
    (by rw [stationed_self s i st]; exact hqueued)
  rw [stationed_self s i st, stationed_stationed] at hdropped
  exact hdropped

theorem stationed_completes (ho : st.current = some o) (hqueued : st.queued = none ∨ st.queued = some o.action)
    (hno : s.map.table[i].kind ≠ .arm ∨ s.halt.state ≠ .halting ∨ st.phase = .fault) :
    (s.stationed i st).completeOrder i = s.stationed i { st.freed with phase := s.phaseLeft i st } := by
  have hquiet := completeOrder_quiet (s := s.stationed i st) (i := i) (o := o) (by rw [stationed_self s i st]; exact ho)
    (by rw [stationed_self s i st]; exact hqueued) (by rw [stationed_self s i st]; exact hno)
  rw [stationed_self s i st, stationed_stationed] at hquiet
  exact hquiet

theorem stationed_issues (ho : st.current = some o) (hqueued : st.queued = some a) (ha : a ≠ o.action) :
    (s.stationed i st).completeOrder i = (s.stationed i st.freed).ordered i a (if a.begins then st.car else none)
      { st.freed with
        phase := if s.map.table[i].kind = .posted ∨ st.phase = .fault then st.phase
          else if a.begins then .engaging else .releasing } := by
  have hissued := completeOrder_issued (s := s.stationed i st) (i := i) (o := o) (by rw [stationed_self s i st]; exact ho)
    (by rw [stationed_self s i st]; exact hqueued) ha
  rw [stationed_self s i st, stationed_stationed] at hissued
  exact hissued

theorem phaseLeft_of_arm (harm : s.map.table[i].kind = .arm) (st : Station) :
    s.phaseLeft i st = if st.phase = .fault then .fault else if st.car.isSome then .engaged else .idle := by
  unfold State.phaseLeft
  rw [harm]
  by_cases hfault : st.phase = .fault
  · rw [if_pos (.inr hfault), if_pos hfault, hfault]
  · rw [if_neg (not_or.2 ⟨by decide, hfault⟩), if_neg hfault]

/-- What a settled HALTING leaves once the office port has been kicked (R147). -/
theorem halted_kicked (s : State) (i : StationId) (st : Station) :
    ((s.stationed i st).onHalt fun b => { b with state := .halted }).officeKick.halt = { s.halt with state := .halted } ∧
    Quiet [.seq, .halt] s ((s.stationed i st).onHalt fun b => { b with state := .halted }).officeKick :=
  ⟨(SameButOffice.kick _).halt,
    (Queues.of_touches ((onStation_touches s i _).andThen (touches_onHalt _ _) (hs := [.seq, .halt]))).kick⟩

/-- An order of an arm completes with nothing left to issue (R104). -/
theorem stationed_ends (harm : s.map.table[i].kind = .arm) (ho : st.current = some o) (hqueued : st.queued = none)
    (hphase : st.phase ≠ .fault) (heq : t = ((s.stationed i st).completeOrder i).officeKick) :
    t.seq = { s.seq with stations := s.seq.stations.set i { st with
      current := none, timer := none, phase := if st.car.isSome then .engaged else .idle } } ∧
    (s.halt.state ≠ .halting → Quiet [.seq] s t) ∧
    (s.halt.state = .halting → s.pacer.watch = .met → t.settled = true → st.phase = .releasing →
      t.halt = { s.halt with state := .halted } ∧ Quiet [.seq, .halt] s t) := by
  have hdropped := stationed_dropped (s := s) (i := i) ho (.inl hqueued)
  rw [if_neg (not_or.2 ⟨by rw [harm]; decide, hphase⟩), Station.freed_of_queued hqueued] at hdropped
  have hbusy : (if st.car.isSome then StationPhase.engaged else .idle) ≠ .releasing := by
    split <;> decide
  generalize (if st.car.isSome then StationPhase.engaged else .idle) = p at *
  rw [hdropped] at heq
  have hseq := (SameButOffice.kick ((s.stationed i { st with current := none, timer := none }).setStationPhase i p)).seq
  rw [← heq, stationed_phase_seq] at hseq
  refine ⟨hseq, fun hno => ?_, fun hhalting hwatch hsettled hreleasing => ?_⟩
  · rw [heq, stationed_phase (.inr hno)]
    exact (stationed_kicked s i _).2
  · rw [heq, stationed_phase_settles harm hhalting hwatch]
    · exact halted_kicked s i _
    · show st.phase ≠ p
      rw [hreleasing]
      exact hbusy.symm
    · have hmap : t.map = s.map := by
        rw [heq]
        exact (SameButOffice.kick _).map.trans ((setStationPhase_touches _ _ _).map.trans (onStation_touches s i _).map)
      unfold State.settled at hsettled ⊢
      rw [hmap, hseq] at hsettled
      exact hsettled

theorem Touches.station {fs : List Field} (h : Touches fs s t) (j : StationId) (hseq : Field.seq ∉ fs := by decide) :
    t.seq.stations[j] = s.seq.stations[j] := by rw [h.seq hseq]

/-- A halt entry halts every station (R145). -/
theorem halted_station {fs : List Field} (h : Touches fs s t) (hu : u.seq = t.haltActions.seq) (j : StationId)
    (hseq : Field.seq ∉ fs := by decide) (hmap : Field.map ∉ fs := by decide) :
    u.seq.stations[j] = s.seq.stations[j].halted s.map.table[j].kind s.map.aliases[j] s.map.table[j].busy := by
  have hstation := haltActions_station (s := t) j
  rwa [h.station j hseq, h.map hmap, ← hu] at hstation

/-- A cause leaves a station as it is, or halts it (R145). -/
theorem takeCause_station (s : State) (x : Cause) (j : StationId) :
    (s.takeCause x).seq.stations[j] = s.seq.stations[j] ∨
    (s.takeCause x).seq.stations[j] =
      s.seq.stations[j].halted s.map.table[j].kind s.map.aliases[j] s.map.table[j].busy := by
  have hmarked := markStruck_touches s x
  have hadded := hmarked.andThen (addSecondary_touches _ x) (hs := [.cars, .halt, .office])
  unfold State.takeCause
  dsimp only
  split
  · split
    · exact .inl (hmarked.station j)
    · refine .inr ?_
      unfold State.openBy
      rw [enterHalting_eq]
      exact halted_station (hmarked.andThen (newIncident_touches _ x) (hs := [.cars, .halt]))
        ((touches_onHalt _ _).seq.trans (notify_touches _ _).seq) j
  · unfold State.secondaryBy
    dsimp only
    split
    · refine .inr ?_
      rw [enterHalting_eq]
      exact halted_station (hadded.andThen (touches_onHalt _ _) (hs := [.cars, .halt, .office])) (touches_onHalt _ _).seq j
    · exact .inl (hadded.station j)

/-- A halt keeps what an arm station last reported (R101). -/
theorem Station.halted_report (st : Station) (kind : StationKind) (node busy : Nat) :
    (st.halted kind node busy).position = st.position ∧ (st.halted kind node busy).load = st.load := by
  unfold Station.halted
  split
  · exact ⟨rfl, rfl⟩
  · split <;> exact ⟨rfl, rfl⟩

theorem takeCause_report (s : State) (x : Cause) (j : StationId) :
    (s.takeCause x).seq.stations[j].position = s.seq.stations[j].position ∧
    (s.takeCause x).seq.stations[j].load = s.seq.stations[j].load := by
  rcases takeCause_station s x j with h | h
  · rw [h]
    exact ⟨rfl, rfl⟩
  · rw [h]
    exact Station.halted_report _ _ _ _

/-- A load that rises above its limit is a cause, after the record of the report (R110; log 6). -/
theorem armReport_raises (hrises : s.map.table[i].load < load) (hwas : s.seq.stations[i].load ≤ s.map.table[i].load)
    (hnot : ∀ o, s.seq.stations[i].current = some o →
      o.action.asks ≠ some position ∨ (o.wait = .ack ∧ o.transmitted = false)) (room : s.noticeRoom 1)
    (heq : t = (s.armReport i position load).officeKick) :
    t.seq.stations[i].position = position ∧ t.seq.stations[i].load = load ∧
    Raises s t (s.causeNow .armStrike (tag := s.seq.stations[i].car) (station := some i.val)) ∧
    Strikes s t (s.causeNow .armStrike (tag := s.seq.stations[i].car) (station := some i.val)) ∧
    Sends [.cars, .pacer, .seq, .gate, .ring, .halt] s t []
      (s.causeNotices (s.causeNow .armStrike (tag := s.seq.stations[i].car) (station := some i.val))) := by
  have hrecorded := onStation_touches s i fun _ => s.seq.stations[i].reported position load
  rw [armReport_strikes hrises hwas, confirmPosition_unasked (st := s.seq.stations[i].reported position load) rfl hnot] at heq
  obtain ⟨hraises, hstrikes⟩ := raise_after (u := s.stationed i (s.seq.stations[i].reported position load)) .armStrike
    s.seq.stations[i].car none (some i.val) none (by decide) hrecorded.halt rfl
  have hqueues := (Queues.of_touches hrecorded).raise .armStrike s.seq.stations[i].car none (some i.val) none (by decide) room
    hrecorded.halt (hs := [.cars, .pacer, .seq, .gate, .ring, .halt])
  have hsame := SameButOffice.kick ((s.stationed i (s.seq.stations[i].reported position load)).raise .armStrike
    s.seq.stations[i].car none (some i.val))
  obtain ⟨hposition, hload⟩ := takeCause_report (s.stationed i (s.seq.stations[i].reported position load))
    ((s.stationed i (s.seq.stations[i].reported position load)).causeNow .armStrike s.seq.stations[i].car none (some i.val)) i
  rw [stationed_self s i] at hposition hload
  rw [heq]
  exact ⟨by rw [hsame.seq]; exact hposition, by rw [hsame.seq]; exact hload, hraises.kick hsame, hstrikes.of_cars hsame.cars,
    hqueues.kick⟩

/-- The order that an arm station issues after a completion (R102, R104). -/
theorem issued_kicked (harm : s.map.table[i].kind = .arm)
    (heq : t = ((s.stationed i st.freed).ordered i a (if a.begins then st.car else none) { st.freed with
      phase := if s.map.table[i].kind = .posted ∨ st.phase = .fault then st.phase
        else if a.begins then .engaging else .releasing }).officeKick) :
    ∃ number, number = (s.onStation i fun _ => st.freed).freeOrderNumber ∧
      t.seq.nextNumber = nextInSequence 255 number ∧
      t.seq.stations = s.seq.stations.set i { st with
        current := some { action := a, number := some number, car := if a.begins then st.car else none
                          transmitted := false, wait := .ack, positionSeen := false }
        queued := none
        timer := none
        phase := if st.phase = .fault then .fault else if a.begins then .engaging else .releasing } ∧
      t.ring = s.ring.push .order (.order s.map.aliases[i] number a i.val) ∧ Quiet [.seq, .ring] s t := by
  obtain ⟨hseq, hring, hquiet⟩ := ordered_kicked s i a (if a.begins then st.car else none) st.freed { st.freed with
    phase := if s.map.table[i].kind = .posted ∨ st.phase = .fault then st.phase
      else if a.begins then .engaging else .releasing }
  rw [← heq] at hseq hring hquiet
  have hphase : (if s.map.table[i].kind = .posted ∨ st.phase = .fault then st.phase
      else if a.begins then StationPhase.engaging else .releasing) =
      if st.phase = .fault then .fault else if a.begins then .engaging else .releasing := by
    rw [harm]
    by_cases hfault : st.phase = .fault
    · rw [if_pos (.inr hfault), if_pos hfault, hfault]
    · rw [if_neg (not_or.2 ⟨by decide, hfault⟩), if_neg hfault]
  have hwait : s.map.table[i].kind.firstWait = .ack := by rw [harm]; rfl
  refine ⟨_, rfl, by rw [hseq]; rfl, ?_, hring, hquiet⟩
  rw [hseq, hphase, ← hwait]
  rfl

/-- Settles O18: a report records position and load, then confirms the order that waits for it, then strikes (log 6). -/
theorem armReportsAreTaken : Obligations.ArmReportsAreTaken := by
  intro s h payload position load hr
  refine ⟨fun hi => ⟨_, exec_armState_other hr hi, (Queues.refl s).kick⟩, fun i hi hload => ?_,
    fun i hi hrises hwas hnot room => ?_⟩
  · have harm := kind_of_armOfNode hi
    refine ⟨_, exec_armState hr hi, fun hnot => ?_, fun o ho hasks => ⟨fun hwait hsent => ?_, fun hwait hqueued hfault => ?_,
      fun a hwait hqueued ha hphase => ?_, fun hwait hqueued hphase hhalting => ?_, fun hwait hqueued hphase => ?_⟩⟩
    all_goals rw [armReport_light hload]
    · rw [confirmPosition_unasked (st := s.seq.stations[i].reported position load) rfl hnot]
      exact stationed_kicked s i _
    · rw [confirmPosition_seen (st := s.seq.stations[i].reported position load) ho hasks hwait hsent]
      exact stationed_kicked s i _
    · rw [confirmPosition_completes (st := s.seq.stations[i].reported position load) ho hasks hwait,
        stationed_completes (st := s.seq.stations[i].reported position load) ho hqueued (.inr (.inr hfault)), phaseLeft_of_arm harm,
        if_pos (show (s.seq.stations[i].reported position load).phase = .fault from hfault), ← hfault]
      exact stationed_kicked s i _
    · rw [confirmPosition_completes (st := s.seq.stations[i].reported position load) ho hasks hwait,
        stationed_issues (st := s.seq.stations[i].reported position load) ho hqueued ha]
      exact issued_kicked (st := s.seq.stations[i].reported position load) harm rfl
    · rw [confirmPosition_completes (st := s.seq.stations[i].reported position load) ho hasks hwait,
        stationed_completes (st := s.seq.stations[i].reported position load) ho (.inr hqueued) (.inr (.inl hhalting)),
        phaseLeft_of_arm harm, if_neg (show ¬ (s.seq.stations[i].reported position load).phase = .fault from hphase)]
      exact stationed_kicked s i _
    · rw [confirmPosition_completes (st := s.seq.stations[i].reported position load) ho hasks hwait]
      exact stationed_ends (st := s.seq.stations[i].reported position load) harm ho hqueued hphase rfl
  · exact ⟨_, exec_armState hr hi, armReport_raises hrises hwas hnot room rfl⟩

end Sys2Proof.Machine
end

section
/-! A station order fails (R105, R106): O24. -/

set_option Elab.async false

namespace Sys2Proof.Machine

variable {s t u : State} {i j : StationId} {o : StationOrder} {a : Action} {st : Station} {h : Head} {payload : List Byte}
  {reason : Reason}

theorem exec_orderFails {c : Instr} (h : OrderFails c s i o reason) : exec c s = .next (s.failOrder i reason).officeKick := by
  obtain ⟨ho, ⟨h, payload, rfl, hr, hi, rfl⟩ | ⟨rfl, hl, htimer, hwait, rfl⟩ | ⟨rfl, hl, htimer, hwait, rfl⟩ |
    ⟨h, payload, rfl, hl, hreturned, hform, hi, rfl⟩⟩ := h
  · exact exec_orderAck_station hr hi
  · show execOrderAckTimeout i.val s = _
    unfold execOrderAckTimeout
    rw [live_of_released hl, stationWaiting_of htimer ho hwait]
  · show execPositionTimeout i.val s = _
    unfold execPositionTimeout
    rw [live_of_released hl, stationWaiting_of htimer ho hwait]
  · show execReturnedOrder h payload s = _
    unfold execReturnedOrder
    rw [ringFrame_taken hl hreturned (x := ()) (if_pos hform), hi]

/-- The record of a station whose order has failed, before its phase (R105, R106). -/
def Station.dropped (st : Station) : Station := { st with car := none, current := none, queued := none, timer := none }

/-- The state in which the engaged car of a station has its service missed (R96). -/
def State.missedAt (s : State) (i : StationId) : State :=
  match s.seq.stations[i].car with
  | none => s
  | some tag => s.recordMissed tag i

theorem missedAt_touches (s : State) (i : StationId) : Touches [.cars] s (s.missedAt i) := by
  unfold State.missedAt
  split
  · exact Touches.refl _ s
  · exact recordMissed_touches s _ i

theorem missedAt_cars (s : State) (i : StationId) : (s.missedAt i).cars = match s.seq.stations[i].car with
    | none => s.cars
    | some tag => s.cars.map fun k =>
        if k.tag = tag then (if k.unsettled i then { k with missed := k.missed ||| stationBit i } else k) else k := by
  unfold State.missedAt
  cases s.seq.stations[i].car <;> rfl

theorem dropOrder_eq (s : State) (i : StationId) : s.dropOrder i = (s.missedAt i).stationed i s.seq.stations[i].dropped := by
  unfold State.dropOrder State.missEngaged State.missedAt Station.dropped
  cases hcar : s.seq.stations[i].car with
  | none =>
    dsimp only
    rw [onStation_eq_stationed, hcar]
  | some tag =>
    dsimp only
    rw [onStation_onStation, onStation_eq_stationed, (recordMissed_touches s tag i).station]

/-- The notice of a failed order (R105, R106). -/
def State.faultNotice (s : State) (i : StationId) (o : StationOrder) (reason : Reason) : Notice :=
  .stationFault i.val o.action reason s.seq.stations[i].car

theorem failOrder_other (ho : s.seq.stations[i].current = some o) (hkind : s.map.table[i].kind ≠ .arm) :
    s.failOrder i reason = ((s.missedAt i).stationed i { s.seq.stations[i].dropped with phase := .fault }).notify
      (s.faultNotice i o reason) := by
  have hmissed := missedAt_touches s i
  have hphase := stationed_phase (s := s.missedAt i) (i := i) (st := s.seq.stations[i].dropped) (p := .fault)
    (.inl (by rw [hmissed.map]; exact hkind))
  unfold State.failOrder
  rw [ho]
  simp only [hkind, decide_false, Bool.and_false, Bool.false_eq_true, if_false]
  rw [dropOrder_eq, hphase]
  rfl

/-- A failed IN of an ARM station sends it OUT (R105). -/
theorem failOrder_in (ho : s.seq.stations[i].current = some o) (harm : s.map.table[i].kind = .arm)
    (hbegins : o.action.begins = true) :
    s.failOrder i reason = ((((s.missedAt i).stationed i s.seq.stations[i].dropped).ordered i .out o.car
      s.seq.stations[i].dropped).setStationPhase i .fault).notify (s.faultNotice i o reason) := by
  have hissued := requestOrder_free (s := (s.missedAt i).stationed i s.seq.stations[i].dropped) (i := i)
    (st := s.seq.stations[i].dropped) rfl (by rw [stationed_self (s.missedAt i) i]; rfl) .out o.car
  rw [stationed_stationed] at hissued
  unfold State.failOrder
  rw [ho]
  simp only [harm, hbegins, decide_true, Bool.and_true, Bool.not_true, Bool.false_eq_true, if_false, if_true]
  rw [dropOrder_eq, hissued]
  rfl

/-- A failed OUT raises ARM_STUCK (R106). -/
theorem failOrder_out (ho : s.seq.stations[i].current = some o) (harm : s.map.table[i].kind = .arm)
    (hbegins : o.action.begins = false) :
    s.failOrder i reason = ((((s.missedAt i).stationed i s.seq.stations[i].dropped).setStationPhase i .fault).notify
      (s.faultNotice i o reason)).raise .armStuck
        (tag := stuckTag ((((s.missedAt i).stationed i s.seq.stations[i].dropped).setStationPhase i .fault).notify
          (s.faultNotice i o reason)).cars s.seq.stations[i].car o.car) (station := some i.val) := by
  unfold State.failOrder
  rw [ho]
  simp only [harm, hbegins, decide_true, Bool.and_true, Bool.not_false, Bool.false_eq_true, if_false, if_true]
  rw [dropOrder_eq]
  rfl

/-! ## The phase FAULT in HALTING (R112, R147) -/

/-- A halting check leaves HALTING or changes nothing. -/
def State.maySettle (s t : State) : Prop :=
  t.halt = s.halt ∨ (s.halt.state = .halting ∧ t.halt = { s.halt with state := .halted })

theorem setStationPhase_parts (s : State) (i : StationId) (p : StationPhase) :
    s.maySettle (s.setStationPhase i p) ∧ Touches [.halt, .seq] s (s.setStationPhase i p) ∧
    (s.setStationPhase i p).seq = (s.onStation i fun st => { st with phase := p }).seq ∧
    (s.map.table[i].kind ≠ .arm ∨ s.halt.state ≠ .halting → (s.setStationPhase i p).halt = s.halt) := by
  have hmoved := onStation_touches s i fun st => { st with phase := p }
  unfold State.setStationPhase
  dsimp only
  rw [haltingCheck_eq]
  split
  next harm =>
    split
    next hmet => exact ⟨.inr ⟨hmet.1, rfl⟩, hmoved.andThen (touches_onHalt _ _), rfl,
      fun h => (h.elim (fun h => h harm.1) fun h => h hmet.1).elim⟩
    next => exact ⟨.inl rfl, hmoved.mono (by decide), rfl, fun _ => rfl⟩
  · exact ⟨.inl rfl, hmoved.mono (by decide), rfl, fun _ => rfl⟩

theorem Raises.of_settled {x : Cause} (h : s.maySettle u) (k : Raises u t x) : Raises s t x := by
  rcases h with h | ⟨hhalting, h⟩
  · exact k.of_halt h
  · have hstate : u.halt.state = .halted := by rw [h]
    have hlog : u.halt.log = s.halt.log := by rw [h]
    unfold Raises at *
    rw [if_neg (by rw [hstate]; decide), hlog, hstate] at k
    rw [if_neg (by rw [hhalting]; decide)]
    obtain ⟨hadded, hhalted⟩ := k
    exact ⟨hadded, .inr ⟨by rw [hhalting]; decide, .inr (hhalted.resolve_right fun h => h.1 rfl)⟩⟩

theorem causeNotices_of_settled {x : Cause} (h : s.maySettle u) : u.causeNotices x = s.causeNotices x := by
  rcases h with h | ⟨hhalting, h⟩
  · exact causeNotices_of_halt h
  · unfold State.causeNotices State.openIncident
    rw [h, hhalting]
    rfl

theorem missedAt_strike (s : State) (i : StationId) : (s.missedAt i).cars.map Car.strike = s.cars.map Car.strike := by
  unfold State.missedAt
  split
  · rfl
  · exact onCar_strike s _ fun c => by unfold Car.recordMissed; split <;> rfl

/-- The car that ARM_STUCK names depends on the tags of the list alone (R106). -/
theorem stuckTag_congr {cars before : List Car} (h : cars.map Car.strike = before.map Car.strike) (dropped orderCar : Option Nat) :
    stuckTag cars dropped orderCar = stuckTag before dropped orderCar := by
  have hfound (l : List Car) (tag : Nat) : (carByTag l tag).isSome = (l.map Car.strike).any fun x => x.1 == tag := by
    unfold carByTag
    rw [Bool.eq_iff_iff, List.find?_isSome, List.any_eq_true]
    simp [Car.strike]
  unfold stuckTag
  simp only [hfound, h]

/-! ## The obligation -/

/-- The state of a failed order before its notice (R105, R106). -/
structure Failed (s v : State) (i : StationId) : Prop where
  phase : v.seq.stations[i].phase = .fault
  car : v.seq.stations[i].car = none
  queued : v.seq.stations[i].queued = none
  cars : v.cars = (s.missedAt i).cars
  halt : s.maySettle v
  office : Touches [.cars, .halt, .seq, .ring] s v
  unhalted : s.map.table[i].kind ≠ .arm ∨ s.halt.state ≠ .halting → v.halt = s.halt

theorem failed_of (htouches : Touches [.cars, .seq, .ring] s u) (hcar : u.seq.stations[i].car = none)
    (hqueued : u.seq.stations[i].queued = none) (hcars : u.cars = (s.missedAt i).cars) :
    Failed s (u.setStationPhase i .fault) i := by
  obtain ⟨hsettles, hphase, hseq, hunhalted⟩ := setStationPhase_parts u i .fault
  have hafter : (u.setStationPhase i .fault).seq.stations[i] = { u.seq.stations[i] with phase := .fault } := by
    rw [hseq, onStation_self]
  exact {
    phase := by rw [hafter]
    car := by rw [hafter, hcar]
    queued := by rw [hafter, hqueued]
    cars := by rw [hphase.cars, hcars]
    halt := by
      unfold State.maySettle at *
      rwa [htouches.halt] at hsettles
    office := htouches.andThen hphase
    unhalted := by
      rwa [htouches.halt, htouches.map] at hunhalted }

theorem dropped_touches (s : State) (i : StationId) :
    Touches [.cars, .seq] s ((s.missedAt i).stationed i s.seq.stations[i].dropped) :=
  (missedAt_touches s i).andThen (onStation_touches _ i _)

theorem failed_dropped (s : State) (i : StationId) :
    Failed s (((s.missedAt i).stationed i s.seq.stations[i].dropped).setStationPhase i .fault) i := by
  have hstation := stationed_self (s.missedAt i) i s.seq.stations[i].dropped
  exact failed_of ((dropped_touches s i).mono (by decide)) (by rw [hstation]; rfl) (by rw [hstation]; rfl) rfl

/-- The OUT of an arm whose IN has failed (R105). -/
def State.sentOut (s : State) (i : StationId) (o : StationOrder) : State :=
  ((s.missedAt i).stationed i s.seq.stations[i].dropped).ordered i .out o.car s.seq.stations[i].dropped

theorem sentOut_parts (s : State) (i : StationId) (o : StationOrder) (harm : s.map.table[i].kind = .arm) :
    (s.sentOut i o).seq.stations[i] = { s.seq.stations[i].dropped with
      current := some { action := .out, car := o.car, transmitted := false, wait := .ack, positionSeen := false
                        number := some (s.stationed i s.seq.stations[i].dropped).freeOrderNumber } } ∧
    (s.sentOut i o).ring = s.ring.push .order (.order s.map.aliases[i]
      (s.stationed i s.seq.stations[i].dropped).freeOrderNumber .out i.val) ∧
    (s.sentOut i o).cars = (s.missedAt i).cars ∧
    Touches [.cars, .seq, .ring] s (s.sentOut i o) := by
  have hmissed := missedAt_touches s i
  obtain ⟨hseq, hring, htouches⟩ := ordered_freed (s.missedAt i) i .out o.car s.seq.stations[i].dropped s.seq.stations[i].dropped
  have hnumber : ((s.missedAt i).stationed i s.seq.stations[i].dropped).freeOrderNumber =
      (s.stationed i s.seq.stations[i].dropped).freeOrderNumber := by
    refine freeOrderNumber_of_touches ?_
    intro g hg
    cases g with
    | cars => exact absurd (by decide) hg
    | seq =>
      show ((s.missedAt i).stationed i s.seq.stations[i].dropped).seq = (s.stationed i s.seq.stations[i].dropped).seq
      rw [stationed_seq, stationed_seq, hmissed.seq]
    | _ => exact hmissed _ hg
  have hself := ordered_self ((s.missedAt i).stationed i s.seq.stations[i].dropped) i .out o.car s.seq.stations[i].dropped
  rw [hnumber, hmissed.ring, hmissed.map] at hring
  refine ⟨hself.trans ?_, hring, htouches.cars, hmissed.andThen htouches⟩
  have hwait : s.map.table[i].kind.firstWait = .ack := by rw [harm]; rfl
  unfold State.newOrder
  rw [hnumber, ← hwait, ← hmissed.map]
  rfl

theorem failed_sentOut (s : State) (i : StationId) (o : StationOrder) (harm : s.map.table[i].kind = .arm) :
    Failed s ((s.sentOut i o).setStationPhase i .fault) i := by
  obtain ⟨hstation, -, hcars, htouches⟩ := sentOut_parts s i o harm
  exact failed_of htouches (by rw [hstation]; rfl) (by rw [hstation]; rfl) hcars

end Sys2Proof.Machine
end

section
/-! A station order fails (R105, R106), settled: O24. -/

set_option Elab.async false

namespace Sys2Proof.Machine

variable {s t u v : State} {i j : StationId} {o : StationOrder} {reason : Reason}

/-- The notice of a failure that leaves the Halt Controller alone. -/
theorem Failed.notifies (h : Failed s v i) (hquiet : s.map.table[i].kind ≠ .arm ∨ s.halt.state ≠ .halting) (room : s.noticeRoom 1)
    (n : Notice) : Sends [.cars, .seq, .ring] s (v.notify n).officeKick [] [n] := by
  have htouches : Touches [.cars, .seq, .ring] s v := by
    intro g hg
    by_cases hhalt : g = .halt
    · subst hhalt
      exact h.unhalted hquiet
    · exact h.office g (by
        simp only [List.mem_cons, List.not_mem_nil, or_false, not_or] at hg ⊢
        exact ⟨hg.1, hhalt, hg.2⟩)
  exact (Queues.after htouches (Queues.notify v n (by rw [htouches.office]; exact room)) (hs := [.cars, .seq, .ring])).kick

/-- ARM_STUCK leaves the station in FAULT, without a car (R106, R145). -/
theorem Failed.stuck_station (h : Failed s v i) (n : Notice) {tag : Option Nat}
    (ht : t = ((v.notify n).raise .armStuck (tag := tag) (station := some i.val)).officeKick) :
    t.seq.stations[i].phase = .fault ∧ t.seq.stations[i].car = none ∧ t.seq.stations[i].queued = none := by
  have hstation : (v.notify n).seq.stations[i] = v.seq.stations[i] := rfl
  generalize v.notify n = w at *
  have hsame := SameButOffice.kick (w.raise .armStuck tag none (some i.val))
  rw [← ht] at hsame
  rw [hsame.seq]
  have hkept : w.seq.stations[i].halted w.map.table[i].kind w.map.aliases[i] w.map.table[i].busy =
      { w.seq.stations[i] with car := none, queued := none, current := none, timer := none } := by
    unfold Station.halted
    rw [if_pos (by rw [hstation]; exact h.phase)]
  rcases takeCause_station w (w.causeNow .armStuck tag none (some i.val) none) i with hst | hst
  · rw [show (w.raise .armStuck tag none (some i.val)).seq.stations[i] = _ from hst, hstation]
    exact ⟨h.phase, h.car, h.queued⟩
  · rw [show (w.raise .armStuck tag none (some i.val)).seq.stations[i] = _ from hst, hkept]
    exact ⟨by rw [hstation]; exact h.phase, rfl, rfl⟩

/-- The notice and the cause of a failed OUT (R106). -/
theorem Failed.sticks (h : Failed s v i) (room : s.noticeRoom 2) (n : Notice) {orderCar : Option Nat}
    (ht : t = ((v.notify n).raise .armStuck (tag := stuckTag (v.notify n).cars s.seq.stations[i].car orderCar)
      (station := some i.val)).officeKick) :
    Raises s t (s.causeNow .armStuck (tag := stuckTag s.cars s.seq.stations[i].car orderCar) (station := some i.val)) ∧
    Strikes s t (s.causeNow .armStuck (tag := stuckTag s.cars s.seq.stations[i].car orderCar) (station := some i.val)) ∧
    Sends [.cars, .pacer, .seq, .gate, .ring, .halt] s t [] (n :: s.causeNotices
      (s.causeNow .armStuck (tag := stuckTag s.cars s.seq.stations[i].car orderCar) (station := some i.val))) := by
  have hstrike : (v.notify n).cars.map Car.strike = s.cars.map Car.strike := by
    rw [show (v.notify n).cars = v.cars from rfl, h.cars, missedAt_strike]
  have hnotice := Queues.after h.office (Queues.notify v n (by rw [h.office.office]; unfold State.noticeRoom at room; omega))
    (hs := [.cars, .halt, .seq, .ring])
  have hsettles : s.maySettle (v.notify n) := h.halt
  rw [stuckTag_congr hstrike] at ht
  generalize v.notify n = w at *
  generalize stuckTag s.cars s.seq.stations[i].car orderCar = tag at *
  have hcause := causeNow_congr hnotice.1.belt hnotice.1.uptime .armStuck tag none (some i.val) none
  have hraised := raise_raises (s := w) .armStuck tag none (some i.val) none (by decide)
  have hstruck := takeCause_strikes w (w.causeNow .armStuck tag none (some i.val) none)
  have hqueued := raise_queues (s := w) .armStuck tag none (some i.val) none (by decide)
    (by rw [hnotice.notices_length]; unfold State.noticeRoom at room; simp only [List.length_singleton]; omega)
  rw [causeNotices_of_settled hsettles] at hqueued
  rw [hcause] at hraised hstruck hqueued
  have hsame := SameButOffice.kick (w.raise .armStuck tag none (some i.val))
  have hqueues := (hnotice.andThen hqueued (hs := [.cars, .pacer, .seq, .gate, .ring, .halt])).kick
  rw [← ht] at hsame hqueues
  refine ⟨(hraised.of_settled hsettles).kick hsame, (Strikes.of_strike hstrike ?_).of_cars hsame.cars, hqueues⟩
  rw [← hcause]
  rw [← hcause] at hstruck
  exact hstruck

/-- What a failure leaves where no cause follows. -/
theorem Failed.kicked (h : Failed s v i) (n : Notice) (ht : t = (v.notify n).officeKick) :
    (t.seq.stations[i].phase = .fault ∧ t.seq.stations[i].car = none ∧ t.seq.stations[i].queued = none) ∧
    t.cars = (s.missedAt i).cars ∧ t.seq = v.seq ∧ t.ring = v.ring := by
  have hsame := SameButOffice.kick (v.notify n)
  rw [← ht] at hsame
  have hseq : t.seq = v.seq := hsame.seq
  refine ⟨?_, hsame.cars.trans h.cars, hseq, hsame.ring⟩
  rw [hseq]
  exact ⟨h.phase, h.car, h.queued⟩

/-- Settles O24: a failed order drops its station into FAULT; an arm is sent OUT after a failed IN and is stuck after a failed
OUT. -/
theorem stationOrderFails : Obligations.StationOrderFails := by
  intro s c i o reason h
  have ho := h.1
  refine ⟨_, exec_orderFails h, ?_⟩
  generalize ht : (s.failOrder i reason).officeKick = t
  by_cases harm : s.map.table[i].kind = .arm
  · cases hbegins : o.action.begins with
    | true =>
      rw [failOrder_in ho harm hbegins] at ht
      have hfailed := failed_sentOut s i o harm
      obtain ⟨⟨hphase, hcar, hqueued⟩, hcars, hseq, hring⟩ := hfailed.kicked _ ht.symm
      obtain ⟨hstation, hsent, -, -⟩ := sentOut_parts s i o harm
      obtain ⟨-, hmoved, hafter, -⟩ := setStationPhase_parts (s.sentOut i o) i .fault
      refine ⟨hphase, hcar, hqueued, fun hno room => ⟨hcars.trans (missedAt_cars s i), ?_⟩, fun hno => (hno harm).elim,
        fun _ _ => ⟨_, rfl, ?_, ?_⟩, fun _ hno => by cases hno⟩
      · rw [← ht]
        exact hfailed.notifies (hno.imp_right fun h => h.2) room _
      · rw [hseq, hafter, onStation_self, hstation]
        rfl
      · rw [hring, hmoved.ring, hsent]
        rfl
    | false =>
      rw [failOrder_out ho harm hbegins] at ht
      have hfailed := failed_dropped s i
      obtain ⟨hphase, hcar, hqueued⟩ := hfailed.stuck_station _ ht.symm
      exact ⟨hphase, hcar, hqueued, fun hno => (hno.elim (fun h => h harm) fun h => by cases h.1).elim,
        fun hno => (hno harm).elim, fun _ hno => (by cases hno), fun _ _ room => hfailed.sticks room _ ht.symm⟩
  · have hmissed := missedAt_touches s i
    have hfailed := failed_dropped s i
    rw [stationed_phase (.inl (by rw [hmissed.map]; exact harm))] at hfailed
    rw [failOrder_other ho harm] at ht
    obtain ⟨⟨hphase, hcar, hqueued⟩, hcars, hseq, hring⟩ := hfailed.kicked _ ht.symm
    refine ⟨hphase, hcar, hqueued, fun _ room => ⟨hcars.trans (missedAt_cars s i), ?_⟩, fun _ => ⟨?_, hring.trans hmissed.ring⟩,
      fun harm' => (harm harm').elim, fun harm' => (harm harm').elim⟩
    · rw [← ht]
      exact hfailed.notifies (.inl harm) room _
    · rw [hseq, stationed_seq, hmissed.seq]
      rfl

end Sys2Proof.Machine
end

section
/-! The drive's reports and the drive-stop watch (R62, R63, R76): O19 and O20. -/

set_option Elab.async false

namespace Sys2Proof.Machine

variable {s t u : State} {h : Head} {payload : List Byte} {r : DriveReport}

theorem exec_driveState (hr : s.hears h drivePayload payload r) :
    exec (.driveState h payload) s = .next (s.driveFrame h.src r).officeKick := by
  obtain ⟨hl, hn, hp⟩ := hr
  show execDriveState h payload s = _
  unfold execDriveState
  rw [ringFrame_taken hl hn hp]

theorem driveFrame_drive (hsrc : h.src = s.pacer.drive) (hn : fromNode h = true) : s.driveFrame h.src r = s.takeReport r :=
  if_pos ⟨hsrc, hsrc ▸ ne_zero_of_fromNode hn⟩

theorem driveFrame_learns (hsrc : h.src ≠ s.pacer.drive)
    (hmay : s.pacer.drive = 0 ∨ (s.pacer.freeze = false ∧ s.pacer.state = .stopped)) :
    s.driveFrame h.src r = (s.learnDrive h.src).takeReport r := by
  have hlearns : s.mayLearn = true := by
    unfold State.mayLearn
    rcases hmay with h | ⟨hfreeze, hstopped⟩
    · simp [h]
    · simp [hfreeze, hstopped]
  unfold State.driveFrame
  rw [if_neg fun h => hsrc h.1, if_pos hlearns]

theorem driveFrame_discarded (hsrc : h.src ≠ s.pacer.drive) (hdrive : s.pacer.drive ≠ 0)
    (hno : s.pacer.freeze = true ∨ s.pacer.state ≠ .stopped) : s.driveFrame h.src r = s := by
  have hlearns : s.mayLearn = false := by
    unfold State.mayLearn
    rcases hno with h | h <;> simp [h, hdrive]
  unfold State.driveFrame
  rw [if_neg fun h => hsrc h.1, hlearns]
  rfl

/-- A report that is no fault outside STOPPED (R63). -/
theorem faultCheck_none (h : r.fault = 0 ∨ s.pacer.state = .stopped ∨ ∃ old, s.pacer.report = some old ∧ old.fault = r.fault) :
    s.faultCheck r = s := by
  refine if_neg ?_
  rintro ⟨hfault, hstate, hnew⟩
  rcases h with h | h | ⟨old, hold, hsame⟩
  · exact hfault h
  · exact hstate h
  · rw [hold] at hnew
    simp [hsame] at hnew

/-- A report the watch does not look at (R62, R76). -/
theorem takeReport_recorded
    (hfault : r.fault = 0 ∨ s.pacer.state = .stopped ∨ ∃ old, s.pacer.report = some old ∧ old.fault = r.fault)
    (hwatch : s.pacer.watch ≠ .watching ∨ r.running = true) :
    s.takeReport r = s.onPacer fun p => { p with report := some r } := by
  unfold State.takeReport
  dsimp only
  rw [faultCheck_none hfault]
  refine if_neg ?_
  rintro ⟨hwatching, hrunning⟩
  rcases hwatch with h | h
  · exact h hwatching
  · rw [h] at hrunning
    cases hrunning

theorem Raises.settle {x : Cause} (h : Raises s t x) (k : t.maySettle u) : Raises s u x := by
  rcases k with k | ⟨hhalting, k⟩
  · unfold Raises at *
    rwa [k]
  · have hstate : u.halt.state = .halted := by rw [k]
    have hlog : u.halt.log = t.halt.log := by rw [k]
    have hline : u.halt.line = t.halt.line := by rw [k]
    unfold Raises at *
    rw [hhalting] at h
    rw [hstate, hlog, hline]
    by_cases hclear : s.halt.state = .clear
    · rw [if_pos hclear] at h ⊢
      exact ⟨h.1, h.2.1, .inr rfl⟩
    · rw [if_neg hclear] at h ⊢
      refine ⟨h.1, .inr ⟨?_, .inr rfl⟩⟩
      rcases h.2 with hsame | hmoved
      · rw [← hsame]
        decide
      · exact hmoved.1

theorem haltingCheck_settles (s : State) : s.maySettle s.haltingCheck ∧ Touches [.halt] s s.haltingCheck := by
  rw [haltingCheck_eq]
  split
  next hmet => exact ⟨.inr ⟨hmet.1, rfl⟩, touches_onHalt s _⟩
  next => exact ⟨.inl rfl, Touches.refl _ s⟩

/-- What a report leaves after the fault test: it is recorded, and the watch may be met (R62, R76). -/
theorem takeReport_tail (s : State) (r : DriveReport) :
    (s.takeReport r).pacer.report = some r ∧ (s.faultCheck r).maySettle (s.takeReport r) ∧
    Touches [.pacer, .halt] (s.faultCheck r) (s.takeReport r) := by
  unfold State.takeReport
  dsimp only
  generalize s.faultCheck r = u
  have hrecorded := touches_onPacer u fun p => { p with report := some r }
  split
  · unfold State.watchMet
    obtain ⟨hsettles, htouches⟩ := haltingCheck_settles ((u.onPacer fun p => { p with report := some r }).onPacer fun p =>
      { p with watch := .met, stopTimer := none })
    refine ⟨?_, hsettles, (hrecorded.andThen (touches_onPacer _ _) (hs := [.pacer])).andThen htouches⟩
    rw [htouches.pacer]
    rfl
  · exact ⟨rfl, .inl rfl, hrecorded.mono (by decide)⟩

/-- Settles O19: each clause is one path of the frame through R62 and R63. -/
theorem driveReportsAreTaken : Obligations.DriveReportsAreTaken := by
  intro s h payload r hr room
  have hroom : s.office.notices.length < 32 := room
  refine ⟨_, exec_driveState hr, fun hsrc hfault hwatch => ?_, fun hsrc hfault hstate hnew => ?_, fun hsrc hmay hfault hwatch => ?_,
    fun hsrc hdrive hno => ?_⟩
  · rw [driveFrame_drive hsrc hr.2.1, takeReport_recorded hfault hwatch]
    exact ⟨(SameButOffice.kick _).pacer, (Queues.of_touches (touches_onPacer s _)).kick⟩
  · rw [driveFrame_drive hsrc hr.2.1]
    have hraise : s.faultCheck r = s.raise .driveFault := by
      refine if_pos ⟨hfault, hstate, ?_⟩
      cases hreport : s.pacer.report with
      | none => rfl
      | some old => simpa using hnew old hreport
    obtain ⟨hreport, hsettles, htouches⟩ := takeReport_tail s r
    rw [hraise] at hsettles htouches
    have hsame := SameButOffice.kick (s.takeReport r)
    have hqueues := raise_queues (s := s) .driveFault none none none none (by decide)
      hroom
    exact ⟨by rw [hsame.pacer]; exact hreport,
      ((raise_raises .driveFault none none none none (by decide)).settle hsettles).kick hsame,
      (hqueues.touch htouches (hs := [.cars, .pacer, .seq, .gate, .ring, .halt])).kick⟩
  · rw [driveFrame_learns hsrc hmay, takeReport_recorded (s := s.learnDrive h.src) (hfault.imp_right .inl) hwatch]
    have hlearned := (Queues.of_touches (touches_onPacer s fun p => { p with drive := h.src, report := none })).andThen
      (Queues.notify _ (.driveLearned h.src) hroom) (hs := [.pacer])
    exact ⟨(SameButOffice.kick _).pacer, (hlearned.touch (touches_onPacer _ _) (hs := [.pacer])).kick⟩
  · rw [driveFrame_discarded hsrc hdrive hno]
    exact (Queues.refl s).kick

/-! ## The drive-stop watch (R76) -/

/-- The watch is met: in HALTING with the stations settled the halt state becomes HALTED (R76, R147). -/
theorem met_haltingCheck (hmet : s.pacer.watch = .met) :
    s.haltingCheck.halt = (if s.halt.state = .halting ∧ s.settled = true then { s.halt with state := .halted } else s.halt) := by
  rw [haltingCheck_eq]
  by_cases h : s.halt.state = .halting ∧ s.settled = true
  · rw [if_pos ⟨h.1, h.2, hmet⟩, if_pos h]
    rfl
  · rw [if_neg fun h' => h ⟨h'.1, h'.2.1⟩, if_neg h]

theorem exec_driveStopTimeout (hl : s.live) (htimer : s.pacer.stopTimer.isSome = true) :
    exec .driveStopTimeout s =
      .next (((s.onPacer fun p => { p with watch := .met, stopTimer := none }).raise .driveNoStop).haltingCheck).officeKick := by
  show execDriveStopTimeout s = _
  unfold execDriveStopTimeout
  obtain ⟨n, hn⟩ := Option.isSome_iff_exists.1 htimer
  rw [live_of_released hl, hn]

/-- DRIVE_NO_STOP opens no incident (R144). -/
theorem raise_driveNoStop_clear (hclear : s.halt.state = .clear) : s.raise .driveNoStop = s := by
  unfold State.raise State.takeCause
  dsimp only
  rw [if_pos hclear, markStruck_of_none rfl rfl]
  exact if_pos rfl

/-- Settles O20: both ends of the watch are a halting check, after DRIVE_NO_STOP where the timer ends it. -/
theorem driveStopIsWatched : Obligations.DriveStopIsWatched := by
  intro s
  have hmoved := touches_onPacer s fun p => { p with watch := .met, stopTimer := none }
  refine ⟨fun h payload r hr hsrc hrunning hfault hwatching => ⟨_, exec_driveState hr, ?_⟩, fun hl htimer => ?_,
    fun hl htimer hclear => ⟨_, exec_driveStopTimeout hl htimer, ?_⟩,
    fun r hl htimer hstate hopen room => ⟨_, exec_driveStopTimeout hl htimer, ?_⟩⟩
  · have htaken : s.takeReport r = (s.onPacer fun p => { p with report := some r, watch := .met, stopTimer := none }).haltingCheck := by
      unfold State.takeReport
      dsimp only
      rw [faultCheck_none (.inl hfault)]
      exact if_pos ⟨hwatching, hrunning⟩
    have hrecorded := touches_onPacer s fun p => { p with report := some r, watch := .met, stopTimer := none }
    have hmet := met_haltingCheck (s := s.onPacer fun p => { p with report := some r, watch := .met, stopTimer := none }) rfl
    obtain ⟨-, htouches⟩ := haltingCheck_settles (s.onPacer fun p => { p with report := some r, watch := .met, stopTimer := none })
    rw [driveFrame_drive hsrc hr.2.1, htaken]
    have hsame := SameButOffice.kick
      (s.onPacer fun p => { p with report := some r, watch := .met, stopTimer := none }).haltingCheck
    exact ⟨by rw [hsame.pacer, htouches.pacer]; rfl, by rw [hsame.halt, hmet]; rfl,
      (Queues.of_touches (hrecorded.andThen htouches (hs := [.pacer, .halt]))).kick⟩
  · refine ⟨s.officeKick, ?_, (Queues.refl s).kick⟩
    show execDriveStopTimeout s = _
    unfold execDriveStopTimeout
    rw [live_of_released hl, htimer]
  · have hclear' : (s.onPacer fun p => { p with watch := .met, stopTimer := none }).halt.state = .clear := hclear
    rw [raise_driveNoStop_clear hclear', haltingCheck_of_clear hclear']
    exact ⟨(SameButOffice.kick _).pacer, (Queues.of_touches hmoved).kick⟩
  · generalize hu : (s.onPacer fun p => { p with watch := .met, stopTimer := none }) = u
    rw [hu] at hmoved
    have hmet : u.pacer = { s.pacer with watch := .met, stopTimer := none } := by rw [← hu]; rfl
    have hclear : u.halt.state ≠ .clear := by
      rw [hmoved.halt]
      rcases hstate with h | h <;> rw [h] <;> decide
    have hrestarting : u.halt.state ≠ .restarting := by
      rw [hmoved.halt]
      rcases hstate with h | h <;> rw [h] <;> decide
    have hcause : u.causeNow .driveNoStop = s.causeNow .driveNoStop := causeNow_congr hmoved.belt hmoved.uptime _ _ _ _ _
    have hraised : u.raise .driveNoStop = u.addSecondary (s.causeNow .driveNoStop) := by
      rw [raise_eq_secondaryBy hclear, secondaryBy_eq_addSecondary hrestarting, hcause]
    have hopen' : u.openIncident = some r := by
      unfold State.openIncident at *
      rwa [hmoved.halt]
    have hhalt := addSecondary_halt (s := u) (s.causeNow .driveNoStop) (by rw [hopen']; rfl)
    have hadded := addSecondary_touches u (s.causeNow .driveNoStop)
    have hnotices : s.causeNotices (s.causeNow .driveNoStop) = u.openIncident.toList.map fun x => .incidentCause x.number
        (s.causeNow .driveNoStop) (x.addCause (s.causeNow .driveNoStop)).secondary.length
        (x.addCause (s.causeNow .driveNoStop)).more := by
      rw [← causeNotices_of_halt hmoved.halt]
      exact if_neg hclear
    have hqueues := Queues.after hmoved (addSecondary_queues (s := u) (s.causeNow .driveNoStop)
      (by rw [hmoved.office]; exact room)) (hs := [.pacer, .halt])
    rw [← hnotices] at hqueues
    rw [hraised]
    generalize u.addSecondary (s.causeNow .driveNoStop) = v at *
    have hsettled : v.settled = s.settled := by
      unfold State.settled
      rw [hadded.map, hadded.seq, hmoved.map, hmoved.seq]
    have hchecked := met_haltingCheck (s := v) (by rw [hadded.pacer, hmet])
    obtain ⟨-, htouches⟩ := haltingCheck_settles v
    have hsame := SameButOffice.kick v.haltingCheck
    refine ⟨by rw [hsame.pacer, htouches.pacer, hadded.pacer, hmet], ?_, (hqueues.touch htouches (hs := [.pacer, .halt])).kick⟩
    rw [hsame.halt, hchecked, hhalt, hsettled, hmoved.halt]
    split <;> rfl

end Sys2Proof.Machine
end

section
/-! A CALL ends, and the gate at a belt advance (R40, R45, R46): O21. -/

set_option Elab.async false

namespace Sys2Proof.Machine

variable {s t u : State} {h : Head} {payload : List Byte} {number : Nat} {reason : Reason}

theorem issueCall_eq_called (s : State) : s.issueCall = s.called := rfl

/-- An admission check from a READY gate and from another (R43, R44). -/
theorem admissionCheck_called (hready : s.gate.phase = .ready) (hadmissible : s.admissible = true) : s.admissionCheck = s.called :=
  admissionCheck_calls hready hadmissible

/-- A second admission check does nothing. -/
theorem admissionCheck_twice (s : State) : s.admissionCheck.admissionCheck = s.admissionCheck := by
  by_cases h : s.gate.phase = .ready ∧ s.admissible = true
  · rw [admissionCheck_called h.1 h.2]
    exact admissionCheck_none (s := s.called) (.inl (nofun : GatePhase.calling ≠ .ready))
  · have hnone : s.admissionCheck = s := if_neg h
    rw [hnone, hnone]

/-! ## The roller fault (R45) -/

theorem rollerFault_eq (hcall : s.gate.call.map (fun r => r.number) = some number) :
    s.rollerFault reason = (s.notify (.rollerFault reason number)).onGate fun g =>
      { g with isOpen := false, phase := .closed, call := none, ackTimer := none } := by
  obtain ⟨r, hr, rfl⟩ := Option.map_eq_some_iff.1 hcall
  unfold State.rollerFault
  rw [hr]
  exact admissionCheck_none (s := ((s.notify (.rollerFault reason r.number)).onGate fun g => { g with isOpen := false }).endCall)
    (.inl (nofun : GatePhase.closed ≠ .ready))

theorem call_of_callAwaits {transmitted : Bool} (h : s.callAwaits number transmitted = true) :
    s.gate.call.map (fun r => r.number) = some number := by
  unfold State.callAwaits at h
  rw [Bool.and_eq_true] at h
  obtain ⟨-, hany⟩ := h
  cases hcall : s.gate.call with
  | none =>
    rw [hcall] at hany
    cases hany
  | some r =>
    rw [hcall] at hany
    simp only [Option.any_some, Bool.and_eq_true, beq_iff_eq] at hany
    rw [Option.map_some, hany.1]

theorem exec_orderAck_call {r : AckResult} (hr : s.hears h ackPayload payload r) (hnone : s.stationAwaitingAck h.order = none)
    (hsrc : h.src = s.gate.roller) (hawaits : s.callAwaits h.order true = true) :
    exec (.orderAck h payload) s = .next (s.callAck r).officeKick := by
  obtain ⟨hl, hn, hp⟩ := hr
  show execOrderAck h payload s = _
  unfold execOrderAck
  rw [ringFrame_taken hl hn hp, hnone]
  dsimp only
  rw [if_pos ⟨hsrc, hawaits⟩]

/-- What a roller fault leaves, once the office port has been kicked. -/
theorem rollerFault_kicked (hcall : s.gate.call.map (fun r => r.number) = some number) (room : s.noticeRoom 1)
    (ht : t = (s.rollerFault reason).officeKick) :
    t.gate = { s.gate with isOpen := false, phase := .closed, call := none, ackTimer := none } ∧
    Sends [.gate] s t [] [.rollerFault reason number] := by
  have hqueues := (Queues.notify s (.rollerFault reason number) room).touch (touches_onGate _ fun g =>
    { g with isOpen := false, phase := .closed, call := none, ackTimer := none }) (hs := [.gate])
  rw [rollerFault_eq hcall] at ht
  rw [ht]
  exact ⟨(SameButOffice.kick _).gate, hqueues.kick⟩

theorem callFails_kicked {c : Instr} (h : CallFails c s number reason) (room : s.noticeRoom 1) :
    ∃ t, exec c s = .next t ∧
      t.gate = { s.gate with isOpen := false, phase := .closed, call := none, ackTimer := none } ∧
      Sends [.gate] s t [] [.rollerFault reason number] := by
  rcases h with ⟨h, payload, rfl, hr, rfl, hnone, hsrc, hawaits, rfl⟩ | ⟨rfl, hl, htimer, hcall, rfl⟩ |
    ⟨h, payload, rfl, hl, hreturned, hform, rfl, hnone, hawaits, rfl⟩
  · exact ⟨_, exec_orderAck_call hr hnone hsrc hawaits, rollerFault_kicked (call_of_callAwaits hawaits) room rfl⟩
  · obtain ⟨n, hn⟩ := Option.isSome_iff_exists.1 htimer
    have hexec : exec .rollerAckTimeout s = .next ((s.onGate fun g => { g with ackTimer := none }).rollerFault .timeout).officeKick := by
      show execRollerAckTimeout s = _
      unfold execRollerAckTimeout
      rw [live_of_released hl, hn]
    obtain ⟨hgate, hsends⟩ := rollerFault_kicked (s := s.onGate fun g => { g with ackTimer := none }) (reason := .timeout) hcall
      room rfl
    refine ⟨_, hexec, hgate, ?_⟩
    exact ⟨(touches_onGate s fun g => { g with ackTimer := none }).andThen hsends.1, hsends.2⟩
  · have hexec : exec (.returnedOrder h payload) s = .next (s.rollerFault .returned).officeKick := by
      show execReturnedOrder h payload s = _
      unfold execReturnedOrder
      rw [ringFrame_taken hl hreturned (x := ()) (if_pos hform), hnone]
      dsimp only
      rw [if_pos hawaits]
    exact ⟨_, hexec, rollerFault_kicked (call_of_callAwaits hawaits) room rfl⟩

/-! ## The gate at a belt advance (R40, R43, R46) -/

/-- The gate's part once its stamps have been aged: within the reach, or without a call in ROLLING. -/
theorem reachTest_within (h : s.gate.phase ≠ .rolling ∨ s.gate.call = none ∨ s.gate.lastCall = none ∨
    ∃ stamp, s.gate.lastCall = some stamp ∧ (s.belt.count - stamp).toNat ≤ s.gate.reach) : s.reachTest = s := by
  unfold State.reachTest
  split
  next r stamp hphase hcall hlast =>
    rcases h with h | h | h | ⟨x, h, hreach⟩
    · exact absurd hphase h
    · rw [hcall] at h
      cases h
    · rw [hlast] at h
      cases h
    · rw [hlast] at h
      cases h
      exact if_neg (by omega)
  next => rfl

theorem reachTest_missed {r : OrderRecord} {stamp : Word} (hphase : s.gate.phase = .rolling) (hcall : s.gate.call = some r)
    (hlast : s.gate.lastCall = some stamp) (hreach : s.gate.reach < (s.belt.count - stamp).toNat) :
    s.reachTest = (s.notify (.rollerMiss r.number stamp s.belt.count)).finishCall := by
  unfold State.reachTest
  rw [hphase, hcall, hlast]
  exact if_pos hreach

/-- What the missed reach leaves: the notice, the call ended, and a CALL if the gate may (R46, R43). -/
theorem reachTest_missed_parts {r : OrderRecord} {stamp : Word} (hphase : s.gate.phase = .rolling) (hcall : s.gate.call = some r)
    (hlast : s.gate.lastCall = some stamp) (hreach : s.gate.reach < (s.belt.count - stamp).toNat) (room : s.noticeRoom 1)
    (hu : u = s.endCall) :
    (u.gate.phase = .ready ∧ u.admissible = true →
      s.reachTest.admissionCheck.gate = u.called.gate ∧ s.reachTest.admissionCheck.seq = u.called.seq ∧
      s.reachTest.admissionCheck.ring = u.called.ring ∧
      Sends [.gate, .seq, .ring] s s.reachTest.admissionCheck [] [.rollerMiss r.number stamp s.belt.count]) ∧
    (u.gate.phase ≠ .ready ∨ u.admissible = false →
      s.reachTest.admissionCheck.gate = u.gate ∧
      Sends [.gate] s s.reachTest.admissionCheck [] [.rollerMiss r.number stamp s.belt.count]) := by
  have hended := (Queues.notify s (.rollerMiss r.number stamp s.belt.count) room).touch (endCall_touches _) (hs := [.gate])
  have hadmissible : (s.notify (.rollerMiss r.number stamp s.belt.count)).endCall.admissible = u.admissible := by
    rw [hu]
    rfl
  have hgate : (s.notify (.rollerMiss r.number stamp s.belt.count)).endCall.gate = u.gate := by
    rw [hu]
    rfl
  rw [reachTest_missed hphase hcall hlast hreach]
  unfold State.finishCall
  rw [admissionCheck_twice]
  refine ⟨fun hmay => ?_, fun hno => ?_⟩
  · have hcalled := hended.touch (admissionCheck_touches _) (hs := [.gate, .seq, .ring])
    rw [admissionCheck_called (by rw [hgate]; exact hmay.1) (by rw [hadmissible]; exact hmay.2)] at hcalled ⊢
    refine ⟨?_, ?_, ?_, hcalled.sends⟩ <;> rw [hu] <;> rfl
  · rw [admissionCheck_none (by rw [hgate, hadmissible]; exact hno)]
    exact ⟨hgate, hended.sends⟩

/-- Settles O21: a call ends by its acknowledgment or its failure, and the belt advance makes the reach test and an admission
check. -/
theorem callEnds : Obligations.CallEnds := by
  intro s
  refine ⟨fun h payload hr hnone hsrc hawaits => ⟨_, exec_orderAck_call hr hnone hsrc hawaits, ?_⟩,
    fun c number reason hfails room => callFails_kicked hfails room, _, _, rfl, rfl, ?_, ?_⟩
  · exact ⟨(SameButOffice.kick _).gate, (Queues.of_touches (touches_onGate s fun g =>
      { g with phase := .rolling, ackTimer := none })).kick⟩
  · rintro r stamp u hphase hcall hlast hreach room hu
    have haged := touches_onGate s fun g =>
      { g with lastCall := ageStamp s.belt.count g.lastCall, prevRear := ageStamp s.belt.count g.prevRear }
    obtain ⟨hcalls, hrests⟩ := reachTest_missed_parts (s := s.onGate fun g =>
      { g with lastCall := ageStamp s.belt.count g.lastCall, prevRear := ageStamp s.belt.count g.prevRear }) (u := u)
      hphase hcall hlast hreach room hu
    refine ⟨fun hmay => ?_, fun hno => ?_⟩
    · obtain ⟨hgate, hseq, hring, htouches, hoffice⟩ := hcalls hmay
      exact ⟨hgate, hseq, hring, haged.andThen htouches, hoffice⟩
    · obtain ⟨hgate, htouches, hoffice⟩ := hrests hno
      exact ⟨hgate, haged.andThen htouches, hoffice⟩
  · rintro u hwithin rfl
    have hwithin' := reachTest_within (s := s.onGate fun g =>
      { g with lastCall := ageStamp s.belt.count g.lastCall, prevRear := ageStamp s.belt.count g.prevRear }) hwithin
    have hadvance : s.blockAdvance .gate = (s.onGate fun g =>
        { g with lastCall := ageStamp s.belt.count g.lastCall, prevRear := ageStamp s.belt.count g.prevRear }).admissionCheck := by
      show State.admissionCheck _ = _
      rw [hwithin']
    rw [hadvance]
    exact ⟨fun hmay => admissionCheck_called hmay.1 hmay.2, fun hno => admissionCheck_none hno⟩

end Sys2Proof.Machine
end

section
/-! RUNNING and STOPPED as the Halt Controller takes them (R157), and the outcome of a START (R61, R63, R71): O22. -/

set_option Elab.async false

namespace Sys2Proof.Machine

variable {s t u v : State} {h : Head} {payload : List Byte} {number : Nat} {reason : Reason} {way : Way}

/-! ## The open incident is closed (R157, R159) -/

theorem closedLog_of_none (h : s.openIncident = none) : s.closedLog way = s.halt.log := by
  unfold State.closedLog
  conv_rhs => rw [← List.map_id s.halt.log]
  refine List.map_congr_left fun x hx => if_neg ?_
  unfold State.openIncident at h
  rw [List.find?_eq_none] at h
  have hclosed := h x hx
  rwa [decide_eq_true_eq] at hclosed

theorem closeIncident_halt (s : State) (way : Way) : (s.closeIncident way).halt = { s.halt with log := s.closedLog way } := by
  unfold State.closeIncident
  split
  next hnone => rw [closedLog_of_none hnone]
  next => rfl

/-- The notice of a close (R157, R159). -/
def State.closeNotices (s : State) (way : Way) : List Notice :=
  s.openIncident.toList.map fun x => .incidentClosed x.number way s.clock.uptime x.secondary.length x.more

theorem closeNotices_length (s : State) (way : Way) : (s.closeNotices way).length ≤ 1 := by
  unfold State.closeNotices
  cases s.openIncident <;> simp

theorem closeIncident_queues (way : Way) (room : s.office.notices.length < 32) :
    Queues [.halt] s (s.closeIncident way) [] (s.closeNotices way) := by
  unfold State.closeIncident State.closeNotices
  split
  next hnone =>
    rw [hnone]
    exact (Queues.refl s).mono
  next r hr =>
    rw [hr]
    exact Queues.after (changeIncident_touches s _) (Queues.notify _ _ room)

/-- RESTARTING has ended: the incident is closed, and the halt state CLEAR (R157). -/
def State.ended (s : State) : State := (s.closeIncident .resumed).onHalt fun b => { b with state := .clear }

theorem endRestarting_eq (s : State) : s.endRestarting = s.ended.admissionCheck := rfl

/-- The pacer's state, with RESTARTING ended by it (R157). -/
def State.pacerTo (s : State) (p : PacerState) : State :=
  if s.halt.state = .restarting then (s.onPacer fun q => { q with state := p }).ended else s.onPacer fun q => { q with state := p }

/-- A change to RUNNING or STOPPED (R56, R157). -/
theorem setPacerState_to {p : PacerState} (hp : p = .running ∨ p = .stopped) :
    s.setPacerState p = (s.pacerTo p).admissionCheck := by
  have hstarting : p ≠ .starting := by rcases hp with rfl | rfl <;> decide
  unfold State.pacerTo
  by_cases hr : s.halt.state = .restarting
  · rw [setPacerState_ends hp hr, if_pos hr, endRestarting_eq, admissionCheck_twice]
  · rw [setPacerState_settles hstarting hr, if_neg hr]

theorem ended_touches (s : State) : Touches [.halt, .office] s s.ended := (closeIncident_touches s _).andThen (touches_onHalt _ _)

theorem ended_halt (s : State) : s.ended.halt = { s.halt with state := .clear, log := s.closedLog .resumed } := by
  have hclosed := closeIncident_halt s .resumed
  show ({ (s.closeIncident .resumed).halt with state := .clear } : HaltBlock) = _
  rw [hclosed]

theorem pacerTo_touches (s : State) (p : PacerState) : Touches [.pacer, .halt, .office] s (s.pacerTo p) :=
  Touches.ite ((touches_onPacer s _).andThen (ended_touches _)) ((touches_onPacer s _).mono (by decide))

theorem pacerTo_pacer (s : State) (p : PacerState) : (s.pacerTo p).pacer = { s.pacer with state := p } := by
  unfold State.pacerTo
  split
  · exact (ended_touches _).pacer
  · rfl

/-- The halt block once the pacer is known to run or to stand (R157). -/
def State.haltAfterStart (s : State) : HaltBlock :=
  if s.halt.state = .restarting then { s.halt with state := .clear, log := s.closedLog .resumed } else s.halt

theorem pacerTo_halt (s : State) (p : PacerState) : (s.pacerTo p).halt = s.haltAfterStart := by
  unfold State.pacerTo State.haltAfterStart
  split
  · exact ended_halt _
  · rfl

theorem pacerTo_plain {p : PacerState} (hr : s.halt.state ≠ .restarting) :
    s.pacerTo p = s.onPacer fun q => { q with state := p } := if_neg hr

theorem pacerTo_queues (p : PacerState) (room : s.noticeRoom 1) :
    Queues [.pacer, .halt] s (s.pacerTo p) [] (if s.halt.state = .restarting then s.closeNotices .resumed else []) := by
  have hmoved := touches_onPacer s fun q => { q with state := p }
  unfold State.pacerTo
  split
  · have hclosed := Queues.after hmoved (closeIncident_queues (s := s.onPacer fun q => { q with state := p }) .resumed room)
      (hs := [.pacer, .halt])
    exact hclosed.touch (touches_onHalt _ _)
  · exact (Queues.of_touches hmoved).mono

/-! ## A START fails (R61) -/

theorem startFailure_eq : s.startFailure reason number =
    ((s.onPacer fun p => { p with start := none, startTimer := none }).pacerTo .stopped).notify (.driveNoStart reason number) := by
  unfold State.startFailure
  rw [setPacerState_to (.inr rfl), admissionCheck_of_pacer]
  rw [pacerTo_pacer]
  exact (nofun : PacerState.stopped ≠ .running)

theorem exec_startFails {c : Instr} (h : StartFails c s number reason) : exec c s = .next (s.startFailure reason number).officeKick := by
  rcases h with ⟨h, payload, rfl, ⟨hl, hn, hp⟩, rfl, hnone, hcall, hsrc, hstart, rfl⟩ | ⟨rfl, hl, htimer, hstart, rfl⟩ |
    ⟨h, payload, rfl, hl, hreturned, hform, rfl, hnone, hcall, hstart, rfl⟩
  · show execOrderAck h payload s = _
    unfold execOrderAck
    rw [ringFrame_taken hl hn hp, hnone]
    dsimp only
    rw [if_neg (fun h => by rw [hcall] at h; cases h.2), if_pos ⟨hsrc, hstart⟩]
    rfl
  · show execStartAckTimeout s = _
    unfold execStartAckTimeout
    obtain ⟨n, hn⟩ := Option.isSome_iff_exists.1 htimer
    obtain ⟨r, hr, rfl⟩ := Option.map_eq_some_iff.1 hstart
    rw [live_of_released hl, hn, hr]
  · show execReturnedOrder h payload s = _
    unfold execReturnedOrder
    rw [ringFrame_taken hl hreturned (x := ()) (if_pos hform), hnone]
    dsimp only
    rw [hcall, hstart]
    rfl

theorem startFailure_kicked (ht : t = (s.startFailure reason number).officeKick) :
    t.pacer = { s.pacer with state := .stopped, start := none, startTimer := none } ∧
    (s.halt.state ≠ .restarting → s.noticeRoom 1 → Sends [.pacer] s t [] [.driveNoStart reason number]) ∧
    (∀ r, s.halt.state = .restarting → s.openIncident = some r → s.noticeRoom 2 →
      t.halt = { s.halt with state := .clear, log := s.closedLog .resumed } ∧
      Sends [.pacer, .halt] s t []
        [.incidentClosed r.number .resumed s.clock.uptime r.secondary.length r.more, .driveNoStart reason number]) := by
  rw [startFailure_eq] at ht
  have hcleared := touches_onPacer s fun p => { p with start := none, startTimer := none }
  have hpacer := pacerTo_pacer (s.onPacer fun p => { p with start := none, startTimer := none }) .stopped
  have hhalt := pacerTo_halt (s.onPacer fun p => { p with start := none, startTimer := none }) .stopped
  generalize hv : (s.onPacer fun p => { p with start := none, startTimer := none }).pacerTo .stopped = v at *
  have hsame := SameButOffice.kick (v.notify (.driveNoStart reason number))
  rw [← ht] at hsame
  refine ⟨hsame.pacer.trans hpacer, fun hr room => ?_, fun r hr hopen room => ⟨hsame.halt.trans (hhalt.trans (if_pos hr)), ?_⟩⟩
  · rw [pacerTo_plain (s := s.onPacer fun p => { p with start := none, startTimer := none }) hr] at hv
    have hmoved := hcleared.andThen (touches_onPacer (s.onPacer fun p => { p with start := none, startTimer := none })
      fun q => { q with state := .stopped }) (hs := [.pacer])
    rw [hv] at hmoved
    rw [ht]
    exact (Queues.after hmoved (Queues.notify v _ (by rw [hmoved.office]; exact room)) (hs := [.pacer])).kick
  · have hroom : s.office.notices.length + 2 ≤ 32 := room
    have hqueued := Queues.after hcleared (pacerTo_queues (s := s.onPacer fun p => { p with start := none, startTimer := none }) .stopped
      (by show s.office.notices.length + 1 ≤ 32; omega)) (hs := [.pacer, .halt])
    rw [hv, if_pos (show (s.onPacer fun p => { p with start := none, startTimer := none }).halt.state = .restarting from hr)]
      at hqueued
    have hnotices : (s.onPacer fun p => { p with start := none, startTimer := none }).closeNotices .resumed =
        [.incidentClosed r.number .resumed s.clock.uptime r.secondary.length r.more] := by
      show s.closeNotices .resumed = _
      unfold State.closeNotices
      rw [hopen]
      rfl
    rw [hnotices] at hqueued
    rw [ht]
    exact (hqueued.andThen (Queues.notify v (.driveNoStart reason number)
      (by rw [hqueued.notices_length]; simp only [List.length_singleton]; omega)) (hs := [.pacer, .halt])).kick

end Sys2Proof.Machine
end

section
/-! A START is acknowledged (R61, R63, R71), and O22. -/

set_option Elab.async false

namespace Sys2Proof.Machine

variable {s t u v : State} {h : Head} {payload : List Byte} {number : Nat} {reason : Reason} {way : Way}

theorem SameButOffice.admissible (h : SameButOffice s t) : t.admissible = s.admissible := by
  unfold State.admissible
  rw [h.gate, h.halt, h.pacer, h.cars, h.belt, h.book]

theorem SameButOffice.freeOrderNumber (h : SameButOffice s t) : t.freeOrderNumber = s.freeOrderNumber := by
  unfold State.freeOrderNumber
  rw [orderNumberHeld_congr (fun j => by rw [h.seq]) h.gate h.pacer, h.seq]

/-- A CALL is issued in the same way whatever waits at the office port (R44). -/
theorem SameButOffice.called (h : SameButOffice s t) :
    t.called.gate = s.called.gate ∧ t.called.seq = s.called.seq ∧ t.called.ring = s.called.ring := by
  unfold State.called
  dsimp only
  rw [h.freeOrderNumber, h.gate, h.seq, h.ring]
  exact ⟨rfl, rfl, rfl⟩

theorem blockedBy_congr (heyes : t.eyes = s.eyes) (hcars : t.cars = s.cars) (htrack : t.track = s.track) (hbelt : t.belt = s.belt)
    (hmargin : t.pacer.margin = s.pacer.margin) (happroach : t.pacer.approach = s.pacer.approach) :
    t.blockedBy = s.blockedBy := by
  unfold State.blockedBy State.zoneOn State.stopPoint
  rw [heyes, hcars, htrack, hbelt, hmargin, happroach]

/-- The pacer as the drive's DONE leaves it, before its state (R61, R65). -/
def State.begun (s : State) : State :=
  s.onPacer fun p =>
    { p with
      start := none
      startTimer := none
      commanded := s.belt.count
      acc := 0
      refresh := 0
      profileTimer := some 20 }

/-- The belt runs, and RESTARTING has ended (R61, R157). -/
def State.runs (s : State) : State := s.begun.pacerTo .running

theorem startDone_eq (s : State) : s.startDone = s.runs.admissionCheck.faultAtEntry.exitBlockedCheck := by
  unfold State.startDone
  dsimp only
  rw [setPacerState_to (.inl rfl)]
  rfl

theorem exec_orderAck_start {r : AckResult} (hr : s.hears h ackPayload payload r) (hnone : s.stationAwaitingAck h.order = none)
    (hcall : s.callAwaits h.order true = false) (hsrc : h.src = s.pacer.drive) (hstart : s.startAwaits h.order = true) :
    exec (.orderAck h payload) s = .next (s.startAck h.order r).officeKick := by
  obtain ⟨hl, hn, hp⟩ := hr
  show execOrderAck h payload s = _
  unfold execOrderAck
  rw [ringFrame_taken hl hn hp, hnone]
  dsimp only
  rw [if_neg (fun h => by rw [hcall] at h; cases h.2), if_pos ⟨hsrc, hstart⟩]

theorem runs_touches (s : State) : Touches [.pacer, .halt, .office] s s.runs :=
  (touches_onPacer s _).andThen (pacerTo_touches _ _)

theorem runs_pacer (s : State) : s.runs.pacer = { s.begun.pacer with state := .running } := pacerTo_pacer s.begun .running

theorem runs_halt (s : State) : s.runs.halt = s.haltAfterStart := pacerTo_halt s.begun .running

theorem runs_queues (room : s.noticeRoom 1) :
    Queues [.pacer, .halt] s s.runs [] (if s.halt.state = .restarting then s.closeNotices .resumed else []) :=
  Queues.after (touches_onPacer s _) (pacerTo_queues (s := s.begun) .running room)

theorem runs_plain (hr : s.halt.state ≠ .restarting) : Touches [.pacer] s s.runs := by
  have hplain := pacerTo_plain (s := s.begun) (p := .running) hr
  unfold State.runs
  rw [hplain]
  exact (touches_onPacer s _).andThen (touches_onPacer _ _)

theorem runs_blockedBy (s : State) : s.runs.blockedBy = s.blockedBy := by
  have htouches := runs_touches s
  have hpacer := runs_pacer s
  exact blockedBy_congr htouches.eyes htouches.cars htouches.track htouches.belt (by rw [hpacer]; rfl) (by rw [hpacer]; rfl)

/-- Without a fault in the last report the entry to RUNNING raises nothing (R63). -/
theorem faultAtEntry_none (h : ∀ r, s.pacer.report = some r → r.fault = 0) : s.faultAtEntry = s := by
  refine if_neg ?_
  cases hreport : s.pacer.report with
  | none => exact (nofun : ¬ false = true)
  | some r => simp [h r hreport]

theorem faultAtEntry_raises {r : DriveReport} (hreport : s.pacer.report = some r) (hfault : r.fault ≠ 0) :
    s.faultAtEntry = s.raise .driveFault := by
  refine if_pos ?_
  rw [hreport]
  simpa using hfault

theorem exitBlockedCheck_none (h : s.pacer.state ≠ .running ∨ s.blockedBy = none) : s.exitBlockedCheck = s := by
  unfold State.exitBlockedCheck
  rcases h with h | h
  · exact if_neg h
  · rw [h]
    exact ite_self s

theorem exitBlockedCheck_some {c : Car} (hrun : s.pacer.state = .running) (hblocked : s.blockedBy = some c) :
    s.exitBlockedCheck = s.onPacer fun p => { p with
      state := .pointStop
      pointStop := some {
        decel := if s.remaining c < (rampDistance s.pacer.speed s.pacer.dec : Int) then .decHard else .dec
        latched := false } } := by
  unfold State.exitBlockedCheck
  rw [if_pos hrun, hblocked]
  exact setPacerState_plain (by decide) (by decide) (by decide)

/-- The belt runs with nothing in its way. -/
theorem startDone_free (hreport : ∀ r, s.pacer.report = some r → r.fault = 0) (hblocked : s.blockedBy = none) :
    s.startDone = s.runs.admissionCheck := by
  have hchecked := admissionCheck_touches s.runs
  have hpacer : s.runs.admissionCheck.pacer = { s.begun.pacer with state := .running } := hchecked.pacer.trans (runs_pacer s)
  rw [startDone_eq, faultAtEntry_none (by rw [hpacer]; exact hreport), exitBlockedCheck_none]
  refine .inr ((blockedBy_congr hchecked.eyes hchecked.cars hchecked.track hchecked.belt ?_ ?_).trans
    ((runs_blockedBy s).trans hblocked)) <;> rw [hchecked.pacer]

theorem runs_gate (s : State) : s.runs.gate = s.gate := (runs_touches s).gate

/-- The drive's DONE with the gate not READY and the exit free (R61). -/
theorem startDone_kicked (hreport : ∀ r, s.pacer.report = some r → r.fault = 0) (hblocked : s.blockedBy = none)
    (hready : s.gate.phase ≠ .ready) (room : s.noticeRoom 1) (ht : t = s.startDone.officeKick) :
    t.pacer = { s.begun.pacer with state := .running } ∧
    (s.halt.state ≠ .restarting → Quiet [.pacer] s t) ∧
    (∀ r, s.halt.state = .restarting → s.openIncident = some r →
      t.halt = { s.halt with state := .clear, log := s.closedLog .resumed } ∧
      Sends [.pacer, .halt] s t [] [.incidentClosed r.number .resumed s.clock.uptime r.secondary.length r.more]) := by
  rw [startDone_free hreport hblocked, admissionCheck_none (.inl (by rw [runs_gate]; exact hready))] at ht
  have hsame := SameButOffice.kick s.runs
  rw [← ht] at hsame
  refine ⟨hsame.pacer.trans (runs_pacer s), fun hr => ?_, fun r hr hopen => ⟨?_, ?_⟩⟩
  · rw [ht]
    exact (Queues.of_touches (runs_plain hr)).kick
  · rw [hsame.halt, runs_halt]
    exact if_pos hr
  · have hqueues := runs_queues room
    rw [if_pos hr] at hqueues
    unfold State.closeNotices at hqueues
    rw [hopen] at hqueues
    rw [ht]
    exact hqueues.kick

end Sys2Proof.Machine
end

section
/-! O22, settled. -/

set_option Elab.async false

namespace Sys2Proof.Machine

variable {s t u v : State} {h : Head} {payload : List Byte} {number : Nat} {reason : Reason} {way : Way}

/-- The state with the belt running and no incident open, but for the office port (R61, R157). -/
def State.startedClear (s : State) : State :=
  { s with
    pacer := { s.begun.pacer with state := .running }
    halt := { s.halt with state := .clear, log := if s.halt.state = .restarting then s.closedLog .resumed else s.halt.log } }

theorem Field.same.symm {f : Field} (h : f.same s t) : f.same t s := by cases f <;> exact Eq.symm h

/-- Two states that differ from a third in some fields agree in the others. -/
theorem Touches.agree {fs : List Field} (h : Touches fs s t) (k : Touches fs s u) {f : Field} (hf : f ∉ fs) : f.same t u :=
  (h f hf).symm.trans (k f hf)

theorem startedClear_touches (s : State) : Touches [.pacer, .halt, .office] s s.startedClear :=
  ((touches_onPacer s fun _ => { s.begun.pacer with state := .running }).andThen (touches_onHalt _ fun _ =>
    { s.halt with state := .clear, log := if s.halt.state = .restarting then s.closedLog .resumed else s.halt.log })
    (hs := [.pacer, .halt])).mono (by decide)

theorem startedClear_runs (hstate : s.halt.state = .clear ∨ s.halt.state = .restarting) : SameButOffice s.startedClear s.runs := by
  have hhalt : s.runs.halt = s.startedClear.halt := by
    refine (runs_halt s).trans ?_
    unfold State.haltAfterStart State.startedClear
    dsimp only
    rcases hstate with h | h
    · rw [if_neg (by rw [h]; decide), if_neg (by rw [h]; decide), ← h]
    · rw [if_pos h, if_pos h]
  intro f hf
  by_cases hp : f = .pacer
  · subst hp
    exact runs_pacer s
  by_cases hh : f = .halt
  · subst hh
    exact hhalt
  exact (startedClear_touches s).agree (runs_touches s) (by simp [hf, hp, hh])

/-- The drive's DONE with the gate READY and the exit free: the next car is called if it may be (R43, R61). -/
theorem startDone_ready (hstate : s.halt.state = .clear ∨ s.halt.state = .restarting)
    (hreport : ∀ r, s.pacer.report = some r → r.fault = 0) (hready : s.gate.phase = .ready) (hblocked : s.blockedBy = none)
    (ht : t = s.startDone.officeKick) :
    t.pacer = s.startedClear.pacer ∧ t.halt = s.startedClear.halt ∧
    (s.startedClear.admissible = true → t.gate = s.startedClear.called.gate ∧ t.seq = s.startedClear.called.seq ∧
      t.ring = s.startedClear.called.ring ∧ Touches [.pacer, .halt, .gate, .seq, .ring, .office] s t) ∧
    (s.startedClear.admissible = false → Touches [.pacer, .halt, .office] s t) := by
  have hsame := startedClear_runs hstate
  have hkicked := SameButOffice.kick s.runs.admissionCheck
  have hchecked := admissionCheck_touches s.runs
  have htouches := runs_touches s
  have hoffice := officeKick_touches s.runs.admissionCheck
  have hphase : s.runs.gate.phase = .ready := by rw [runs_gate]; exact hready
  rw [startDone_free hreport hblocked] at ht
  rw [← ht] at hkicked hoffice
  refine ⟨hkicked.pacer.trans (hchecked.pacer.trans hsame.pacer), hkicked.halt.trans (hchecked.halt.trans hsame.halt),
    fun hmay => ?_, fun hno => ?_⟩
  · obtain ⟨hgate, hseq, hring⟩ := hsame.called
    refine ⟨?_, ?_, ?_, (htouches.andThen hchecked (hs := [.pacer, .halt, .gate, .seq, .ring, .office])).andThen hoffice⟩
    · rw [hkicked.gate, admissionCheck_called hphase (by rw [hsame.admissible]; exact hmay), hgate]
    · rw [hkicked.seq, admissionCheck_called hphase (by rw [hsame.admissible]; exact hmay), hseq]
    · rw [hkicked.ring, admissionCheck_called hphase (by rw [hsame.admissible]; exact hmay), hring]
  · rw [admissionCheck_none (.inr (by rw [hsame.admissible]; exact hno))] at hoffice
    exact htouches.andThen hoffice

/-- The drive's DONE with the exit blocked: a point stop begins (R61, R71). -/
theorem startDone_blocked {c : Car} (hstate : s.halt.state = .clear ∨ s.halt.state = .restarting)
    (hreport : ∀ r, s.pacer.report = some r → r.fault = 0) (hready : s.gate.phase ≠ .ready) (hblocked : s.blockedBy = some c)
    (ht : t = s.startDone.officeKick) :
    t.pacer = { s.startedClear.pacer with
      state := .pointStop
      pointStop := some {
        decel := if s.remaining c < (rampDistance s.pacer.speed s.pacer.dec : Int) then .decHard else .dec
        latched := false } } ∧
    t.halt = s.startedClear.halt ∧ Touches [.pacer, .halt, .office] s t := by
  have hsame := startedClear_runs hstate
  have hpacer := runs_pacer s
  have htouches := runs_touches s
  have hremaining : s.runs.remaining c = s.remaining c := by
    unfold State.remaining State.stopPoint
    rw [htouches.track, htouches.belt, hpacer]
    rfl
  have hdone : s.startDone = s.runs.exitBlockedCheck := by
    rw [startDone_eq, admissionCheck_none (.inl (by rw [runs_gate]; exact hready)),
      faultAtEntry_none (by rw [hpacer]; exact hreport)]
  have hstops := exitBlockedCheck_some (s := s.runs) (by rw [hpacer]) ((runs_blockedBy s).trans hblocked)
  rw [hdone, hstops, hremaining] at ht
  have hmoved := touches_onPacer s.runs fun p => { p with
    state := .pointStop
    pointStop := some {
      decel := if s.remaining c < (rampDistance s.runs.pacer.speed s.runs.pacer.dec : Int) then .decHard else .dec
      latched := false } }
  have hkicked := SameButOffice.kick (s.runs.onPacer fun p => { p with
    state := .pointStop
    pointStop := some {
      decel := if s.remaining c < (rampDistance s.runs.pacer.speed s.runs.pacer.dec : Int) then .decHard else .dec
      latched := false } })
  refine ⟨?_, ?_, ?_⟩
  · rw [ht, hkicked.pacer]
    show { s.runs.pacer with
      state := .pointStop
      pointStop := some {
        decel := if s.remaining c < (rampDistance s.runs.pacer.speed s.runs.pacer.dec : Int) then .decHard else .dec
        latched := false } } = _
    rw [hpacer]
    rfl
  · rw [ht, hkicked.halt, hmoved.halt, hsame.halt]
  · rw [ht]
    exact (htouches.andThen hmoved (hs := [.pacer, .halt, .office])).andThen (officeKick_touches _)

/-- The drive's DONE of a drive that has reported a fault (R63). -/
theorem startDone_faulty {r : DriveReport} (hstate : s.halt.state = .clear ∨ s.halt.state = .restarting) (room : s.noticeRoom 2)
    (hreport : s.pacer.report = some r) (hfault : r.fault ≠ 0) (ht : t = s.startDone.officeKick) :
    t.pacer.state = .halted ∧ t.pacer.resume = true ∧ t.pacer.speed = 0 ∧ t.pacer.start = none ∧
    Raises s.startedClear t (s.causeNow .driveFault) ∧
    Sends [.cars, .pacer, .seq, .gate, .ring, .halt] s t []
      ((if s.halt.state = .restarting then s.closeNotices .resumed else []) ++
        s.startedClear.causeNotices (s.causeNow .driveFault)) := by
  have hroom : s.office.notices.length + 2 ≤ 32 := room
  have hsame := startedClear_runs hstate
  have hchecked := admissionCheck_touches s.runs
  have hpacer : s.runs.admissionCheck.pacer = { s.begun.pacer with state := .running } := hchecked.pacer.trans (runs_pacer s)
  have hhalt : s.runs.admissionCheck.halt = s.startedClear.halt := hchecked.halt.trans hsame.halt
  have hqueued := (runs_queues (s := s) (by show s.office.notices.length + 1 ≤ 32; omega)).touch hchecked
    (hs := [.cars, .pacer, .seq, .gate, .ring, .halt])
  have hlength : (if s.halt.state = .restarting then s.closeNotices .resumed else []).length ≤ 1 := by
    split
    · exact closeNotices_length s .resumed
    · simp
  have hraise := faultAtEntry_raises (s := s.runs.admissionCheck) (r := r) (by rw [hpacer]; exact hreport) hfault
  rw [startDone_eq, hraise] at ht
  generalize s.runs.admissionCheck = w at *
  have hclear : w.halt.state = .clear := by rw [hhalt]; rfl
  have hcause : w.causeNow .driveFault = s.causeNow .driveFault := causeNow_congr hqueued.1.belt hqueued.1.uptime _ _ _ _ _
  have hraised := raise_raises (s := w) .driveFault none none none none (by decide)
  have hnotices := raise_queues (s := w) .driveFault none none none none (by decide) (by rw [hqueued.notices_length]; omega)
  rw [causeNotices_of_halt (s := s.startedClear) hhalt] at hnotices
  have hpacerHalted : (w.raise .driveFault).pacer = w.pacer.halted w.timing.driveStop := by
    rw [raise_eq_openBy hclear (by decide)]
    unfold State.openBy
    dsimp only
    rw [(enterHalting_touches _).pacer, (notify_touches _ _).pacer, haltActions_pacer, (newIncident_touches _ _).pacer,
      (newIncident_touches _ _).timing]
  rw [exitBlockedCheck_none (.inl (by rw [hpacerHalted]; exact (nofun : PacerState.halted ≠ .running)))] at ht
  rw [hcause] at hraised hnotices
  have hkicked := SameButOffice.kick (w.raise .driveFault)
  rw [← ht] at hkicked
  have hafter : t.pacer = w.pacer.halted w.timing.driveStop := hkicked.pacer.trans hpacerHalted
  refine ⟨by rw [hafter]; rfl, by rw [hafter, hpacer]; rfl, by rw [hafter]; rfl, by rw [hafter]; rfl,
    (hraised.of_halt hhalt).kick hkicked, ?_⟩
  rw [ht]
  exact (hqueued.andThen hnotices (hs := [.cars, .pacer, .seq, .gate, .ring, .halt])).kick

/-- Settles O22: a START ends in RUNNING, with what the entry to RUNNING tests, or in STOPPED; either ends RESTARTING. -/
theorem startEnds : Obligations.StartEnds := by
  intro s
  refine ⟨fun h payload hr hnone hcall hsrc hstart hreport hblocked hready room =>
      ⟨_, exec_orderAck_start hr hnone hcall hsrc hstart, startDone_kicked hreport hblocked hready room rfl⟩,
    fun h payload hr hnone hcall hsrc hstart hstate room =>
      ⟨_, _, _, exec_orderAck_start hr hnone hcall hsrc hstart, rfl, rfl,
        fun hreport hready hblocked => startDone_ready hstate hreport hready hblocked rfl,
        fun c hreport hready hblocked => startDone_blocked hstate hreport hready hblocked rfl,
        fun r hreport hfault => startDone_faulty hstate room hreport hfault rfl⟩,
    fun c number reason hfails => ⟨_, exec_startFails hfails, startFailure_kicked rfl⟩⟩

end Sys2Proof.Machine
end

section
/-! Other arrivals of the ring (R163, R166, R174) and its supervision (R167, R168): O25 and O26. -/

set_option Elab.async false

namespace Sys2Proof.Machine

variable {s t u : State} {h : Head} {payload : List Byte}

/-! ## O25 -/

theorem exec_returnedSetpoint (hl : s.live) (hreturned : isReturned h = true) {v : Nat} (hform : wordOperand payload = some v) :
    exec (.returnedSetpoint h payload) s =
      .next (if s.pacer.state.followsSetpoints then s.raise .driveFault else s).officeKick := by
  show execReturnedSetpoint h payload s = _
  unfold execReturnedSetpoint
  rw [ringFrame_taken hl hreturned hform]

theorem exec_returnedMaint (hl : s.live) (hreturned : isReturned h = true) (hlength : payload.length ≤ 39) :
    exec (.returnedMaint h payload) s = .next (s.reply h.order (.maint .noNode h.dst [])).officeKick := by
  show execReturnedMaint h payload s = _
  unfold execReturnedMaint
  rw [ringFrame_taken hl hreturned (x := ()) (if_pos hlength)]

theorem exec_maintReply (hl : s.live) (hn : fromNode h = true) (hlow : 32 ≤ h.order) (hhigh : h.order ≤ 63) :
    exec (.maintReply h payload) s = .next (s.reply h.order (.maint .ok h.src (payload.take 38))).officeKick := by
  show execMaintReply h payload s = _
  unfold execMaintReply
  rw [ringFrame_taken hl hn rfl, if_pos ⟨hlow, hhigh⟩]

/-- A reply that finds no place sets the reply-lost flag alone (R172, R174). -/
theorem reply_lost (d : Nat) (b : ReplyBody) (hfull : 8 ≤ s.office.replies.length) : ReplyLost s (s.reply d b).officeKick := by
  have hoffice : (s.reply d b).office = { s.office with replyLost := true } := if_pos hfull
  have hkick : (s.reply d b).officeKick.office = ({ s.office with replyLost := true } : Office).kick s.pins.ohold := by
    rw [← hoffice]
    rfl
  obtain ⟨haddress, hwindows, hbad, hreply, hnotice⟩ := Office.kick_settings { s.office with replyLost := true } s.pins.ohold
  have houtgoing := Office.kick_outgoing { s.office with replyLost := true } s.pins.ohold
  unfold ReplyLost
  rw [hkick]
  refine ⟨?_, houtgoing, ?_, ?_, ?_, ?_, (reply_touches s d b).andThen (officeKick_touches _)⟩
  all_goals assumption

/-- A frame of the wrong class or form is discarded (R163). -/
theorem exec_discarded {c : Instr} (hl : s.live)
    (hc : (c = Instr.armState h payload ∧ (fromNode h = false ∨ armPayload payload = none)) ∨
      (c = .driveState h payload ∧ (fromNode h = false ∨ drivePayload payload = none)) ∨
      (c = .orderAck h payload ∧ (fromNode h = false ∨ ackPayload payload = none)) ∨
      (c = .maintReply h payload ∧ fromNode h = false) ∨
      (c = .returnedOrder h payload ∧ (isReturned h = false ∨ orderForm payload = false)) ∨
      (c = .returnedSetpoint h payload ∧ (isReturned h = false ∨ wordOperand payload = none)) ∨
      (c = .returnedMaint h payload ∧ (isReturned h = false ∨ 40 ≤ payload.length)) ∨
      (c = .broadcastReturn h payload ∧ (isBroadcastReturn h = false ∨ stampPayload payload = none))) :
    exec c s = .next s.officeKick := by
  rcases hc with ⟨rfl, hno⟩ | ⟨rfl, hno⟩ | ⟨rfl, hno⟩ | ⟨rfl, hno⟩ | ⟨rfl, hno⟩ | ⟨rfl, hno⟩ | ⟨rfl, hno⟩ | ⟨rfl, hno⟩
  · show execArmState h payload s = _
    exact ringFrame_discarded hl hno _
  · show execDriveState h payload s = _
    exact ringFrame_discarded hl hno _
  · show execOrderAck h payload s = _
    exact ringFrame_discarded hl hno _
  · show execMaintReply h payload s = _
    exact ringFrame_discarded hl (.inl hno) _
  · show execReturnedOrder h payload s = _
    have hform : isReturned h = false ∨ (if orderForm payload then some () else none) = none :=
      hno.imp_right fun h => by rw [h]; rfl
    exact ringFrame_discarded hl hform _
  · show execReturnedSetpoint h payload s = _
    exact ringFrame_discarded hl hno _
  · show execReturnedMaint h payload s = _
    have hform : isReturned h = false ∨ (if payload.length ≤ 39 then some () else none) = none :=
      hno.imp_right fun h => if_neg (by omega)
    exact ringFrame_discarded hl hform _
  · show execBroadcastReturn h payload s = _
    exact ringFrame_discarded hl hno _

/-- A bad frame on the office link is counted (R163). -/
theorem badFrame_office (hl : s.live) :
    ∃ t, exec (.badFrame .office) s = .next t ∧ t.office.badFrames = min 65535 (s.office.badFrames + 1) ∧
      t.office.outgoing = s.office.outgoing ∧ t.office.windows = s.office.windows ∧ t.office.address = s.office.address ∧
      t.office.replyLost = s.office.replyLost ∧ t.office.noticeLost = s.office.noticeLost ∧ Touches [.office] s t := by
  have hexec : execBadFrame .office s =
      .next (s.onOffice fun o => { o with badFrames := min 65535 (o.badFrames + 1) }).officeKick := live_of_released hl _
  obtain ⟨haddress, hwindows, hreply, hnotice, hbad⟩ := Office.kick_settings
    { s.office with badFrames := min 65535 (s.office.badFrames + 1) } s.pins.ohold
  have houtgoing := Office.kick_outgoing { s.office with badFrames := min 65535 (s.office.badFrames + 1) } s.pins.ohold
  exact ⟨_, hexec, hbad, houtgoing, hwindows, haddress, hreply, hnotice,
    (touches_onOffice s _).andThen (officeKick_touches _)⟩

theorem exec_returnedBrake (hl : s.live) : exec (.returnedBrake h payload) s = .next s.officeKick := by
  show execReturnedBrake h payload s = _
  unfold execReturnedBrake ringFrame
  rw [live_of_released hl]
  split <;> rfl

theorem exec_maintReply_other (hl : s.live) (hother : h.order < 32 ∨ 63 < h.order) :
    exec (.maintReply h payload) s = .next s.officeKick := by
  show execMaintReply h payload s = _
  cases hn : fromNode h with
  | false => exact exec_discarded hl (.inr (.inr (.inr (.inl ⟨rfl, hn⟩))))
  | true =>
    unfold execMaintReply
    rw [ringFrame_taken hl hn rfl, if_neg (by omega)]

/-- Settles O25: each arrival is taken or discarded by its form. -/
theorem otherArrivalsOfTheRing : Obligations.OtherArrivalsOfTheRing := by
  refine ⟨fun s h payload hl => ⟨fun hreturned v hform => ⟨fun hstate room => ?_, fun hstate => ?_⟩,
      ⟨_, exec_returnedBrake hl, (Queues.refl s).kick⟩, fun hreturned hlength hroom =>
        ⟨_, exec_returnedMaint hl hreturned hlength, (Queues.reply s _ _ hroom).kick⟩,
      fun hreturned hlength hfull => ⟨_, exec_returnedMaint hl hreturned hlength, reply_lost _ _ hfull⟩,
      fun hn hlow hhigh hfull => ⟨_, exec_maintReply hl hn hlow hhigh, reply_lost _ _ hfull⟩,
      fun hn hlow hhigh hroom => ⟨_, exec_maintReply hl hn hlow hhigh, (Queues.reply s _ _ hroom).kick⟩,
      fun hother => ⟨_, exec_maintReply_other hl hother, (Queues.refl s).kick⟩⟩,
    fun s hl => ⟨?_, badFrame_office hl, fun h payload c hc => ⟨_, exec_discarded hl hc, (Queues.refl s).kick⟩⟩⟩
  · refine ⟨_, exec_returnedSetpoint hl hreturned hform, ?_⟩
    have hfollows : s.pacer.state.followsSetpoints = true := by
      rcases hstate with h | h | h <;> rw [h] <;> rfl
    rw [if_pos hfollows]
    exact ⟨(raise_raises .driveFault none none none none (by decide)).kick (.kick _),
      (raise_queues (s := s) .driveFault none none none none (by decide) room).kick⟩
  · refine ⟨_, exec_returnedSetpoint hl hreturned hform, ?_⟩
    have hfollows : s.pacer.state.followsSetpoints = false := by
      rcases hstate with h | h | h <;> rw [h] <;> rfl
    rw [hfollows]
    exact (Queues.refl s).kick
  · have hexec : execBadFrame .ring s =
        .next (s.onRing fun r => { r with badFrames := min 65535 (r.badFrames + 1) }).officeKick := live_of_released hl _
    exact ⟨_, hexec, (SameButOffice.kick _).ring, (Queues.of_touches (touches_onRing s _)).kick⟩

/-! ## O26 -/

theorem Ring.periodic_eq {r : Ring} (h : r.safety.any RingFrame.isBroadcast = false) (halt : HaltState) :
    r.periodic halt = r.afterPeriodic halt := by
  unfold Ring.periodic
  rw [h]
  rfl

theorem Ring.clearOutstanding_eq {r : Ring} (h : r.safety.any RingFrame.isBroadcast = false) (halt : HaltState) :
    r.clearOutstanding halt = if r.checkTimer = none then
      ({ r with outstanding := none, timeout := none } : Ring).afterPeriodic halt else { r with outstanding := none, timeout := none } := by
  unfold Ring.clearOutstanding
  dsimp only
  rw [Ring.periodic_eq (r := { r with outstanding := none, timeout := none }) h]
  simp only [Option.isNone_iff_eq_none]

/-- The ring's state and its outstanding broadcast are the same. -/
def Ring.watchesAs (r q : Ring) : Prop := q.state = r.state ∧ q.outstanding = r.outstanding ∧ q.timeout = r.timeout

theorem Ring.watchesAs.trans {r p q : Ring} (h : r.watchesAs p) (k : p.watchesAs q) : r.watchesAs q :=
  ⟨k.1.trans h.1, k.2.1.trans h.2.1, k.2.2.trans h.2.2⟩

theorem Ring.watchesAs_push (r : Ring) (c : RingClass) (f : RingFrame) : r.watchesAs (r.push c f) := by
  have happend : r.watchesAs (r.append c f) := by cases c <;> exact ⟨rfl, rfl, rfl⟩
  unfold Ring.push Ring.kick
  split
  · obtain ⟨hstate, houtstanding, -, htimeout, -⟩ := Ring.choose_rest (r.append c f)
    exact happend.trans ⟨hstate, houtstanding, htimeout⟩
  · exact happend

theorem Ring.watchesAs_requestBrake (r : Ring) (drive : Nat) : r.watchesAs (r.requestBrake drive) := by
  unfold Ring.requestBrake
  split
  · exact ⟨rfl, rfl, rfl⟩
  · exact r.watchesAs_push _ _

theorem Ring.watchesAs_haltAllStop (r : Ring) : r.watchesAs r.haltAllStop := by
  unfold Ring.haltAllStop
  dsimp only
  split
  · exact ⟨rfl, rfl, rfl⟩
  · exact Ring.watchesAs_push ({ ({ r with releasePending := false } : Ring).withdrawBroadcast with
      nextStamp := ({ r with releasePending := false } : Ring).withdrawBroadcast.nextStamp + 1 } : Ring) _ _

theorem Ring.watchesAs_haltedRing (r : Ring) (drive : Nat) : r.watchesAs (r.haltedRing drive) :=
  ((Ring.watchesAs_haltAllStop { r with order := [] }).trans (Ring.watchesAs_requestBrake _ drive)).trans
    (Ring.watchesAs_requestBrake { r.haltPart drive with motion := [] } drive)

theorem Ring.watchesAs_afterPeriodic (r : Ring) (halt : HaltState) : r.watchesAs (r.afterPeriodic halt) :=
  Ring.watchesAs_push { r with releasePending := false, nextStamp := r.nextStamp + 1 } _ _

/-- A halt entry keeps the state of the ring and its outstanding broadcast (R145). -/
theorem watchesAs_halted {fs : List Field} (h : Touches fs s t) (hu : u.ring = t.haltActions.ring)
    (hring : Field.ring ∉ fs := by decide) : s.ring.watchesAs u.ring := by
  rw [hu, haltActions_ring, h.ring hring]
  exact Ring.watchesAs_haltedRing _ _

theorem watchesAs_takeCause (s : State) (x : Cause) : s.ring.watchesAs (s.takeCause x).ring := by
  have hmarked := markStruck_touches s x
  have hadded := hmarked.andThen (addSecondary_touches _ x) (hs := [.cars, .halt, .office])
  have hsame {v : State} (h : v.ring = s.ring) : s.ring.watchesAs v.ring := by
    rw [h]
    exact ⟨rfl, rfl, rfl⟩
  unfold State.takeCause
  dsimp only
  split
  · split
    · exact hsame hmarked.ring
    · unfold State.openBy
      rw [enterHalting_eq]
      exact watchesAs_halted (hmarked.andThen (newIncident_touches _ x) (hs := [.cars, .halt]))
        ((touches_onHalt _ _).ring.trans (notify_touches _ _).ring)
  · unfold State.secondaryBy
    dsimp only
    split
    · rw [enterHalting_eq]
      exact watchesAs_halted (hadded.andThen (touches_onHalt _ _) (hs := [.cars, .halt, .office])) (touches_onHalt _ _).ring
    · exact hsame hadded.ring

/-- Settles O26: both ends of the outstanding broadcast clear it, and queue the periodic one that the check timer asked for. -/
theorem ringIsSupervised : Obligations.RingIsSupervised := by
  intro s hl hno
  refine ⟨fun h payload stamp hreturn hform => ?_, ?_, ?_⟩
  · have hexec : exec (.broadcastReturn h payload) s = .next (if s.ring.outstanding = some stamp then
        s.onRing fun r => ({ r with state := .up } : Ring).clearOutstanding s.halt.state else s).officeKick := by
      show execBroadcastReturn h payload s = _
      unfold execBroadcastReturn
      rw [ringFrame_taken hl hreturn hform]
    refine ⟨_, hexec, fun hother => ?_, fun hmine => ?_⟩
    · rw [if_neg hother]
      exact (Queues.refl s).kick
    · rw [if_pos hmine]
      exact ⟨(SameButOffice.kick _).ring.trans (Ring.clearOutstanding_eq (r := { s.ring with state := .up }) hno _),
        (Queues.of_touches (touches_onRing s _)).kick⟩
  · cases htimeout : s.ring.timeout with
    | none =>
      have hexec : exec .ringTimeout s = .next s.officeKick := by
        show execRingTimeout s = _
        unfold execRingTimeout
        rw [live_of_released hl, htimeout]
      exact ⟨_, hexec, fun _ => (Queues.refl s).kick, fun h => (by cases h), fun h => (by cases h)⟩
    | some n =>
      generalize hu : (s.onRing fun r => ({ r with state := .down } : Ring).clearOutstanding s.halt.state) = u
      have hmoved : Touches [.ring] s u := by
        rw [← hu]
        exact touches_onRing s _
      have hring : u.ring = if s.ring.checkTimer = none then
          ({ s.ring with state := .down, outstanding := none, timeout := none } : Ring).afterPeriodic s.halt.state
          else { s.ring with state := .down, outstanding := none, timeout := none } := by
        rw [← hu]
        exact Ring.clearOutstanding_eq (r := { s.ring with state := .down }) hno _
      have hexec : exec .ringTimeout s = .next (if s.ring.state = .up then u.raise .ringLoss else u).officeKick := by
        show execRingTimeout s = _
        unfold execRingTimeout
        rw [live_of_released hl, htimeout, ← hu]
      refine ⟨_, hexec, fun h => (by cases h), fun _ hdown => ?_, fun _ hup room => ?_⟩
      · rw [if_neg (by rw [hdown]; decide)]
        refine ⟨(SameButOffice.kick _).ring.trans ?_, (Queues.of_touches hmoved).kick⟩
        rw [hring, ← hdown]
      · rw [if_pos hup]
        have hkicked := SameButOffice.kick (u.raise .ringLoss)
        have hdown : ({ s.ring with state := .down, outstanding := none, timeout := none } : Ring).watchesAs u.ring := by
          rw [hring]
          split
          · exact Ring.watchesAs_afterPeriodic _ _
          · exact ⟨rfl, rfl, rfl⟩
        obtain ⟨hstate, houtstanding, htimer⟩ := hdown.trans (watchesAs_takeCause u (u.causeNow .ringLoss))
        have hcause : u.causeNow .ringLoss = s.causeNow .ringLoss := causeNow_congr hmoved.belt hmoved.uptime _ _ _ _ _
        have hraised := raise_raises (s := u) .ringLoss none none none none (by decide)
        have hqueues := (Queues.of_touches hmoved).raise .ringLoss none none none none (by decide) room hmoved.halt
          (hs := [.cars, .pacer, .seq, .gate, .ring, .halt])
        rw [hcause] at hraised hqueues
        exact ⟨by rw [hkicked.ring]; exact hstate, by rw [hkicked.ring]; exact houtstanding, by rw [hkicked.ring]; exact htimer,
          (hraised.of_halt hmoved.halt).kick hkicked, hqueues.kick⟩
  · cases hcheck : s.ring.checkTimer with
    | none =>
      have hexec : exec .ringCheckExpiry s = .next s.officeKick := by
        show execRingCheckExpiry s = _
        unfold execRingCheckExpiry
        rw [live_of_released hl, hcheck]
      exact ⟨_, hexec, ((Queues.refl s).mono).kick, (SameButOffice.kick s).ring⟩
    | some n =>
      cases hout : s.ring.outstanding with
      | some b =>
        have hexec : exec .ringCheckExpiry s = .next (s.onRing fun r => { r with checkTimer := none }).officeKick := by
          show execRingCheckExpiry s = _
          unfold execRingCheckExpiry
          rw [live_of_released hl, hcheck, hout]
        exact ⟨_, hexec, (Queues.of_touches (touches_onRing s _)).kick, (SameButOffice.kick _).ring⟩
      | none =>
        have hexec : exec .ringCheckExpiry s =
            .next (s.onRing fun r => ({ r with checkTimer := none } : Ring).periodic s.halt.state).officeKick := by
          show execRingCheckExpiry s = _
          unfold execRingCheckExpiry
          rw [live_of_released hl, hcheck, hout]
        refine ⟨_, hexec, (Queues.of_touches (touches_onRing s _)).kick, (SameButOffice.kick _).ring.trans ?_⟩
        show ({ s.ring with checkTimer := none } : Ring).periodic s.halt.state = _
        rw [Ring.periodic_eq (r := { s.ring with checkTimer := none }) hno]
        rfl

end Sys2Proof.Machine
end

section
/-! The ends of transmission (R44, R60, R103, R167, R169, R175): O27. -/

set_option Elab.async false

namespace Sys2Proof.Machine

variable {s t u : State}

/-- What the end of a frame leaves once its owner has been told. -/
theorem ringFinish_kicked {fs : List Field} (h : Touches fs s u) (hring : Field.ring ∉ fs := by decide)
    (hoffice : Field.office ∉ fs := by decide) :
    u.ringFinish.officeKick.ring = ({ s.ring with tx := none } : Ring).choose ∧ Quiet (.ring :: fs) s u.ringFinish.officeKick := by
  have hfinished : u.ringFinish.ring = ({ s.ring with tx := none } : Ring).choose := by
    rw [← h.ring hring]
    rfl
  refine ⟨(SameButOffice.kick u.ringFinish).ring.trans hfinished, ?_⟩
  exact ((Queues.of_touches h hoffice).touch (touches_onRing u Ring.finish)
    (hf := fun _ hf => List.mem_cons_of_mem _ hf) (hg := fun f hf => by
      rw [List.mem_singleton.1 hf]
      exact List.mem_cons_self)).kick

theorem exec_callTransmitted {dst number station : Nat} (hl : s.live) (htx : s.ring.tx = some (.order dst number .call station)) :
    exec .callTransmitted s = .next (s.callSent number).ringFinish.officeKick := by
  show execCallTransmitted s = _
  unfold execCallTransmitted
  rw [live_of_released hl, htx]

theorem exec_startTransmitted {dst number station : Nat} (hl : s.live) (htx : s.ring.tx = some (.order dst number .start station)) :
    exec .startTransmitted s = .next (s.startSent number).ringFinish.officeKick := by
  show execStartTransmitted s = _
  unfold execStartTransmitted
  rw [live_of_released hl, htx]

theorem exec_stationOrderTransmitted {dst number station : Nat} {action : Action} (hl : s.live)
    (htx : s.ring.tx = some (.order dst number action station)) (hcall : action ≠ .call) (hstart : action ≠ .start) :
    exec .stationOrderTransmitted s = .next (s.orderSent number).ringFinish.officeKick := by
  have hstation : action.forStation = true := by
    cases action with
    | call => exact absurd rfl hcall
    | start => exact absurd rfl hstart
    | _ => rfl
  show execStationOrderTransmitted s = _
  unfold execStationOrderTransmitted
  rw [live_of_released hl, htx]
  dsimp only
  rw [if_pos hstation]

theorem exec_transmitted_idle {c : Instr} (hl : s.live) (htx : s.ring.tx = none)
    (hc : c ∈ [Instr.callTransmitted, .startTransmitted, .stationOrderTransmitted]) : exec c s = .next s.officeKick := by
  simp only [List.mem_cons, List.not_mem_nil, or_false] at hc
  rcases hc with rfl | rfl | rfl
  · show execCallTransmitted s = _
    unfold execCallTransmitted
    rw [live_of_released hl, htx]
  · show execStartTransmitted s = _
    unfold execStartTransmitted
    rw [live_of_released hl, htx]
  · show execStationOrderTransmitted s = _
    unfold execStationOrderTransmitted
    rw [live_of_released hl, htx]

/-- Settles O27: the owner is told of the end of its frame, and the next choice is made. -/
theorem framesAreTransmitted : Obligations.FramesAreTransmitted := by
  refine ⟨fun s hl => ⟨fun dst number station htx => ?_, fun dst number station htx => ?_,
      fun dst number action station htx hcall hstart => ?_,
      fun htx c hc => ⟨_, exec_transmitted_idle hl htx hc, (Queues.refl s).kick⟩⟩,
    fun s hl => ⟨fun kind stamp htx => ?_, fun htx => ?_, ?_⟩⟩
  · have htold : Touches [.gate] s (s.callSent number) := (touches_onGate s _).ite (Touches.refl _ s)
    obtain ⟨hring, hquiet⟩ := ringFinish_kicked htold
    refine ⟨_, exec_callTransmitted hl htx, hring, ?_, hquiet⟩
    refine (SameButOffice.kick (s.callSent number).ringFinish).gate.trans ?_
    show (s.callSent number).gate = _
    unfold State.callSent
    split <;> rfl
  · have htold : Touches [.pacer] s (s.startSent number) := (touches_onPacer s _).ite (Touches.refl _ s)
    obtain ⟨hring, hquiet⟩ := ringFinish_kicked htold
    refine ⟨_, exec_startTransmitted hl htx, hring, ?_, hquiet⟩
    refine (SameButOffice.kick (s.startSent number).ringFinish).pacer.trans ?_
    show (s.startSent number).pacer = _
    unfold State.startSent
    split <;> rfl
  · refine ⟨_, exec_stationOrderTransmitted hl htx hcall hstart, ?_, fun hnone => ?_, fun i o hi ho => ?_⟩
    · have htold : Touches [.seq] s (s.orderSent number) := by
        unfold State.orderSent
        split
        · exact Touches.refl _ s
        · exact onStation_touches s _ _
      exact (ringFinish_kicked htold).1
    · have htold : s.orderSent number = s := by
        unfold State.orderSent
        rw [hnone]
      rw [htold]
      exact (ringFinish_kicked (Touches.refl [] s)).2
    · have htold : s.orderSent number = s.stationed i { s.seq.stations[i] with
          current := some { o with transmitted := true }, timer := some s.timing.orderAck } := by
        unfold State.orderSent
        rw [hi]
        dsimp only
        rw [onStation_eq_stationed, ho]
        rfl
      rw [htold]
      exact ⟨(SameButOffice.kick _).seq, (ringFinish_kicked (onStation_touches s i _)).2⟩
  · have hexec : exec .broadcastTransmitted s = .next (s.broadcastSent stamp).ringFinish.officeKick := by
      show execBroadcastTransmitted s = _
      unfold execBroadcastTransmitted
      rw [live_of_released hl, htx]
    exact ⟨_, hexec, ((Queues.of_touches (touches_onRing s _)).touch (touches_onRing _ Ring.finish)).kick,
      (SameButOffice.kick (s.broadcastSent stamp).ringFinish).ring⟩
  · have hexec : exec .ringFrameTransmitted s = .next s.ringFinish.officeKick := by
      show execRingFrameTransmitted s = _
      unfold execRingFrameTransmitted
      rw [live_of_released hl]
      rcases htx with ⟨dst, h⟩ | ⟨dst, speed, h⟩ | ⟨dst, party, data, h⟩ <;> rw [h]
    exact ⟨_, hexec, ringFinish_kicked (Touches.refl [] s)⟩
  · have hexec : execOfficeFrameSent s = .next (s.onOffice fun o => { o with tx := none }).officeKick := live_of_released hl _
    refine ⟨_, hexec, Office.kick_outgoing { s.office with tx := none } s.pins.ohold, ?_,
      Office.kick_settings { s.office with tx := none } s.pins.ohold, (touches_onOffice s _).andThen (officeKick_touches _)⟩
    show (({ s.office with tx := none } : Office).kick s.pins.ohold).tx = _
    cases hohold : s.pins.ohold with
    | asserted => exact congrArg Office.tx (Office.kick_asserted { s.office with tx := none })
    | released => exact Office.kick_released (o := { s.office with tx := none }) rfl

end Sys2Proof.Machine
end

section
/-! The arbiter (R169): O28. -/

set_option Elab.async false

namespace Sys2Proof.Machine

variable {r : Ring} {c d : RingClass}

/-- The classes in the order that resolves equal values (R169). -/
def RingClass.all : List RingClass := [.safety, .motion, .order, .pass]

theorem RingClass.mem_all (c : RingClass) : c ∈ RingClass.all := by cases c <;> decide

/-- A class has a frame. -/
def Ring.waits (r : Ring) (c : RingClass) : Bool := !(r.queueOf c).isEmpty

theorem Ring.waits_iff : r.waits c = true ↔ r.queueOf c ≠ [] := by
  unfold Ring.waits
  rw [Bool.not_eq_true', List.isEmpty_eq_false_iff]

/-- The candidates are the classes with a frame, with their effective priorities. -/
theorem Ring.candidates_eq (r : Ring) : r.candidates = (RingClass.all.filter r.waits).map fun c => (c, r.effective c) := by
  have hone (c : RingClass) : (if (r.queueOf c).isEmpty then [] else [(c, r.effective c)]) =
      ([c].filter r.waits).map fun c => (c, r.effective c) := by
    unfold Ring.waits
    cases h : (r.queueOf c).isEmpty <;> simp [h]
  have hall : RingClass.all = [.safety] ++ [.motion] ++ [.order] ++ [.pass] := rfl
  rw [hall, List.filter_append, List.filter_append, List.filter_append, List.map_append, List.map_append, List.map_append,
    ← hone, ← hone, ← hone, ← hone]
  rfl

/-- The first of the lowest: the fold keeps a member that every other member yields to. -/
theorem foldl_best_eq (x best : RingClass × Nat) (rest : List (RingClass × Nat))
    (hordered : (best :: rest).Pairwise fun a b => a.1.rank < b.1.rank) (hx : x ∈ best :: rest)
    (hlow : ∀ y ∈ best :: rest, y ≠ x → x.2 < y.2 ∨ (x.2 = y.2 ∧ x.1.rank < y.1.rank)) :
    rest.foldl (fun best y => if y.2 < best.2 then y else best) best = x := by
  induction rest generalizing best with
  | nil => exact (List.mem_singleton.1 hx).symm
  | cons z rest ih =>
    rw [List.foldl_cons]
    obtain ⟨hbest, hrest⟩ := List.pairwise_cons.1 hordered
    have hz := hbest z List.mem_cons_self
    have hkept : (best :: rest).Pairwise fun a b => a.1.rank < b.1.rank :=
      List.pairwise_cons.2 ⟨fun y hy => hbest y (List.mem_cons_of_mem _ hy), (List.pairwise_cons.1 hrest).2⟩
    split
    next hlower =>
      refine ih z hrest ?_ fun y hy => hlow y (List.mem_cons_of_mem _ hy)
      rcases List.mem_cons.1 hx with rfl | hmem
      · have hyields := hlow z (by simp) (by rintro rfl; omega)
        omega
      · exact hmem
    next hnot =>
      refine ih best hkept ?_ fun y hy => hlow y ?_
      · rcases List.mem_cons.1 hx with rfl | hmem
        · exact List.mem_cons_self
        · rcases List.mem_cons.1 hmem with rfl | hmem
          · have hyields := hlow best List.mem_cons_self (by rintro rfl; omega)
            omega
          · exact List.mem_cons_of_mem _ hmem
      · rcases List.mem_cons.1 hy with rfl | hy
        · exact List.mem_cons_self
        · exact List.mem_cons_of_mem _ (List.mem_cons_of_mem _ hy)

theorem lowestClass_eq {l : List (RingClass × Nat)} {x : RingClass × Nat} (hordered : l.Pairwise fun a b => a.1.rank < b.1.rank)
    (hx : x ∈ l) (hlow : ∀ y ∈ l, y ≠ x → x.2 < y.2 ∨ (x.2 = y.2 ∧ x.1.rank < y.1.rank)) : lowestClass l = some x.1 := by
  cases l with
  | nil => cases hx
  | cons best rest =>
    show some (rest.foldl (fun best y => if y.2 < best.2 then y else best) best).1 = _
    rw [foldl_best_eq x best rest hordered hx hlow]

/-- The class that wins the choice is the one the arbiter takes (R169). -/
theorem Ring.lowestClass_of_winner (h : r.winner c) : lowestClass r.candidates = some c := by
  obtain ⟨hwaits, hlow⟩ := h
  rw [r.candidates_eq]
  refine lowestClass_eq (x := (c, r.effective c)) ?_ ?_ ?_
  · rw [List.pairwise_map]
    exact List.Pairwise.filter _ (by decide : RingClass.all.Pairwise fun a b => a.rank < b.rank)
  · exact List.mem_map_of_mem (List.mem_filter.2 ⟨c.mem_all, Ring.waits_iff.2 hwaits⟩)
  · intro y hy hne
    obtain ⟨d, hd, rfl⟩ := List.mem_map.1 hy
    refine hlow d ?_ (Ring.waits_iff.1 (List.mem_filter.1 hd).2)
    rintro rfl
    exact hne rfl

theorem Ring.choose_of_empty (h : ∀ c, r.queueOf c = []) : r.choose = r := by
  have hnone : r.candidates = [] := by
    rw [r.candidates_eq, List.filter_eq_nil_iff.2 fun c _ => by rw [Ring.waits_iff, h c]; exact fun h => h rfl]
    rfl
  unfold Ring.choose
  rw [hnone]
  rfl

theorem ageAfter_lost (queue : List RingFrame) (age : Nat) :
    ageAfter queue false age = if queue = [] then age else min 15 (age + 1) := by
  cases queue <;> rfl

/-- What the choice makes of the winner and of the other classes (R169). -/
theorem Ring.choose_of_winner (h : r.winner c) :
    r.choose.tx = (r.queueOf c).head? ∧ r.choose.queueOf c = (r.queueOf c).tail ∧
    (∀ d, d ≠ c → r.choose.queueOf d = r.queueOf d) ∧ r.choose.ageOf c = 0 ∧
    (∀ d, d ≠ c → d ≠ .safety → r.choose.ageOf d = if r.queueOf d = [] then r.ageOf d else min 15 (r.ageOf d + 1)) ∧
    r.choose.prioMotion = r.prioMotion ∧ r.choose.prioOrder = r.prioOrder ∧ r.choose.prioPass = r.prioPass := by
  unfold Ring.choose
  rw [Ring.lowestClass_of_winner h]
  refine ⟨rfl, ?_, fun d hd => ?_, ?_, fun d hd hsafety => ?_, rfl, rfl, rfl⟩
  · cases c <;> rfl
  · cases d <;> exact if_neg hd.symm
  · cases c <;> rfl
  · have hlost : decide (c = d) = false := decide_eq_false hd.symm
    cases d with
    | safety => exact absurd rfl hsafety
    | motion => exact (congrArg (ageAfter r.motion · r.ageMotion) hlost).trans (ageAfter_lost _ _)
    | order => exact (congrArg (ageAfter r.order · r.ageOrder) hlost).trans (ageAfter_lost _ _)
    | pass => exact (congrArg (ageAfter r.pass · r.agePass) hlost).trans (ageAfter_lost _ _)

theorem Ring.append_rest (r : Ring) (c : RingClass) (f : RingFrame) :
    (r.append c f).tx = r.tx ∧ (∀ d, (r.append c f).ageOf d = r.ageOf d) ∧ ∀ d, (r.append c f).effective d = r.effective d := by
  cases c <;> refine ⟨rfl, fun d => ?_, fun d => ?_⟩ <;> cases d <;> rfl

/-- Settles O28: the arbiter's fold finds the winner, since the candidates stand in the order that resolves equal priorities. -/
theorem arbiterTakesTheLowest : Obligations.ArbiterTakesTheLowest := by
  refine fun r => ⟨Ring.choose_of_empty, fun c h => ?_, fun c f => ⟨r.append c f, ?_⟩⟩
  · obtain ⟨htx, hwon, hothers, hage, hages, hmotion, horder, hpass⟩ := Ring.choose_of_winner h
    obtain ⟨hstate, hout, hstamp, htimeout, hcheck, hrelease, hbad⟩ := r.choose_rest
    exact ⟨htx, hwon, hothers, hage, hages, hstate, hout, hstamp, htimeout, hcheck, hrelease, hbad, hmotion, horder, hpass⟩
  · obtain ⟨htx, hages, heffective⟩ := r.append_rest c f
    refine ⟨htx, by rw [Ring.append_queueOf, if_pos rfl], fun d hd => by rw [Ring.append_queueOf, if_neg hd], hages, heffective, ?_⟩
    unfold Ring.push Ring.kick
    rw [htx]
    simp only [Option.isNone_iff_eq_none]

end Sys2Proof.Machine
end

section
/-! Quotes (R120 to R124): O29. -/

set_option Elab.async false

namespace Sys2Proof.Machine

variable {s t u : State} {h : Head} {payload : List Byte} {k : Fin 15}

/-! ## What a selection resolves to (R120) -/

theorem hit_iff {w : CodeWindow} {code : BitVec 16} :
    w.hit code = true ↔ w.enabled = true ∧ code &&& w.mask = w.base &&& w.mask := by
  unfold CodeWindow.hit
  rw [Bool.and_eq_true, beq_iff_eq]

theorem hit_false_iff {w : CodeWindow} {code : BitVec 16} :
    w.hit code = false ↔ w.enabled = false ∨ code &&& w.mask ≠ w.base &&& w.mask := by
  rw [← Bool.not_eq_true, hit_iff, not_and_or, Bool.not_eq_true]

theorem resolve_plan_iff {sel : Selection} {n : Nat} :
    s.resolve (.plan n) = some sel ↔ sel = { plan := n, discount := 0, granted := 0 } := by
  unfold State.resolve
  rw [Option.some.injEq]
  exact eq_comm

theorem resolve_code_iff {sel : Selection} {code : BitVec 16} : s.resolve (.code code) = some sel ↔ ∃ k : Fin 8,
    (s.book.codes[k].enabled = true ∧ code &&& s.book.codes[k].mask = s.book.codes[k].base &&& s.book.codes[k].mask) ∧
    (∀ j : Fin 8, j < k → s.book.codes[j].enabled = false ∨
      code &&& s.book.codes[j].mask ≠ s.book.codes[j].base &&& s.book.codes[j].mask) ∧
    sel = { plan := s.book.codes[k].plan.val
            discount := s.book.codes[k].discount
            granted := if s.book.codes[k].grant = true then (code &&& ~~~s.book.codes[k].mask).setWidth 8 else 0 } := by
  unfold State.resolve resolveCode
  rw [Option.map_eq_some_iff]
  refine exists_congr fun k => ?_
  rw [find?_increasing_iff (List.pairwise_lt_finRange 8), hit_iff]
  simp only [hit_false_iff, List.mem_finRange, true_and, true_imp_iff]
  constructor
  · rintro ⟨⟨hhit, hfirst⟩, rfl⟩
    exact ⟨hhit, hfirst, rfl⟩
  · rintro ⟨hhit, hfirst, rfl⟩
    exact ⟨⟨hhit, hfirst⟩, rfl⟩

theorem offeredPlan_iff {n : Nat} {p : Fin 16} :
    s.offeredPlan n = some p ↔ n = p.val ∧ 1 ≤ n ∧ s.book.plans[p].state = .offered := by
  unfold State.offeredPlan
  by_cases hn : n < 16
  · rw [dif_pos hn]
    constructor
    · intro h
      dsimp only at h
      split at h
      next hoffered =>
        cases h
        exact ⟨rfl, hoffered⟩
      next => cases h
    · rintro ⟨rfl, hoffered⟩
      exact if_pos hoffered
  · rw [dif_neg hn]
    constructor
    · nofun
    · rintro ⟨rfl, -⟩
      exact absurd p.isLt hn

/-! ## Gross and activity (R122) -/

theorem foldl_add_eq {α : Type} (p : α → Prop) [DecidablePred p] (f : α → Nat) (l : List α) (a : Nat) :
    l.foldl (fun sum k => if p k then sum + f k else sum) a = a + (l.map fun k => if p k then f k else 0).sum := by
  induction l generalizing a with
  | nil => rfl
  | cons x l ih =>
    rw [List.foldl_cons, ih, List.map_cons, List.sum_cons]
    split <;> omega

theorem gross_eq (b : SaleBook) (p : Fin 16) (requested granted : OptionSet) :
    b.gross p requested granted = b.plans[p].price + ((List.finRange 8).map fun k =>
      if requested.getLsbD k.val = true ∧ granted.getLsbD k.val = false then b.options[k].price else 0).sum := by
  unfold SaleBook.gross
  rw [foldl_add_eq (fun k : Fin 8 => (requested.getLsbD k.val && !granted.getLsbD k.val) = true)]
  simp only [Bool.and_eq_true, Bool.not_eq_true']
  rfl

theorem foldl_or_getLsbD {α : Type} (p : α → Bool) (f : α → StationSet) (l : List α) (a : StationSet) (i : StationId) :
    (l.foldl (fun x k => if p k then x ||| f k else x) a).getLsbD i.val =
      (a.getLsbD i.val || l.any fun k => p k && (f k).getLsbD i.val) := by
  induction l generalizing a with
  | nil => simp
  | cons x l ih =>
    rw [List.foldl_cons, ih, List.any_cons]
    cases hp : p x with
    | true => rw [if_pos rfl, BitVec.getLsbD_or, Bool.true_and, Bool.or_assoc]
    | false => simp

theorem activity_getLsbD (b : SaleBook) (p : Fin 16) (options : OptionSet) (i : StationId) :
    (b.activity p options).getLsbD i.val = (b.plans[p].stations.getLsbD i.val ||
      (List.finRange 8).any fun k => options.getLsbD k.val && b.options[k].added.getLsbD i.val) :=
  foldl_or_getLsbD (fun k : Fin 8 => options.getLsbD k.val) (fun k : Fin 8 => b.options[k].added) _ _ i

/-! ## The checks (R121) -/

theorem essentialsAvailable_iff {p : Fin 16} : s.essentialsAvailable p = true ↔
    ∀ i : StationId, hasStation s.book.plans[p].essential i = true → s.map.aliases[i] ≠ 0 ∧ s.seq.stations[i].phase ≠ .fault := by
  unfold State.essentialsAvailable State.available
  rw [List.all_eq_true]
  refine forall_congr' fun i => ?_
  simp only [mem_stationIds, true_imp_iff, Bool.or_eq_true, Bool.not_eq_true', Bool.and_eq_true, bne_iff_ne]
  rw [← Bool.not_eq_true, imp_iff_not_or]

theorem essentialsAvailable_false {p : Fin 16} (h : ∃ i : StationId, hasStation s.book.plans[p].essential i = true ∧
    (s.map.aliases[i] = 0 ∨ s.seq.stations[i].phase = .fault)) : s.essentialsAvailable p = false := by
  rw [← Bool.not_eq_true, essentialsAvailable_iff]
  obtain ⟨i, hessential, hno⟩ := h
  intro hall
  obtain ⟨halias, hphase⟩ := hall i hessential
  exact hno.elim halias hphase

theorem checkQuote_unknown {choice : QuoteChoice} {options : OptionSet} (h : s.resolve choice = none) :
    s.checkQuote choice options = .error .unknownCode := by
  unfold State.checkQuote
  rw [h]

theorem checkQuote_noPlan {choice : QuoteChoice} {options : OptionSet} {sel : Selection} (h : s.resolve choice = some sel)
    (hplan : s.offeredPlan sel.plan = none) : s.checkQuote choice options = .error .noPlan := by
  unfold State.checkQuote
  rw [h]
  dsimp only
  rw [hplan]

/-- The checks of a quote whose plan is offered. -/
theorem checkQuote_plan {choice : QuoteChoice} {options : OptionSet} {sel : Selection} {p : Fin 16}
    (h : s.resolve choice = some sel) (hplan : s.offeredPlan sel.plan = some p) :
    s.checkQuote choice options =
      if options &&& ~~~s.book.plans[p].allow ≠ 0 then .error .badOption
      else if s.essentialsAvailable p then
        .ok { plan := p, discount := sel.discount, requested := options, granted := sel.granted &&& s.book.plans[p].allow }
      else .error .planUnavailable := by
  unfold State.checkQuote
  rw [h]
  dsimp only
  rw [hplan]

/-! ## QUOTE_REQ -/

theorem exec_quoteReq_refused {choice : QuoteChoice} {options : OptionSet} {result : Result} (ha : s.acceptsTerminal h k)
    (hform : quotePayload payload = some (choice, options)) (hcheck : s.checkQuote choice options = .error result)
    (ht : exec (.quoteReq h payload) s = .next t) :
    Replies [] s t { src := s.office.address, dst := h.src, body := .quote result 0 0 0 0 } := by
  have hexec : exec (.quoteReq h payload) s = .next (s.reply h.src (.quote result 0 0 0 0)).officeKick := by
    show execQuoteReq h payload s = _
    unfold execQuoteReq
    rw [terminalRequest_taken ha hform]
    dsimp only
    rw [hcheck]
  rw [hexec] at ht
  cases ht
  exact (Queues.reply s _ _ ha.2.2.2).kick

theorem exec_quoteReq_made {choice : QuoteChoice} {options : OptionSet} {x : Offer} (ha : s.acceptsTerminal h k)
    (hform : quotePayload payload = some (choice, options)) (hcheck : s.checkQuote choice options = .ok x)
    (ht : exec (.quoteReq h payload) s = .next t) :
    t.book = (s.makeQuote k x).book ∧ Replies [.book] s t { src := s.office.address, dst := h.src
                                                            body := quoteReply (s.quoteOf (s.clearQuote k).freeSaleNumber x) } := by
  have hexec : exec (.quoteReq h payload) s =
      .next ((s.makeQuote k x).reply h.src (quoteReply (s.quoteOf (s.clearQuote k).freeSaleNumber x))).officeKick := by
    show execQuoteReq h payload s = _
    unfold execQuoteReq
    rw [terminalRequest_taken ha hform]
    dsimp only
    rw [hcheck]
  rw [hexec] at ht
  cases ht
  have hcleared : Touches [.book] s (s.clearQuote k) := touches_onBook s _
  have hfilled : Touches [.book] (s.clearQuote k) (s.makeQuote k x) := by
    unfold State.makeQuote
    exact touches_onBook _ _
  have hmade : Touches [.book] s (s.makeQuote k x) := hcleared.andThen hfilled
  exact ⟨(SameButOffice.kick _).book, (Queues.after hmade (Queues.reply (s.makeQuote k x) h.src _ ha.2.2.2)).kick⟩

theorem makeQuote_book (x : Offer) : (s.makeQuote k x).book = { s.book with
    nextNumber := nextInSequence 65535 (s.clearQuote k).freeSaleNumber
    quotes := s.book.quotes.set k (some (s.quoteOf (s.clearQuote k).freeSaleNumber x)) } := by
  show { s.book with
    quotes := (s.book.quotes.set k none).set k (some (s.quoteOf (s.clearQuote k).freeSaleNumber x))
    nextNumber := nextInSequence 65535 (s.clearQuote k).freeSaleNumber } = _
  rw [Vector.set_set]

/-- Settles O29: the checks in their order, and the quote they price. -/
theorem quotesAreMade : Obligations.QuotesAreMade := by
  refine ⟨fun s sel => ⟨fun n => resolve_plan_iff, fun code => resolve_code_iff⟩, fun s n p => offeredPlan_iff,
    fun b p requested granted => ⟨gross_eq b p requested granted, activity_getLsbD b p requested⟩,
    fun s h payload k choice options ha hform => ?_⟩
  have hexec : ∃ t, execQuoteReq h payload s = .next t := ⟨_, terminalRequest_taken ha hform _⟩
  obtain ⟨t, ht⟩ : ∃ t, exec (.quoteReq h payload) s = .next t := hexec
  refine ⟨t, ht, fun hnone => exec_quoteReq_refused ha hform (checkQuote_unknown hnone) ht,
    fun sel hsel hplan => exec_quoteReq_refused ha hform (checkQuote_noPlan hsel hplan) ht,
    fun sel p hsel hplan => ⟨fun hoption => ?_, fun hoption hessential => ?_, fun hoption hessential => ?_⟩⟩
  all_goals have hcheck := checkQuote_plan (options := options) hsel hplan
  · rw [if_pos hoption] at hcheck
    exact exec_quoteReq_refused ha hform hcheck ht
  · rw [if_neg (not_not.2 hoption), essentialsAvailable_false hessential] at hcheck
    exact exec_quoteReq_refused ha hform hcheck ht
  · rw [if_neg (not_not.2 hoption), if_pos (essentialsAvailable_iff.2 hessential)] at hcheck
    obtain ⟨hbook, hreplies⟩ := exec_quoteReq_made ha hform hcheck ht
    exact ⟨_, _, rfl, rfl, hbook.trans (makeQuote_book _), hreplies⟩

end Sys2Proof.Machine
end

section
/-! CLOSE_REQ (R125) and MAINT (R173): O30 and O32. -/

set_option Elab.async false

namespace Sys2Proof.Machine

variable {s t u : State} {h : Head} {payload : List Byte} {k : Fin 15} {number : Nat} {tender : Tender}

/-! ## O30 -/

theorem exec_closeReq_none (ha : s.acceptsTerminal h k) (hform : closePayload payload = some (number, tender))
    (hq : s.openQuote k number = none) :
    ∃ t, exec (.closeReq h payload) s = .next t ∧
      Replies [] s t { src := s.office.address, dst := h.src, body := .close .noQuote number 0 } := by
  have hexec : exec (.closeReq h payload) s = .next (s.reply h.src (.close .noQuote number 0)).officeKick := by
    show execCloseReq h payload s = _
    unfold execCloseReq
    rw [terminalRequest_taken ha hform]
    dsimp only
    rw [hq]
  exact ⟨_, hexec, (Queues.reply s _ _ ha.2.2.2).kick⟩

theorem exec_closeReq_full {q : Quote} (ha : s.acceptsTerminal h k) (hform : closePayload payload = some (number, tender))
    (hq : s.openQuote k number = some q) (hfull : 24 ≤ s.book.queue.length + s.reserve) :
    ∃ t, exec (.closeReq h payload) s = .next t ∧
      Replies [] s t { src := s.office.address, dst := h.src, body := .close .queueFull number 0 } := by
  have hexec : exec (.closeReq h payload) s = .next (s.reply h.src (.close .queueFull number 0)).officeKick := by
    show execCloseReq h payload s = _
    unfold execCloseReq
    rw [terminalRequest_taken ha hform]
    dsimp only
    rw [hq]
    dsimp only
    rw [if_pos hfull]
  exact ⟨_, hexec, (Queues.reply s _ _ ha.2.2.2).kick⟩

theorem exec_closeReq_queued {q : Quote} (ha : s.acceptsTerminal h k) (hform : closePayload payload = some (number, tender))
    (hq : s.openQuote k number = some q) (hroom : s.book.queue.length + s.reserve < 24) :
    ∃ t, exec (.closeReq h payload) s = .next t ∧
      t.book = { s.book with quotes := s.book.quotes.set k none, queue := s.book.queue ++ [q.toSale (k.val + 1) tender] } ∧
      Replies [.book, .seq, .gate, .ring] s t
        { src := s.office.address, dst := h.src, body := .close .ok number (s.book.queue.length + 1) } ∧
      (s.gate.phase ≠ .ready → Replies [.book] s t
        { src := s.office.address, dst := h.src, body := .close .ok number (s.book.queue.length + 1) }) := by
  have hexec : exec (.closeReq h payload) s =
      .next ((s.closeQuote k q tender).reply h.src (.close .ok number (s.book.queue.length + 1))).officeKick := by
    show execCloseReq h payload s = _
    unfold execCloseReq
    rw [terminalRequest_taken ha hform]
    dsimp only
    rw [hq]
    dsimp only
    rw [if_neg (by omega)]
  have hcleared : Touches [.book] s (s.clearQuote k) := touches_onBook s _
  have hsold := hcleared.andThen (touches_onBook _ fun b => { b with queue := b.queue ++ [q.toSale (k.val + 1) tender] })
    (hs := [.book])
  have hchecked := admissionCheck_touches ((s.clearQuote k).onBook fun b =>
    { b with queue := b.queue ++ [q.toSale (k.val + 1) tender] })
  have hclosed : s.closeQuote k q tender = ((s.clearQuote k).onBook fun b =>
    { b with queue := b.queue ++ [q.toSale (k.val + 1) tender] }).admissionCheck := rfl
  refine ⟨_, hexec, ?_, ?_, fun hready => ?_⟩
  · refine (SameButOffice.kick _).book.trans ?_
    show (s.closeQuote k q tender).book = _
    rw [hclosed, hchecked.book]
    rfl
  · rw [hclosed]
    have htouches := hsold.andThen hchecked (hs := [.book, .seq, .gate, .ring])
    have hqueues := Queues.after htouches (Queues.reply _ h.src (.close .ok number (s.book.queue.length + 1))
      (by rw [htouches.office]; exact ha.2.2.2)) (hs := [.book, .seq, .gate, .ring])
    rw [htouches.office] at hqueues
    exact hqueues.kick
  · rw [hclosed, admissionCheck_none (s := (s.clearQuote k).onBook fun b =>
      { b with queue := b.queue ++ [q.toSale (k.val + 1) tender] }) (.inl hready)]
    exact (Queues.after hsold (Queues.reply _ h.src (.close .ok number (s.book.queue.length + 1)) ha.2.2.2) (hs := [.book])).kick

/-- Settles O30: the lookup of the open quote and the room of the queue decide among the three answers. -/
theorem closesQueueTheSale : Obligations.ClosesQueueTheSale := by
  intro s h payload k number tender ha hform
  cases hq : s.openQuote k number with
  | none =>
    obtain ⟨t, hexec, hreplies⟩ := exec_closeReq_none ha hform hq
    have hno := openQuote_eq_none_iff.1 hq
    exact ⟨t, hexec, fun _ => hreplies, fun q hentry hnumber => absurd hnumber (hno q hentry),
      fun q hentry hnumber => absurd hnumber (hno q hentry)⟩
  | some found =>
    obtain ⟨hentry, hnumber⟩ := openQuote_eq_some_iff.1 hq
    by_cases hfull : 24 ≤ s.book.queue.length + s.reserve
    · obtain ⟨t, hexec, hreplies⟩ := exec_closeReq_full ha hform hq hfull
      exact ⟨t, hexec, fun hno => absurd hnumber (hno found hentry), fun _ _ _ _ => hreplies, fun _ _ _ hroom => by omega⟩
    · obtain ⟨t, hexec, hbook, hreplies, hquiet⟩ := exec_closeReq_queued ha hform hq (by omega)
      refine ⟨t, hexec, fun hno => absurd hnumber (hno found hentry), fun _ _ _ hfull' => absurd hfull' hfull,
        fun q hq' _ _ => ⟨?_, hreplies, hquiet⟩⟩
      rw [hentry] at hq'
      cases hq'
      rw [hbook, ← hnumber]
      rfl

/-! ## O32 -/

theorem exec_maint_refused {dst : Byte} {data : List Byte} {result : Result} (ha : s.accepts h)
    (hrefusal : s.passRefusal dst.toNat = some result) :
    exec (.maint h (dst :: data)) s = .next (s.reply h.src (.maint result dst.toNat [])).officeKick := by
  obtain ⟨hl, hdst, hlow, hhigh, hroom⟩ := ha
  have hsite : fromSite h = true := by simp [fromSite, hlow, hhigh]
  show execMaint h (dst :: data) s = _
  unfold execMaint
  rw [live_of_released hl, hsite]
  dsimp only [maintPayload]
  rw [if_neg (not_not.2 hdst), if_neg (by omega), hrefusal]

theorem exec_maint_forwarded {dst : Byte} {data : List Byte} (ha : s.accepts h) (hnone : s.passRefusal dst.toNat = none) :
    exec (.maint h (dst :: data)) s = .next (s.onRing fun r => r.push .pass (.maint dst.toNat h.src data)).officeKick := by
  obtain ⟨hl, hdst, hlow, hhigh, hroom⟩ := ha
  have hsite : fromSite h = true := by simp [fromSite, hlow, hhigh]
  show execMaint h (dst :: data) s = _
  unfold execMaint
  rw [live_of_released hl, hsite]
  dsimp only [maintPayload]
  rw [if_neg (not_not.2 hdst), if_neg (by omega), hnone]

theorem passRefusal_unpassable {dst : Nat} (h : dst = 0 ∨ dst ≥ 127 ∨ s.office.decides dst = none) :
    s.passRefusal dst = some .notPassable := by
  unfold State.passRefusal
  by_cases hrange : dst < 1 ∨ 126 < dst
  · exact if_pos hrange
  · rw [if_neg hrange]
    have hnone : s.office.decides dst = none := (h.resolve_left (by omega)).resolve_left (by omega)
    rw [hnone]

theorem passRefusal_decided {dst : Nat} {w : PassWindow} (hlow : 1 ≤ dst) (hhigh : dst ≤ 126) (hw : s.office.decides dst = some w) :
    s.passRefusal dst = if s.modeHolds w.mode = false then some .wrongState
      else if 8 ≤ s.ring.pass.length then some .busy else none := by
  unfold State.passRefusal
  rw [if_neg (by omega), hw]

theorem modeHolds_iff {m : PassMode} : s.modeHolds m = true ↔
    m = .always ∨ (m = .idleOnly ∧ s.cars = [] ∧ s.pacer.state = .stopped) ∨ (m = .haltedOnly ∧ s.halt.state = .halted) := by
  cases m <;> simp [State.modeHolds]

theorem modeHolds_false {m : PassMode} (h : (m = .idleOnly ∧ (s.cars ≠ [] ∨ s.pacer.state ≠ .stopped)) ∨
    (m = .haltedOnly ∧ s.halt.state ≠ .halted)) : s.modeHolds m = false := by
  rw [← Bool.not_eq_true, modeHolds_iff]
  rcases h with ⟨rfl, h⟩ | ⟨rfl, h⟩
  · rintro (h' | ⟨-, hcars, hstopped⟩ | ⟨h', -⟩)
    · cases h'
    · exact h.elim (fun h => h hcars) fun h => h hstopped
    · cases h'
  · rintro (h' | ⟨h', -⟩ | ⟨-, hhalted⟩)
    · cases h'
    · cases h'
    · exact h hhalted

/-- Settles O32: the refusal, or the frame at the tail of PASS. -/
theorem maintenanceIsForwarded : Obligations.MaintenanceIsForwarded := by
  intro s h dst data ha
  have hrefused {result : Result} (hrefusal : s.passRefusal dst.toNat = some result) {t : State}
      (ht : exec (.maint h (dst :: data)) s = .next t) :
      Replies [] s t { src := s.office.address, dst := h.src, body := .maint result dst.toNat [] } := by
    rw [exec_maint_refused ha hrefusal] at ht
    cases ht
    exact (Queues.reply s _ _ ha.2.2.2.2).kick
  obtain ⟨t, ht⟩ : ∃ t, exec (.maint h (dst :: data)) s = .next t := by
    cases hrefusal : s.passRefusal dst.toNat with
    | none => exact ⟨_, exec_maint_forwarded ha hrefusal⟩
    | some result => exact ⟨_, exec_maint_refused ha hrefusal⟩
  refine ⟨t, ht, fun hno => hrefused (passRefusal_unpassable hno) ht, fun w hlow hhigh hw => ⟨fun hmode => ?_,
    fun hmode => ⟨fun hfull => ?_, fun hroom => ?_⟩⟩⟩
  all_goals have hdecided := passRefusal_decided hlow hhigh hw
  · rw [if_pos (modeHolds_false hmode)] at hdecided
    exact hrefused hdecided ht
  · rw [if_neg (by rw [modeHolds_iff.2 hmode]; decide), if_pos hfull] at hdecided
    exact hrefused hdecided ht
  · rw [if_neg (by rw [modeHolds_iff.2 hmode]; decide), if_neg (by omega)] at hdecided
    rw [exec_maint_forwarded ha hdecided] at ht
    cases ht
    exact ⟨(SameButOffice.kick _).ring, (Queues.of_touches (touches_onRing s _)).kick⟩

end Sys2Proof.Machine
end

section
/-! Requests of the gate, the belt and the status: GATE OPEN and CLOSE (R48, R49), STOP (R59), STATUS READ (R183): O41, O43,
O51. -/

set_option Elab.async false

namespace Sys2Proof.Machine

variable {s t u : State} {h : Head}

/-- A request that is taken: the state its effect leads to but for the office port, and its reply after what the effect
queues. -/
theorem request_does {α : Type} (ha : s.accepts h) {code : Nat} {operands : Option α} {x : α} (ho : operands = some x)
    (f : State → α → Answer) :
    ∃ t, request s h code operands f = .next t ∧ SameButOffice (f s x).state t ∧
      ∀ fs ns, Queues fs s (f s x).state [] ns → Sends fs s t [mgmtReply s h code (f s x).result (f s x).data] ns := by
  have htaken := request_taken ha (code := code) ho f
  refine ⟨_, htaken, .reply _ _ _, fun fs ns q => ?_⟩
  obtain ⟨t, hexec, -, hsends⟩ := request_sends (code := code) ha ho q rfl rfl
  rw [htaken] at hexec
  cases hexec
  exact hsends

/-- A request without operands. -/
theorem plain_request (ha : s.accepts h) {code : Nat} (f : State → Answer) :
    ∃ t, request s h code (noOperands []) (fun s _ => f s) = .next t ∧ SameButOffice (f s).state t ∧
      ∀ fs ns, Queues fs s (f s).state [] ns → Sends fs s t [mgmtReply s h code (f s).result (f s).data] ns :=
  request_does ha (x := ()) rfl fun s _ => f s

/-- A request without operands that is always taken and carries no data. -/
theorem done_request (ha : s.accepts h) {code : Nat} (f : State → State) :
    ∃ t, request s h code (noOperands []) (fun s _ => (f s).done) = .next t ∧ SameButOffice (f s) t ∧
      ∀ fs ns, Queues fs s (f s) [] ns → Sends fs s t [mgmtReply s h code .ok []] ns :=
  plain_request ha fun s => (f s).done

/-! ## O41 -/

/-- The gate with GATE OPEN taken, before its admission check (R48). -/
def State.opened (s : State) : State := s.onGate fun g => { g with isOpen := true, phase := g.phase.opened s.loadingOn }

theorem opened_touches (s : State) : Touches [.gate] s s.opened := touches_onGate s _

theorem opened_phase (s : State) : s.opened.gate.phase =
    if s.gate.phase = .closed then (if s.eyes[(0 : Fin 10)].on then .ready else .waiting) else s.gate.phase := by
  show s.gate.phase.opened s.loadingOn = _
  unfold GatePhase.opened
  split
  next hclosed => rw [if_pos hclosed]; rfl
  next hother => rw [if_neg hother]

/-- The phase is no part of the seven conditions (R42). -/
theorem opened_admissible (s : State) : s.opened.admissible = (s.onGate fun g => { g with isOpen := true }).admissible := rfl

theorem openGate_refused (hroller : s.gate.roller = 0) : s.openGate = s.refuse .notConfigured := if_pos hroller

theorem openGate_done (hroller : s.gate.roller ≠ 0) : s.openGate = s.opened.admissionCheck.done := if_neg hroller

theorem exec_gateClose (ha : s.accepts h) : ∃ t, exec (.gateClose h []) s = .next t ∧
    t.gate = { s.gate with
      isOpen := false
      phase := if s.gate.phase = .waiting ∨ s.gate.phase = .ready then .closed else s.gate.phase } ∧
    Replies [.gate] s t (mgmtReply s h 0x11 .ok []) := by
  obtain ⟨t, hexec, hsame, hsends⟩ := done_request (code := 0x11) ha State.closeGate
  refine ⟨t, hexec, hsame.gate.trans ?_, hsends _ _ (.of_touches (closeGate_touches s))⟩
  have hshut : s.gate.phase.shut = if s.gate.phase = .waiting ∨ s.gate.phase = .ready then .closed else s.gate.phase := by
    cases s.gate.phase <;> rfl
  rw [← hshut]
  rfl

/-- Settles O41: the admission check of the opened gate calls a car, or does nothing. -/
theorem gateOpensAndCloses : Obligations.GateOpensAndCloses := by
  intro s h ha
  refine ⟨?_, exec_gateClose ha⟩
  obtain ⟨t, hexec, hsame, hsends⟩ := plain_request (code := 0x10) ha State.openGate
  by_cases hroller : s.gate.roller = 0
  · rw [openGate_refused hroller] at hsends
    exact ⟨t, hexec, fun _ => hsends _ _ (.refl s), fun hne => absurd hroller hne⟩
  · have hphase := opened_phase s
    rw [openGate_done hroller] at hsame hsends
    refine ⟨t, hexec, fun hzero => absurd hzero hroller, fun _ => ⟨_, hphase, ?_, ?_⟩⟩
    · intro hnot
      have hquiet : s.opened.admissionCheck = s.opened :=
        admissionCheck_none (hnot.imp id fun hadmissible => (opened_admissible s).trans hadmissible)
      rw [hquiet] at hsame hsends
      exact ⟨hsame.gate, hsends _ _ (.of_touches (opened_touches s))⟩
    · intro hready hadmissible
      have hcalled : s.opened.admissionCheck = s.opened.called := admissionCheck_called hready hadmissible
      have htouch : Touches [.gate, .ring, .seq] s s.opened.admissionCheck :=
        (opened_touches s).andThen (admissionCheck_touches _)
      rw [hcalled] at hsame hsends htouch
      exact ⟨hsame.gate, hsame.ring, hsame.seq, hsends _ _ (.of_touches htouch)⟩

/-! ## O51 -/

/-- Settles O51: the reply is queued at an office port whose flags and count have been cleared. -/
theorem statusIsReadAndCleared : Obligations.StatusIsReadAndCleared := by
  intro s h ha
  have htaken := request_taken ha (code := 0x32) (operands := noOperands []) rfl
    (fun s _ => s.clearStatus.stored false s.statusData)
  have hroom : s.clearStatus.office.replies.length < 8 := ha.2.2.2.2
  have hsent := (Queues.reply s.clearStatus h.src (.mgmt 0x32 .ok s.statusData) hroom).kick
  have hcleared : Touches [.office, .ring] s s.clearStatus :=
    (touches_onRing s fun r => { r with badFrames := 0 }).andThen (touches_onOffice _ _)
  obtain ⟨htouch, houtgoing, haddress, hwindows, hreplyLost, hnoticeLost, hbadFrames⟩ := hsent
  refine ⟨_, htaken, houtgoing.trans ?_, hreplyLost, hnoticeLost, hbadFrames, haddress, hwindows, htouch.ring, hcleared.andThen htouch⟩
  rw [List.map_nil, List.append_nil]
  rfl

end Sys2Proof.Machine
end

section
/-! RUN and STOP (R57 to R59): O42 and O43. -/

set_option Elab.async false

namespace Sys2Proof.Machine

variable {s t u : State} {h : Head} {speed : Nat}

/-! ## O43 -/

theorem abandonStart_of_start {r : OrderRecord} (hstart : s.pacer.start = some r) : s.abandonStart.pacer = { s.pacer with
      start := none
      startTimer := none
      lastSent := if r.transmitted then 0 else s.pacer.lastSent
      refresh := if r.transmitted then 0 else s.pacer.refresh } ∧
    s.abandonStart.ring = if r.transmitted then (s.ring.withdrawOrder r.number).pushSetpoint s.pacer.drive 0
      else s.ring.withdrawOrder r.number := by
  unfold State.abandonStart
  rw [hstart]
  dsimp only
  cases htransmitted : r.transmitted <;> exact ⟨rfl, rfl⟩

theorem stopBelt_running (hrun : s.pacer.state = .running ∨ s.pacer.state = .pointStop) :
    s.stopBelt = s.onPacer fun p => { p with state := .stopping, pointStop := none } := by
  have hplain : (s.onPacer fun p => { p with pointStop := none }).setPacerState .stopping =
      s.onPacer fun p => { p with state := .stopping, pointStop := none } :=
    setPacerState_plain (by decide) (by decide) (by decide)
  unfold State.stopBelt
  rcases hrun with hrun | hrun
  all_goals
    rw [hrun]
    exact hplain

theorem stopBelt_starting (hstarting : s.pacer.state = .starting) : s.stopBelt = s.abandonStart.pacerTo .stopped := by
  have hidle : (s.abandonStart.pacerTo .stopped).pacer.state ≠ .running := by
    rw [pacerTo_pacer]
    exact nofun
  unfold State.stopBelt
  rw [hstarting]
  exact (setPacerState_to (.inr rfl)).trans (admissionCheck_of_pacer hidle)

theorem stopBelt_halted (hhalted : s.pacer.state = .halted) : s.stopBelt = s.onPacer fun p => { p with resume := false } := by
  unfold State.stopBelt
  rw [hhalted]

theorem stopBelt_still (hstill : s.pacer.state = .stopped ∨ s.pacer.state = .stopping) : s.stopBelt = s := by
  unfold State.stopBelt
  rcases hstill with hstill | hstill
  all_goals rw [hstill]

/-- A START that is abandoned (R59): outside RESTARTING nothing is sent, and RESTARTING ends with it (R157). -/
theorem exec_stop_starting {r : OrderRecord} (ha : s.accepts h) (hstarting : s.pacer.state = .starting) (hstart : s.pacer.start = some r) :
    ∃ t, exec (.stop h []) s = .next t ∧
      t.pacer = { s.pacer with
        state := .stopped
        start := none
        startTimer := none
        lastSent := if r.transmitted then 0 else s.pacer.lastSent
        refresh := if r.transmitted then 0 else s.pacer.refresh } ∧
      t.ring = (if r.transmitted then (s.ring.withdrawOrder r.number).pushSetpoint s.pacer.drive 0
        else s.ring.withdrawOrder r.number) ∧
      (s.halt.state ≠ .restarting → Replies [.pacer, .ring] s t (mgmtReply s h 0x13 .ok [])) ∧
      (∀ x, s.halt.state = .restarting → s.openIncident = some x → s.noticeRoom 1 →
        t.halt = { s.halt with state := .clear, log := s.closedLog .resumed } ∧
        Sends [.pacer, .ring, .halt] s t [mgmtReply s h 0x13 .ok []]
          [.incidentClosed x.number .resumed s.clock.uptime x.secondary.length x.more]) := by
  obtain ⟨t, hexec, hsame, hsends⟩ := done_request (code := 0x13) ha State.stopBelt
  obtain ⟨hpacer, hring⟩ := abandonStart_of_start hstart
  have htouch := abandonStart_touches s
  have hclosed : s.abandonStart.closedLog .resumed = s.closedLog .resumed := by
    unfold State.closedLog
    rw [htouch.halt, htouch.uptime]
  rw [stopBelt_starting hstarting] at hsame hsends
  refine ⟨t, hexec, ?_, ?_, fun hr => ?_, fun x hr hopen room => ⟨?_, ?_⟩⟩
  · rw [hsame.pacer]
    show (s.abandonStart.pacerTo .stopped).pacer = _
    rw [pacerTo_pacer, hpacer]
  · rw [hsame.ring]
    exact (pacerTo_touches _ _).ring.trans hring
  · have hplain := pacerTo_plain (s := s.abandonStart) (p := .stopped) (by rw [htouch.halt]; exact hr)
    rw [hplain] at hsends
    exact hsends _ _ (.of_touches (htouch.andThen (touches_onPacer _ _)))
  · rw [hsame.halt]
    show (s.abandonStart.pacerTo .stopped).halt = _
    rw [pacerTo_halt, State.haltAfterStart, htouch.halt, if_pos hr, hclosed]
  · have hqueued := Queues.after htouch (pacerTo_queues (s := s.abandonStart) .stopped
      (by unfold State.noticeRoom; rw [htouch.office]; exact room)) (hs := [.pacer, .ring, .halt])
    have hnotices : s.abandonStart.closeNotices .resumed =
        [.incidentClosed x.number .resumed s.clock.uptime x.secondary.length x.more] := by
      unfold State.closeNotices State.openIncident
      rw [htouch.halt, htouch.uptime]
      unfold State.openIncident at hopen
      rw [hopen]
      rfl
    rw [htouch.halt, if_pos hr, hnotices] at hqueued
    exact hsends _ _ hqueued

/-- Settles O43: one case per group of pacer states. -/
theorem stopIsTaken : Obligations.StopIsTaken := by
  intro s h ha
  by_cases hstarting : s.pacer.state = .starting
  · cases hstart : s.pacer.start with
    | none =>
      obtain ⟨t, hexec, -⟩ := done_request (code := 0x13) ha State.stopBelt
      refine ⟨t, hexec, ?_, fun r _ hr => (nomatch hr), ?_, ?_⟩
      all_goals
        rw [hstarting]
        simp
    | some r =>
      obtain ⟨t, hexec, hpacer, hring, hreplies, hends⟩ := exec_stop_starting ha hstarting hstart
      refine ⟨t, hexec, ?_, ?_, ?_, ?_⟩
      case refine_2 =>
        intro r' _ hr'
        cases hr'
        exact ⟨hpacer, ⟨_, rfl, hring⟩, hreplies, hends⟩
      all_goals
        rw [hstarting]
        simp
  · obtain ⟨t, hexec, hsame, hsends⟩ := done_request (code := 0x13) ha State.stopBelt
    refine ⟨t, hexec, fun hrun => ?_, fun r h _ => absurd h hstarting, fun hhalted => ?_, fun hstill => ?_⟩
    · rw [stopBelt_running hrun] at hsame hsends
      exact ⟨hsame.pacer, hsends _ _ (.of_touches (touches_onPacer s _))⟩
    · rw [stopBelt_halted hhalted] at hsame hsends
      exact ⟨hsame.pacer, hsends _ _ (.of_touches (touches_onPacer s _))⟩
    · rw [stopBelt_still hstill] at hsends
      exact hsends _ _ (.refl s)

/-! ## O42 -/

/-- The reply of a RUN that is taken (R57, log 17). -/
def State.runReply (s : State) (h : Head) (speed : Nat) : Reply :=
  if max 160 (min 4800 speed) = speed then mgmtReply s h 0x12 .ok []
  else mgmtReply s h 0x12 .okClamped (two (max 160 (min 4800 speed)))

theorem runReply_eq (s u : State) (h : Head) (speed : Nat) :
    mgmtReply s h 0x12 (u.runAnswer speed).result (u.runAnswer speed).data = s.runReply h speed := by
  unfold State.runAnswer State.runReply
  unfold clamp
  split <;> rfl

/-- A RUN that is taken. -/
theorem exec_run_taken {ops : List Byte} (ha : s.accepts h) (hform : wordOperand ops = some speed)
    (heffect : s.runBelt speed = u.runAnswer speed) :
    ∃ t, exec (.run h ops) s = .next t ∧ SameButOffice u t ∧ ∀ fs, Queues fs s u [] [] → Replies fs s t (s.runReply h speed) := by
  obtain ⟨t, hexec, hsame, hsends⟩ := request_does (code := 0x12) ha hform State.runBelt
  rw [heffect, runAnswer_state] at hsame hsends
  exact ⟨t, hexec, hsame, fun fs q => (runReply_eq s u h speed).symm ▸ hsends fs [] q⟩

theorem exec_run_refused {ops : List Byte} {result : Result} (ha : s.accepts h) (hform : wordOperand ops = some speed)
    (heffect : s.runBelt speed = s.refuse result) :
    ∃ t, exec (.run h ops) s = .next t ∧ Replies [] s t (mgmtReply s h 0x12 result []) :=
  request_refused (code := 0x12) ha hform (f := State.runBelt) heffect

theorem configured_eq_false_iff : s.configured = false ↔ s.track.length = 0 ∨ s.eyes[(1 : Fin 10)].enabled = false ∨
    s.eyes[(2 : Fin 10)].enabled = false ∨ s.belt.encoder = 0 ∨ s.pacer.drive = 0 := by
  unfold State.configured
  simp only [Bool.and_eq_false_iff, bne_eq_false_iff_eq, or_assoc]
  rfl

theorem runBelt_stopped (hstopped : s.pacer.state = .stopped) : s.runBelt speed =
    if s.configured = false then s.refuse .notConfigured
    else if s.ring.state = .down then s.refuse .ringDown
    else (((s.setRunSpeed speed).issueStart).setPacerState .starting).runAnswer speed := by
  unfold State.runBelt
  rw [hstopped]

theorem runBelt_moving (hstate : s.pacer.state = .starting ∨ s.pacer.state = .running ∨ s.pacer.state = .pointStop) :
    s.runBelt speed = (s.setRunSpeed speed).runAnswer speed := by
  unfold State.runBelt
  rcases hstate with hstate | hstate | hstate
  all_goals rw [hstate]

/-- RUN in STOPPING returns to RUNNING where nothing acts on that (R58). -/
theorem runBelt_stopping (hstopping : s.pacer.state = .stopping) (hr : s.halt.state ≠ .restarting) (hready : s.gate.phase ≠ .ready)
    (hblocked : s.blockedBy = none) :
    s.runBelt speed = ((s.setRunSpeed speed).onPacer fun p => { p with state := .running }).runAnswer speed := by
  unfold State.runBelt
  rw [hstopping]
  dsimp only
  rw [setPacerState_settles (s := s.setRunSpeed speed) (by decide) hr,
    admissionCheck_none (s := (s.setRunSpeed speed).onPacer fun p => { p with state := .running }) (.inl hready),
    exitBlockedCheck_none (s := (s.setRunSpeed speed).onPacer fun p => { p with state := .running }) (.inr hblocked)]

/-- Settles O42: one case per group of pacer states. -/
theorem runIsTaken : Obligations.RunIsTaken := by
  intro s h ops v ha hform
  have hset : Touches [.pacer] s (s.setRunSpeed v) := touches_onPacer s _
  cases hstate : s.pacer.state with
  | stopped =>
    by_cases hconfigured : s.configured = false
    · obtain ⟨t, hexec, hreplies⟩ := exec_run_refused ha hform (by rw [runBelt_stopped hstate, if_pos hconfigured])
      refine ⟨t, _, _, hexec, rfl, rfl, fun _ _ => hreplies, fun _ h1 h2 h3 h4 h5 => ?_, ?_, ?_, ?_⟩
      · exact absurd (configured_eq_false_iff.1 hconfigured) (not_or.2 ⟨h1, not_or.2 ⟨by rw [h2]; decide,
          not_or.2 ⟨by rw [h3]; decide, not_or.2 ⟨h4, h5⟩⟩⟩⟩)
      all_goals simp
    · have hnot := fun hmissing => hconfigured (configured_eq_false_iff.2 hmissing)
      by_cases hdown : s.ring.state = .down
      · obtain ⟨t, hexec, hreplies⟩ := exec_run_refused ha hform (by
          rw [runBelt_stopped hstate, if_neg hconfigured, if_pos hdown])
        refine ⟨t, _, _, hexec, rfl, rfl, fun _ hmissing => absurd hmissing hnot, fun _ _ _ _ _ _ =>
          ⟨fun _ => hreplies, fun hup => ?_⟩, ?_, ?_, ?_⟩
        · rw [hup] at hdown
          cases hdown
        all_goals simp
      · obtain ⟨t, hexec, hsame, hsends⟩ := exec_run_taken ha hform (by
          rw [runBelt_stopped hstate, if_neg hconfigured, if_neg hdown])
        have htouch := hset.andThen (issueStart_starting_touches (s.setRunSpeed v)) (hs := [.pacer, .belt, .ring, .seq])
        have hpacer := issueStart_starting_pacer (s.setRunSpeed v)
        rw [setPacerState_starting] at hsame hsends htouch hpacer
        refine ⟨t, _, _, hexec, rfl, rfl, fun _ hmissing => absurd hmissing hnot, fun _ _ _ _ _ _ =>
          ⟨fun hd => absurd hd hdown, fun _ => ⟨hsame.pacer.trans hpacer, hsame.belt, hsame.ring, hsame.seq,
            hsends _ (.of_touches htouch)⟩⟩, ?_, ?_, ?_⟩
        all_goals simp
  | starting | running | pointStop =>
    obtain ⟨t, hexec, hsame, hsends⟩ := exec_run_taken ha hform (runBelt_moving (by rw [hstate]; simp))
    refine ⟨t, _, _, hexec, rfl, rfl, ?_, ?_, fun _ => ⟨hsame.pacer, hsends _ (.of_touches hset)⟩, ?_, ?_⟩
    all_goals simp
  | stopping =>
    obtain ⟨u, hu⟩ : ∃ u : State, s.runBelt v = u.runAnswer v := by
      unfold State.runBelt
      rw [hstate]
      exact ⟨_, rfl⟩
    obtain ⟨t, hexec, -⟩ := exec_run_taken ha hform hu
    refine ⟨t, _, _, hexec, rfl, rfl, by simp, by simp, by simp, fun _ hr hready hblocked => ?_, by simp⟩
    obtain ⟨t', hexec', hsame, hsends⟩ := exec_run_taken ha hform (runBelt_stopping hstate hr hready hblocked)
    rw [hexec'] at hexec
    cases hexec
    exact ⟨hsame.pacer, hsends _ (.of_touches (hset.andThen (touches_onPacer _ _)))⟩
  | halted =>
    obtain ⟨t, hexec, hreplies⟩ := exec_run_refused (result := .wrongState) ha hform (by unfold State.runBelt; rw [hstate])
    refine ⟨t, _, _, hexec, rfl, rfl, ?_, ?_, ?_, ?_, fun _ => hreplies⟩
    all_goals simp

end Sys2Proof.Machine
end

section
/-! The encoder silence timer and the hold timers (R5, R124), and the requests of a station, an eye and a sale (R113, R14, R129):
O47 and O52. -/

set_option Elab.async false

namespace Sys2Proof.Machine

variable {s t u : State} {h : Head} {i : StationId}

/-! ## O52 -/

theorem exec_encoderSilenceExpiry_expired (hl : s.live) (hsilence : s.belt.silence = none) :
    exec .encoderSilenceExpiry s = .next s.officeKick := by
  show execEncoderSilenceExpiry s = _
  unfold execEncoderSilenceExpiry
  rw [live_of_released hl, hsilence]

/-- The timer expires (R5). -/
theorem exec_encoderSilenceExpiry {n : Nat} (hl : s.live) (hsilence : s.belt.silence = some n) :
    exec .encoderSilenceExpiry s = .next (if s.pacer.state = .stopped then s.onBelt fun b => { b with silence := none }
      else (s.onBelt fun b => { b with silence := none }).raise .encoder).officeKick := by
  show execEncoderSilenceExpiry s = _
  unfold execEncoderSilenceExpiry
  rw [live_of_released hl, hsilence]

theorem encoderSilence_expires (hl : s.live) : ∃ t, exec .encoderSilenceExpiry s = .next t ∧
    (s.belt.silence = none → Quiet [] s t) ∧
    (s.belt.silence.isSome = true → t.belt = { s.belt with silence := none } ∧
      (s.pacer.state = .stopped → Quiet [.belt] s t) ∧
      (s.pacer.state ≠ .stopped → s.noticeRoom 1 →
        Raises s t { kind := .encoder, belt := s.belt.count, uptime := s.clock.uptime } ∧
        Sends [.belt, .cars, .pacer, .seq, .gate, .ring, .halt] s t []
          (s.causeNotices { kind := .encoder, belt := s.belt.count, uptime := s.clock.uptime }))) := by
  have hexpired := touches_onBelt s fun b => { b with silence := none }
  cases hsilence : s.belt.silence with
  | none => exact ⟨_, exec_encoderSilenceExpiry_expired hl hsilence, fun _ => (Queues.refl s).kick, nofun⟩
  | some n =>
    have hexec := exec_encoderSilenceExpiry hl hsilence
    by_cases hstopped : s.pacer.state = .stopped
    · rw [if_pos hstopped] at hexec
      exact ⟨_, hexec, nofun, fun _ => ⟨rfl, fun _ => (Queues.of_touches hexpired).kick, fun h => absurd hstopped h⟩⟩
    · rw [if_neg hstopped] at hexec
      have hsame := SameButOffice.kick ((s.onBelt fun b => { b with silence := none }).raise .encoder)
      have hraised := raise_after (u := s.onBelt fun b => { b with silence := none }) .encoder none none none none (by decide) rfl rfl
      exact ⟨_, hexec, nofun, fun _ => ⟨hsame.belt.trans (takeCause_touches _ _).belt, fun h => absurd h hstopped, fun _ room =>
        ⟨hraised.1.kick hsame, ((Queues.of_touches hexpired).raise .encoder none none none none (by decide) room rfl).kick⟩⟩⟩

/-- Settles O52: the silence timer expires once, and a hold timer removes the quote of its terminal. -/
theorem silenceAndHoldExpire : Obligations.SilenceAndHoldExpire := by
  intro s hl
  refine ⟨encoderSilence_expires hl, fun k => ?_⟩
  have hexec : exec (.quoteHoldExpiry (k.val + 1)) s =
      .next (s.onBook fun b => { b with quotes := b.quotes.set k none }).officeKick := by
    show execQuoteHoldExpiry (k.val + 1) s = _
    unfold execQuoteHoldExpiry
    rw [live_of_released hl, terminalSlot_val]
  exact ⟨_, hexec, rfl, (Queues.of_touches (touches_onBook s _)).kick⟩

/-! ## O47 -/

/-- A station that leaves FAULT for IDLE counts as settled before and after (R147). -/
theorem settled_of_cleared (hfault : s.seq.stations[i].phase = .fault) :
    (s.onStation i fun st => { st with phase := .idle }).settled = s.settled := by
  unfold State.settled
  congr 1
  funext j
  by_cases hj : j = i
  · subst hj
    rw [onStation_self, hfault]
    simp
  · rw [onStation_other hj]
    rfl

/-- STATION CLEAR where it is not the event that ends HALTING (R113, R147). -/
theorem setStationPhase_cleared (hfault : s.seq.stations[i].phase = .fault)
    (hquiet : s.map.table[i].kind ≠ .arm ∨ s.halt.state ≠ .halting ∨ s.settled = false ∨ s.pacer.watch ≠ .met) :
    s.setStationPhase i .idle = s.onStation i fun st => { st with phase := .idle } := by
  unfold State.setStationPhase
  dsimp only
  split
  next harm =>
    rw [haltingCheck_eq]
    refine if_neg ?_
    rintro ⟨hhalting, hsettled, hmet⟩
    rw [settled_of_cleared hfault] at hsettled
    rcases hquiet with h | h | h | h
    · exact h harm.1
    · exact h hhalting
    · rw [h] at hsettled
      cases hsettled
    · exact h hmet
  next => rfl

theorem exec_stationClear {ops : List Byte} {index : Nat} (ha : s.accepts h) (hform : byteOperand ops = some index) :
    ∃ t, exec (.stationClear h ops) s = .next t ∧
      (32 ≤ index → Replies [] s t (mgmtReply s h 0x20 .badIndex [])) ∧
      (∀ i : StationId, index = i.val →
        (s.seq.stations[i].phase ≠ .fault → Replies [] s t (mgmtReply s h 0x20 .wrongState [])) ∧
        (s.seq.stations[i].phase = .fault → s.seq.stations[i].current.isSome = true →
          Replies [] s t (mgmtReply s h 0x20 .busy [])) ∧
        (s.seq.stations[i].phase = .fault → s.seq.stations[i].current = none →
          s.map.table[i].kind ≠ .arm ∨ s.halt.state ≠ .halting ∨ s.settled = false ∨ s.pacer.watch ≠ .met →
          t.seq = { s.seq with stations := s.seq.stations.set i { s.seq.stations[i] with phase := .idle } } ∧
          Replies [.seq] s t (mgmtReply s h 0x20 .ok []))) := by
  obtain ⟨t, hexec, hsame, hsends⟩ := request_does (code := 0x20) ha hform State.clearStation
  refine ⟨t, hexec, fun hindex => ?_, fun i hi => ?_⟩
  · have heffect : s.clearStation index = s.refuse .badIndex := dif_neg (by omega)
    rw [heffect] at hsends
    exact hsends _ _ (.refl s)
  · have heffect : s.clearStation index =
        if s.seq.stations[i].phase ≠ .fault then s.refuse .wrongState
        else if s.seq.stations[i].current.isSome then s.refuse .busy
        else (s.setStationPhase i .idle).done := by
      subst hi
      exact dif_pos i.isLt
    rw [heffect] at hsame hsends
    refine ⟨fun hphase => ?_, fun hphase hcurrent => ?_, fun hphase hcurrent hquiet => ?_⟩
    · rw [if_pos hphase] at hsends
      exact hsends _ _ (.refl s)
    · rw [if_neg (not_not.2 hphase), if_pos hcurrent] at hsends
      exact hsends _ _ (.refl s)
    · rw [if_neg (not_not.2 hphase), if_neg (by rw [hcurrent]; decide), setStationPhase_cleared hphase hquiet] at hsame hsends
      exact ⟨hsame.seq, hsends _ _ (.of_touches (done_touches (onStation_touches s i _)))⟩

theorem exec_eyeRestore {ops : List Byte} {index : Nat} (ha : s.accepts h) (hform : byteOperand ops = some index) :
    ∃ t, exec (.eyeRestore h ops) s = .next t ∧
      (index ≤ 3 ∨ 10 ≤ index → Replies [] s t (mgmtReply s h 0x21 .badIndex [])) ∧
      (∀ e : Fin 10, index = e.val → 4 ≤ e.val →
        (s.eyes[e].enabled = false → Replies [] s t (mgmtReply s h 0x21 .wrongState [])) ∧
        (s.eyes[e].enabled = true → t.eyes = s.eyes.set e { s.eyes[e] with reliable := true } ∧
          Replies [.eyes] s t (mgmtReply s h 0x21 .ok []))) := by
  obtain ⟨t, hexec, hsame, hsends⟩ := request_does (code := 0x21) ha hform State.restoreEye
  refine ⟨t, hexec, fun hindex => ?_, fun e he htracks => ?_⟩
  · have heffect : s.restoreEye index = s.refuse .badIndex := by
      unfold State.restoreEye
      split
      · exact if_pos (by omega)
      · rfl
    rw [heffect] at hsends
    exact hsends _ _ (.refl s)
  · have heffect : s.restoreEye index =
        if s.eyes[e].enabled = false then s.refuse .wrongState
        else (s.onEyes fun eyes => eyes.set e { eyes[e] with reliable := true }).done := by
      subst he
      exact (dif_pos e.isLt).trans (if_neg (by omega))
    rw [heffect] at hsame hsends
    refine ⟨fun hdisabled => ?_, fun henabled => ?_⟩
    · rw [if_pos hdisabled] at hsends
      exact hsends _ _ (.refl s)
    · rw [if_neg (by rw [henabled]; decide)] at hsame hsends
      exact ⟨hsame.eyes, hsends _ _ (.of_touches (done_touches (touches_onEyes s _)))⟩

/-- A sale that is voided, before the admission check (R129, R138). -/
def State.voided (s : State) (q : QueuedSale) : State :=
  (s.onBook fun b => { b with queue := b.queue.filter fun x => x.sale.number != q.sale.number }).onTally q.sale.plan fun r =>
    r.addVoid q.sale.amount

theorem voided_touches (s : State) (q : QueuedSale) : Touches [.book, .tallies] s (s.voided q) :=
  (touches_onBook s _).andThen (onTally_touches _ _ _)

theorem exec_saleVoid {ops : List Byte} {number : Nat} (ha : s.accepts h) (hform : wordOperand ops = some number) :
    ∃ t, exec (.saleVoid h ops) s = .next t ∧
      ((∀ q ∈ s.book.queue, q.sale.number ≠ number) → Replies [] s t (mgmtReply s h 0x22 .notFound [])) ∧
      (∀ before q after, s.book.queue = before ++ q :: after → q.sale.number = number →
        (∀ x ∈ before ++ after, x.sale.number ≠ number) →
        t.book = { s.book with queue := before ++ after } ∧
        t.tallies = s.tallies.set q.sale.plan { s.tallies[q.sale.plan] with
          voids := min 4294967295 (s.tallies[q.sale.plan].voids + 1)
          voidAmount := min 4294967295 (s.tallies[q.sale.plan].voidAmount + q.sale.amount) } ∧
        Replies [.book, .tallies, .seq, .gate, .ring] s t (mgmtReply s h 0x22 .ok []) ∧
        (s.gate.phase ≠ .ready → Replies [.book, .tallies] s t (mgmtReply s h 0x22 .ok []))) := by
  obtain ⟨t, hexec, hsame, hsends⟩ := request_does (code := 0x22) ha hform State.voidSale
  refine ⟨t, hexec, fun hnone => ?_, fun before q after hqueue hnumber hothers => ?_⟩
  · have hfind : (s.book.queue.find? fun q => q.sale.number == number) = none := by
      rw [List.find?_eq_none]
      simpa using hnone
    have heffect : s.voidSale number = s.refuse .notFound := by
      unfold State.voidSale
      rw [hfind]
    rw [heffect] at hsends
    exact hsends _ _ (.refl s)
  · have hbefore : ∀ x ∈ before, x.sale.number ≠ number := fun x hx => hothers x (List.mem_append_left _ hx)
    have hafter : ∀ x ∈ after, x.sale.number ≠ number := fun x hx => hothers x (List.mem_append_right _ hx)
    have hfind : (s.book.queue.find? fun q => q.sale.number == number) = some q := by
      rw [hqueue, List.find?_append, List.find?_eq_none.2 (by simpa using hbefore), List.find?_cons_of_pos (by simpa using hnumber)]
      rfl
    have hfilter : (s.book.queue.filter fun x => x.sale.number != q.sale.number) = before ++ after := by
      rw [hqueue, List.filter_append, List.filter_cons_of_neg (by simp), List.filter_eq_self.2 (by simpa [hnumber] using hbefore),
        List.filter_eq_self.2 (by simpa [hnumber] using hafter)]
    have heffect : s.voidSale number = (s.voided q).admissionCheck.done := by
      unfold State.voidSale
      rw [hfind, ← hnumber]
      rfl
    rw [heffect] at hsame hsends
    have hchecked := admissionCheck_touches (s.voided q)
    refine ⟨?_, ?_, hsends _ _ (.of_touches ((voided_touches s q).andThen hchecked)), fun hready => ?_⟩
    · rw [hsame.book, ← hfilter]
      exact hchecked.book
    · rw [hsame.tallies]
      exact hchecked.tallies
    · rw [admissionCheck_none (s := s.voided q) (.inl hready)] at hsends
      exact hsends _ _ (.of_touches (voided_touches s q))

/-- Settles O47. -/
theorem stationEyeAndSaleRequests : Obligations.StationEyeAndSaleRequests :=
  fun _ _ _ ha => ⟨fun _ hform => ⟨exec_stationClear ha hform, exec_eyeRestore ha hform⟩, fun _ hform => exec_saleVoid ha hform⟩

end Sys2Proof.Machine
end

section
/-! ACK and RESUME (R154 to R157, R77): O46. -/

set_option Elab.async false

namespace Sys2Proof.Machine

variable {s t u : State} {h : Head}

/-! ## ACK -/

theorem acknowledge_acked {r : Incident} (hopen : s.openIncident = some r) (hstate : r.state = .unacked) :
    s.acknowledge = (s.changeIncident fun r => { r with state := .acked }).done := by
  unfold State.acknowledge
  rw [hopen]
  exact if_pos hstate

theorem acknowledge_refused (hnone : ∀ r, s.openIncident = some r → r.state ≠ .unacked) :
    s.acknowledge = s.refuse .nothingToAck := by
  unfold State.acknowledge
  cases hopen : s.openIncident with
  | none => rfl
  | some r => exact if_neg (hnone r hopen)

theorem exec_ack (ha : s.accepts h) : ∃ t, exec (.ack h []) s = .next t ∧
    ((∃ r, s.openIncident = some r ∧ r.state = .unacked) →
      t.halt = { s.halt with log := s.halt.log.map fun x => if x.state ≠ .closed then { x with state := .acked } else x } ∧
      Replies [.halt] s t (mgmtReply s h 0x15 .ok [])) ∧
    ((∀ r, s.openIncident = some r → r.state ≠ .unacked) → Replies [] s t (mgmtReply s h 0x15 .nothingToAck [])) := by
  obtain ⟨t, hexec, hsame, hsends⟩ := plain_request (code := 0x15) ha State.acknowledge
  refine ⟨t, hexec, fun ⟨r, hopen, hstate⟩ => ?_, fun hnone => ?_⟩
  · rw [acknowledge_acked hopen hstate] at hsame hsends
    exact ⟨hsame.halt, hsends _ _ (.of_touches (done_touches (changeIncident_touches s _)))⟩
  · rw [acknowledge_refused hnone] at hsends
    exact hsends _ _ (.refl s)

/-! ## RESUME -/

/-- What RESUME answers: the first check of R155 that fails, or OK. -/
def State.resumeResult (s : State) : Result :=
  if s.halt.state ≠ .halted then .wrongState
  else if (s.openIncident.map fun r => r.state) ≠ some .acked then .notAcked
  else if s.halt.estop = .asserted then .estopActive
  else if s.ring.state = .down then .ringDown
  else if s.armUnsafe = true then .armUnsafe
  else .ok

/-- RESUME as a whole (R155, R156). -/
def State.resumed (s : State) : Answer := if s.resumeResult ≠ .ok then s.refuse s.resumeResult else s.restart.done

theorem openIncident_acked_iff : (s.openIncident.any fun r => r.state == .acked) = false ↔
    (s.openIncident.map fun r => r.state) ≠ some .acked := by
  cases s.openIncident <;> simp

theorem resumeRefusal_eq : s.resumeRefusal = if s.resumeResult ≠ .ok then some s.resumeResult else none := by
  unfold State.resumeRefusal State.resumeResult
  simp only [openIncident_acked_iff]
  split_ifs <;> simp_all

theorem exec_resume (ha : s.accepts h) : ∃ t, exec (.resume h []) s = .next t ∧ SameButOffice s.resumed.state t ∧
    ∀ fs ns, Queues fs s s.resumed.state [] ns → Sends fs s t [mgmtReply s h 0x16 s.resumed.result s.resumed.data] ns := by
  have hresumed (u : State) : (match u.resumeRefusal with
      | some r => u.refuse r
      | none => u.restart.done) = u.resumed := by
    unfold State.resumed
    rw [resumeRefusal_eq]
    split
    next h => split at h <;> simp_all
    next h => split at h <;> simp_all
  have hcommand : exec (.resume h []) s = request s h 0x16 (noOperands []) fun s _ => s.resumed :=
    congrArg (request s h 0x16 (noOperands [])) (funext fun u => funext fun _ => hresumed u)
  rw [hcommand]
  exact plain_request ha State.resumed

/-- The HALT line released, RELEASE asked for and RESTARTING entered (R156), and the drive-stop watch ended (R77). -/
def State.restartBase (s : State) : State :=
  (((s.onHalt fun b => { b with line := .released }).onRing Ring.requestRelease).onHalt fun b =>
    { b with state := .restarting }).onPacer fun p => { p with watch := .idle, stopTimer := none }

theorem restartBase_touches (s : State) : Touches [.halt, .ring, .pacer] s s.restartBase :=
  ((((touches_onHalt s _).andThen (touches_onRing _ _) (hs := [.halt, .ring])).andThen (touches_onHalt _ _)
    (hs := [.halt, .ring]))).andThen (touches_onPacer _ _)

/-- What a START that is issued leaves of the blocks it changes (R60). -/
theorem issueStart_starting_parts (u : State) :
    (u.issueStart.setPacerState .starting).belt = { u.belt with silence := some u.timing.encoderSilence } ∧
    (u.issueStart.setPacerState .starting).ring = u.ring.push .order (.order u.pacer.drive u.freeOrderNumber .start 0) ∧
    (u.issueStart.setPacerState .starting).seq = { u.seq with nextNumber := nextInSequence 255 u.freeOrderNumber } := by
  rw [setPacerState_starting]
  exact ⟨rfl, rfl, rfl⟩

/-- The restart of a belt that was running, before its START (R77). -/
def State.rerun (s : State) : State := s.restartBase.onPacer fun p => { p with resume := false }

theorem rerun_touches (s : State) : Touches [.halt, .ring, .pacer] s s.rerun := (restartBase_touches s).andThen (touches_onPacer _ _)

theorem rerun_freeOrderNumber (s : State) : s.rerun.freeOrderNumber = s.freeOrderNumber := by
  unfold State.freeOrderNumber
  rw [show s.rerun.orderNumberHeld = s.orderNumberHeld from rfl, (rerun_touches s).seq]

/-- A restart of a belt that was running (R77, R60). -/
theorem restart_runs (hresume : s.pacer.resume = true) :
    s.restart = s.rerun.issueStart.setPacerState .starting := by
  unfold State.restart
  rw [setHaltState_eq (by decide)]
  exact if_pos hresume

/-- A restart of a belt that stood still ends at once (R77, R157). -/
theorem restart_stands (hresume : s.pacer.resume = false) : s.restart = s.restartBase.pacerTo .stopped := by
  have hstands : s.restart = s.restartBase.setPacerState .stopped := by
    unfold State.restart
    rw [setHaltState_eq (by decide)]
    exact if_neg (by show ¬ s.pacer.resume = true; rw [hresume]; decide)
  have hidle : (s.restartBase.pacerTo .stopped).pacer.state ≠ .running := by
    rw [pacerTo_pacer]
    exact nofun
  rw [hstands, setPacerState_to (.inr rfl), admissionCheck_of_pacer hidle]

theorem restartBase_notices {r : Incident} (hopen : s.openIncident = some r) : s.restartBase.closeNotices .resumed =
    [.incidentClosed r.number .resumed s.clock.uptime r.secondary.length r.more] := by
  have hbase : s.restartBase.openIncident = some r := hopen
  unfold State.closeNotices
  rw [hbase]
  rfl

/-- Settles O46. -/
theorem ackAndResume : Obligations.AckAndResume := by
  intro s h ha
  refine ⟨exec_ack ha, fun refusal hrefusal => ?_⟩
  have hresult : refusal = s.resumeResult := hrefusal
  subst hresult
  obtain ⟨t, hexec, hsame, hsends⟩ := exec_resume ha
  refine ⟨t, hexec, fun hno => ?_, fun hok hresume => ?_, fun r hok hresume hopen room => ?_⟩
  · rw [show s.resumed = s.refuse s.resumeResult from if_pos hno] at hsends
    exact hsends _ _ (.refl s)
  · have heffect : s.resumed = s.restart.done := if_neg (not_not.2 hok)
    have hstarted := (rerun_touches s).andThen (issueStart_starting_touches s.rerun) (hs := [.halt, .pacer, .belt, .ring, .seq])
    have hpacer := issueStart_starting_pacer s.rerun
    obtain ⟨hbelt, hring, hseq⟩ := issueStart_starting_parts s.rerun
    have hhalt := (issueStart_starting_touches s.rerun).halt
    rw [rerun_freeOrderNumber] at hpacer hring hseq
    rw [heffect, restart_runs hresume] at hsame hsends
    exact ⟨hsame.halt.trans hhalt, hsame.pacer.trans hpacer, hsame.belt.trans hbelt, hsame.ring.trans hring, hsame.seq.trans hseq,
      hsends _ _ (.of_touches hstarted)⟩
  · have heffect : s.resumed = s.restart.done := if_neg (not_not.2 hok)
    rw [heffect, restart_stands hresume] at hsame hsends
    have hqueued := Queues.after (restartBase_touches s) (pacerTo_queues (s := s.restartBase) .stopped room)
      (hs := [.halt, .pacer, .ring])
    have hrestarting : s.restartBase.halt.state = .restarting := rfl
    rw [if_pos hrestarting, restartBase_notices hopen] at hqueued
    refine ⟨?_, ?_, ?_, hsends _ _ hqueued⟩
    · rw [hsame.halt]
      have hhalt := pacerTo_halt s.restartBase .stopped
      rw [State.haltAfterStart, if_pos hrestarting] at hhalt
      exact hhalt
    · rw [hsame.pacer]
      exact pacerTo_pacer s.restartBase .stopped
    · rw [hsame.ring]
      exact (pacerTo_touches s.restartBase .stopped).ring

end Sys2Proof.Machine
end

section
/-! Requests that are not taken (R172, R177): O33. -/

set_option Elab.async false

namespace Sys2Proof.Machine

variable {s t : State} {h : Head} {ops : List Byte}

/-! ## What a request does that is not handed on -/

theorem loseReply_eq_reply (d : Nat) (b : ReplyBody) (hfull : 8 ≤ s.office.replies.length) : s.reply d b = s.loseReply :=
  congrArg (fun o => { s with office := o }) (if_pos hfull)

theorem loseReply_lost (hfull : 8 ≤ s.office.replies.length) : ReplyLost s s.loseReply.officeKick := by
  rw [← loseReply_eq_reply 0 (.drop .noQuote 0) hfull]
  exact reply_lost _ _ hfull

/-- What RequestsNotTaken says of a command of a request: from elsewhere it does nothing, and without a place for its reply it
leaves the reply-lost flag alone. -/
def NotTaken (s : State) (c : Instr) (elsewhere full : Prop) : Prop :=
  ∃ t, exec c s = .next t ∧ (elsewhere → Quiet [] s t) ∧ (full → ReplyLost s t)

theorem NotTaken.quiet {c : Instr} {elsewhere full : Prop} (hno : ¬ full) (hexec : exec c s = .next s.officeKick) :
    NotTaken s c elsewhere full := ⟨_, hexec, fun _ => (Queues.refl s).kick, fun hfull => absurd hfull hno⟩

theorem NotTaken.lost {c : Instr} {elsewhere full : Prop} (hno : ¬ elsewhere) (hfull : 8 ≤ s.office.replies.length)
    (hexec : exec c s = .next s.loseReply.officeKick) : NotTaken s c elsewhere full :=
  ⟨_, hexec, fun helse => absurd helse hno, fun _ => loseReply_lost hfull⟩

theorem NotTaken.vacuous {c : Instr} {elsewhere full : Prop} (helse : ¬ elsewhere) (hfull : ¬ full) (hexec : exec c s = .next t) :
    NotTaken s c elsewhere full := ⟨_, hexec, fun h => absurd h helse, fun h => absurd h hfull⟩

/-- A management request that is not handed on (R172). -/
theorem notTaken_request {α : Type} {c : Instr} {code : Nat} {operands : Option α} {f : State → α → Answer} (hl : s.live)
    (hexec : exec c s = request s h code operands f) :
    NotTaken s c (h.dst ≠ s.office.address ∨ h.src ≤ 31 ∨ 64 ≤ h.src)
      (h.dst = s.office.address ∧ 32 ≤ h.src ∧ h.src ≤ 63 ∧ 8 ≤ s.office.replies.length) := by
  by_cases hdst : h.dst = s.office.address
  · by_cases hsite : 32 ≤ h.src ∧ h.src ≤ 63
    · obtain ⟨hlow, hhigh⟩ := hsite
      by_cases hfull : 8 ≤ s.office.replies.length
      · rw [request_lost hl hdst hlow hhigh hfull] at hexec
        exact .lost (by omega) hfull hexec
      · unfold request at hexec
        exact .vacuous (by omega) (fun h => hfull h.2.2.2) (hexec.trans (live_of_released hl _))
    · have hfrom : fromSite h = false := by
        unfold fromSite
        rw [← Bool.decide_and, decide_eq_false hsite]
      unfold request at hexec
      rw [live_of_released hl, if_pos (.inr hfrom)] at hexec
      exact .quiet (fun h => hsite ⟨h.2.1, h.2.2.1⟩) hexec
  · unfold request at hexec
    rw [live_of_released hl, if_pos (.inl hdst)] at hexec
    exact .quiet (fun h => hdst h.1) hexec

/-- A terminal's request that is not handed on (R172). -/
theorem notTaken_terminalRequest {α : Type} {c : Instr} {form : Option α} {f : State → Fin 15 → α → State} (hl : s.live)
    (hexec : exec c s = terminalRequest s h form f) :
    NotTaken s c (h.dst ≠ s.office.address ∨ h.src < 1 ∨ 15 < h.src ∨ form.isSome = false)
      (h.dst = s.office.address ∧ 1 ≤ h.src ∧ h.src ≤ 15 ∧ form.isSome = true ∧ 8 ≤ s.office.replies.length) := by
  unfold terminalRequest at hexec
  rw [live_of_released hl] at hexec
  by_cases hterminal : 1 ≤ h.src ∧ h.src ≤ 15
  · rw [show terminalSlot h.src = some ⟨h.src - 1, by omega⟩ from dif_pos hterminal] at hexec
    cases hform : form with
    | none =>
      rw [hform] at hexec
      exact .quiet (fun h => nomatch h.2.2.2.1) hexec
    | some x =>
      rw [hform] at hexec
      dsimp only at hexec
      by_cases hdst : h.dst = s.office.address
      · rw [if_neg (not_not.2 hdst)] at hexec
        have helse : ¬ (h.dst ≠ s.office.address ∨ h.src < 1 ∨ 15 < h.src ∨ (some x).isSome = false) := by
          rintro (h | h | h | h)
          · exact h hdst
          · omega
          · omega
          · cases h
        by_cases hfull : 8 ≤ s.office.replies.length
        · rw [if_pos hfull] at hexec
          exact .lost helse hfull hexec
        · exact .vacuous helse (fun h => hfull h.2.2.2.2) hexec
      · rw [if_pos hdst] at hexec
        exact .quiet (fun h => hdst h.1) hexec
  · rw [show terminalSlot h.src = none from dif_neg hterminal] at hexec
    exact .quiet (fun h => hterminal ⟨h.2.1, h.2.2.1⟩) hexec

theorem notTaken_maint (hl : s.live) :
    NotTaken s (.maint h ops) (h.dst ≠ s.office.address ∨ h.src < 32 ∨ 63 < h.src ∨ (!ops.isEmpty) = false)
      (h.dst = s.office.address ∧ 32 ≤ h.src ∧ h.src ≤ 63 ∧ (!ops.isEmpty) = true ∧ 8 ≤ s.office.replies.length) := by
  have hexec : exec (.maint h ops) s = execMaint h ops s := rfl
  unfold execMaint at hexec
  rw [live_of_released hl] at hexec
  by_cases hsite : 32 ≤ h.src ∧ h.src ≤ 63
  · have hfrom : fromSite h = true := by simp [fromSite, hsite]
    rw [hfrom] at hexec
    cases ops with
    | nil => exact .quiet (fun h => nomatch h.2.2.2.1) hexec
    | cons dst data =>
      dsimp only [maintPayload] at hexec
      by_cases hdst : h.dst = s.office.address
      · rw [if_neg (not_not.2 hdst)] at hexec
        have helse : ¬ (h.dst ≠ s.office.address ∨ h.src < 32 ∨ 63 < h.src ∨ (!(dst :: data).isEmpty) = false) := by
          rintro (h | h | h | h)
          · exact h hdst
          · omega
          · omega
          · cases h
        by_cases hfull : 8 ≤ s.office.replies.length
        · rw [if_pos hfull] at hexec
          exact .lost helse hfull hexec
        · exact .vacuous helse (fun h => hfull h.2.2.2.2) hexec
      · rw [if_pos hdst] at hexec
        exact .quiet (fun h => hdst h.1) hexec
  · have hfrom : fromSite h = false := by
      unfold fromSite
      rw [← Bool.decide_and, decide_eq_false hsite]
    rw [hfrom] at hexec
    exact .quiet (fun h => hsite ⟨h.2.1, h.2.2.1⟩) hexec

/-! ## Operands of another length -/

/-- The operands whose length is fixed. -/
theorem operands_eq_none (ops : List Byte) :
    (ops.length ≠ 0 → noOperands ops = none) ∧ (ops.length ≠ 1 → byteOperand ops = none) ∧
    (ops.length ≠ 2 → wordOperand ops = none) ∧ (ops.length ≠ 3 → readOperands ops = none) ∧
    (ops.length ≠ 18 → stationOperands ops = none) ∧ (ops.length ≠ 2 → aliasOperands ops = none) ∧
    (ops.length ≠ 13 → planOperands ops = none) ∧ (ops.length ≠ 7 → optionOperands ops = none) ∧
    (ops.length ≠ 9 → codeOperands ops = none) ∧ (ops.length ≠ 5 → passOperands ops = none) ∧
    (ops.length ≠ 16 → trackOperands ops = none) ∧ (ops.length ≠ 13 → timingOperands ops = none) ∧
    (ops.length ≠ 6 → nodeOperands ops = none) := by
  unfold noOperands byteOperand wordOperand readOperands stationOperands aliasOperands planOperands optionOperands codeOperands
    passOperands trackOperands timingOperands nodeOperands
  refine ⟨?_, ?_, ?_, ?_, ?_, ?_, ?_, ?_, ?_, ?_, ?_, ?_, ?_⟩
  all_goals
    intro hne
    split
    · exact absurd rfl hne
    · rfl

theorem withRuntime_eq_none {α : Type} {widths : List Nat} {runtime : List Byte} {write : α}
    (hne : runtime.length ∉ lengthsOf widths) : withRuntime widths runtime write = none := by
  cases hread : withRuntime widths runtime write with
  | none => rfl
  | some w => exact absurd (withRuntime_eq_some.1 hread).1 hne

/-- The bytes behind n writable ones, where all of them have a length that the runtime fields do not fill. -/
theorem not_mem_of_length {n : Nat} {lengths : List Nat} {widths : List Nat} {runtime : List Byte}
    (hne : ∀ k ∈ lengths, ops.length ≠ n + k) (hsub : ∀ k ∈ lengthsOf widths, k ∈ lengths) (hlen : ops.length = n + runtime.length) :
    runtime.length ∉ lengthsOf widths := fun hmem => hne _ (hsub _ hmem) hlen

theorem eyeOperands_eq_none (hne : ∀ k ∈ [0, 1, 2], ops.length ≠ 7 + k) : eyeOperands ops = none := by
  unfold eyeOperands
  split
  · refine withRuntime_eq_none (not_mem_of_length hne (fun k hk => ?_) (by simp only [List.length_cons]; omega))
    have hle := mem_lengthsOf_eyeRuntime.1 hk
    simp
    omega
  · rfl

theorem arbiterOperands_eq_none (hne : ∀ k ∈ List.range 15, ops.length ≠ 4 + k) : arbiterOperands ops = none := by
  unfold arbiterOperands
  split
  · refine withRuntime_eq_none (not_mem_of_length hne (fun k hk => ?_) (by simp only [List.length_cons]; omega))
    have hle := mem_lengthsOf_arbiterRuntime.1 hk
    exact List.mem_range.2 (by omega)
  · rfl

theorem gateOperands_eq_none (hne : ∀ k ∈ [0, 1, 2, 3, 5, 6, 7, 8, 10, 11, 12, 13], ops.length ≠ 8 + k) :
    gateOperands ops = none := by
  unfold gateOperands
  split
  · refine withRuntime_eq_none (not_mem_of_length hne (fun k hk => ?_) (by simp only [List.length_cons]; omega))
    obtain ⟨hle, hfour, hnine⟩ := mem_lengthsOf_gateRuntime.1 hk
    simp
    omega
  · rfl

theorem pacingOperands_eq_none (hne : ∀ k ∈ List.range 30, ops.length ≠ 15 + k) : pacingOperands ops = none := by
  unfold pacingOperands
  split
  · refine withRuntime_eq_none (not_mem_of_length hne (fun k hk => ?_) (by simp only [List.length_cons]; omega))
    have hle := mem_lengthsOf_pacingRuntime.1 hk
    exact List.mem_range.2 (by omega)
  · rfl

/-- A request whose operands are of another form is discarded (R177). -/
theorem quiet_of_malformed {α : Type} {c : Instr} {code : Nat} {operands : Option α} {f : State → α → Answer} (ha : s.accepts h)
    (hexec : exec c s = request s h code operands f) (hnone : operands = none) : ∃ t, exec c s = .next t ∧ Quiet [] s t := by
  subst hnone
  exact ⟨_, hexec.trans (request_malformed ha f), (Queues.refl s).kick⟩

/-! ## O33 -/

theorem notTaken_of_mem {c : Instr} (hl : s.live)
    (hc : c ∈ [Instr.tableRead h ops, .tableWrite h ops, .stationWrite h ops, .aliasWrite h ops, .planWrite h ops,
      .optionWrite h ops, .codeWrite h ops, .eyeWrite h ops, .passWrite h ops, .pacingWrite h ops, .gateWrite h ops,
      .trackWrite h ops, .timingWrite h ops, .arbiterWrite h ops, .nodeEncoderWrite h ops, .nodeDriveWrite h ops,
      .nodeRollerWrite h ops, .nodeOfficeWrite h ops, .gateOpen h ops, .gateClose h ops, .run h ops, .stop h ops,
      .halt h ops, .ack h ops, .resume h ops, .stationClear h ops, .eyeRestore h ops, .saleVoid h ops, .carClear h ops,
      .tunnelReset h ops, .tallyRead h ops, .tallyReset h ops, .statusRead h ops]) :
    NotTaken s c (h.dst ≠ s.office.address ∨ h.src ≤ 31 ∨ 64 ≤ h.src)
      (h.dst = s.office.address ∧ 32 ≤ h.src ∧ h.src ≤ 63 ∧ 8 ≤ s.office.replies.length) := by
  revert c
  simp only [List.forall_mem_cons, List.not_mem_nil, false_implies, implies_true, and_true]
  exact ⟨notTaken_request hl (show execTableRead h ops s = _ from rfl),
    notTaken_request hl (show execTableWrite h ops s = _ from rfl),
    notTaken_request hl (show execStationWrite h ops s = _ from rfl),
    notTaken_request hl (show execAliasWrite h ops s = _ from rfl),
    notTaken_request hl (show execPlanWrite h ops s = _ from rfl),
    notTaken_request hl (show execOptionWrite h ops s = _ from rfl),
    notTaken_request hl (show execCodeWrite h ops s = _ from rfl),
    notTaken_request hl (show execEyeWrite h ops s = _ from rfl),
    notTaken_request hl (show execPassWrite h ops s = _ from rfl),
    notTaken_request hl (show execPacingWrite h ops s = _ from rfl),
    notTaken_request hl (show execGateWrite h ops s = _ from rfl),
    notTaken_request hl (show execTrackWrite h ops s = _ from rfl),
    notTaken_request hl (show execTimingWrite h ops s = _ from rfl),
    notTaken_request hl (show execArbiterWrite h ops s = _ from rfl),
    notTaken_request hl (show execNodeEncoderWrite h ops s = _ from rfl),
    notTaken_request hl (show execNodeDriveWrite h ops s = _ from rfl),
    notTaken_request hl (show execNodeRollerWrite h ops s = _ from rfl),
    notTaken_request hl (show execNodeOfficeWrite h ops s = _ from rfl),
    notTaken_request hl (show execGateOpen h ops s = _ from rfl),
    notTaken_request hl (show execGateClose h ops s = _ from rfl),
    notTaken_request hl (show execRun h ops s = _ from rfl),
    notTaken_request hl (show execStop h ops s = _ from rfl),
    notTaken_request hl (show execHalt h ops s = _ from rfl),
    notTaken_request hl (show execAck h ops s = _ from rfl),
    notTaken_request hl (show execResume h ops s = _ from rfl),
    notTaken_request hl (show execStationClear h ops s = _ from rfl),
    notTaken_request hl (show execEyeRestore h ops s = _ from rfl),
    notTaken_request hl (show execSaleVoid h ops s = _ from rfl),
    notTaken_request hl (show execCarClear h ops s = _ from rfl),
    notTaken_request hl (show execTunnelReset h ops s = _ from rfl),
    notTaken_request hl (show execTallyRead h ops s = _ from rfl),
    notTaken_request hl (show execTallyReset h ops s = _ from rfl),
    notTaken_request hl (show execStatusRead h ops s = _ from rfl)⟩

theorem quiet_of_length {c : Instr} {n : Nat} (ha : s.accepts h) (hne : ops.length ≠ n)
    (hc : (c, n) ∈ [(Instr.tableRead h ops, 3), (.stationWrite h ops, 18), (.aliasWrite h ops, 2), (.planWrite h ops, 13),
      (.optionWrite h ops, 7), (.codeWrite h ops, 9), (.passWrite h ops, 5), (.trackWrite h ops, 16), (.timingWrite h ops, 13),
      (.nodeEncoderWrite h ops, 6), (.nodeDriveWrite h ops, 6), (.nodeRollerWrite h ops, 6), (.nodeOfficeWrite h ops, 6),
      (.gateOpen h ops, 0), (.gateClose h ops, 0), (.run h ops, 2), (.stop h ops, 0), (.halt h ops, 0), (.ack h ops, 0),
      (.resume h ops, 0), (.stationClear h ops, 1), (.eyeRestore h ops, 1), (.saleVoid h ops, 2), (.carClear h ops, 1),
      (.tunnelReset h ops, 0), (.tallyRead h ops, 1), (.tallyReset h ops, 0), (.statusRead h ops, 0)]) :
    ∃ t, exec c s = .next t ∧ Quiet [] s t := by
  obtain ⟨hno, hbyte, hword, hread, hstation, halias, hplan, hoption, hcode, hpass, htrack, htiming, hnode⟩ := operands_eq_none ops
  simp only [List.mem_cons, Prod.mk.injEq, List.not_mem_nil, or_false] at hc
  rcases hc with ⟨rfl, rfl⟩ | ⟨rfl, rfl⟩ | ⟨rfl, rfl⟩ | ⟨rfl, rfl⟩ | ⟨rfl, rfl⟩ | ⟨rfl, rfl⟩ | ⟨rfl, rfl⟩ | ⟨rfl, rfl⟩ |
    ⟨rfl, rfl⟩ | ⟨rfl, rfl⟩ | ⟨rfl, rfl⟩ | ⟨rfl, rfl⟩ | ⟨rfl, rfl⟩ | ⟨rfl, rfl⟩ | ⟨rfl, rfl⟩ | ⟨rfl, rfl⟩ | ⟨rfl, rfl⟩ |
    ⟨rfl, rfl⟩ | ⟨rfl, rfl⟩ | ⟨rfl, rfl⟩ | ⟨rfl, rfl⟩ | ⟨rfl, rfl⟩ | ⟨rfl, rfl⟩ | ⟨rfl, rfl⟩ | ⟨rfl, rfl⟩ | ⟨rfl, rfl⟩ |
    ⟨rfl, rfl⟩ | ⟨rfl, rfl⟩
  · exact quiet_of_malformed ha (show execTableRead h ops s = _ from rfl) (hread hne)
  · exact quiet_of_malformed ha (show execStationWrite h ops s = _ from rfl) (hstation hne)
  · exact quiet_of_malformed ha (show execAliasWrite h ops s = _ from rfl) (halias hne)
  · exact quiet_of_malformed ha (show execPlanWrite h ops s = _ from rfl) (hplan hne)
  · exact quiet_of_malformed ha (show execOptionWrite h ops s = _ from rfl) (hoption hne)
  · exact quiet_of_malformed ha (show execCodeWrite h ops s = _ from rfl) (hcode hne)
  · exact quiet_of_malformed ha (show execPassWrite h ops s = _ from rfl) (hpass hne)
  · exact quiet_of_malformed ha (show execTrackWrite h ops s = _ from rfl) (htrack hne)
  · exact quiet_of_malformed ha (show execTimingWrite h ops s = _ from rfl) (htiming hne)
  · exact quiet_of_malformed ha (show execNodeEncoderWrite h ops s = _ from rfl) (hnode hne)
  · exact quiet_of_malformed ha (show execNodeDriveWrite h ops s = _ from rfl) (hnode hne)
  · exact quiet_of_malformed ha (show execNodeRollerWrite h ops s = _ from rfl) (hnode hne)
  · exact quiet_of_malformed ha (show execNodeOfficeWrite h ops s = _ from rfl) (hnode hne)
  · exact quiet_of_malformed ha (show execGateOpen h ops s = _ from rfl) (hno hne)
  · exact quiet_of_malformed ha (show execGateClose h ops s = _ from rfl) (hno hne)
  · exact quiet_of_malformed ha (show execRun h ops s = _ from rfl) (hword hne)
  · exact quiet_of_malformed ha (show execStop h ops s = _ from rfl) (hno hne)
  · exact quiet_of_malformed ha (show execHalt h ops s = _ from rfl) (hno hne)
  · exact quiet_of_malformed ha (show execAck h ops s = _ from rfl) (hno hne)
  · exact quiet_of_malformed ha (show execResume h ops s = _ from rfl) (hno hne)
  · exact quiet_of_malformed ha (show execStationClear h ops s = _ from rfl) (hbyte hne)
  · exact quiet_of_malformed ha (show execEyeRestore h ops s = _ from rfl) (hbyte hne)
  · exact quiet_of_malformed ha (show execSaleVoid h ops s = _ from rfl) (hword hne)
  · exact quiet_of_malformed ha (show execCarClear h ops s = _ from rfl) (hbyte hne)
  · exact quiet_of_malformed ha (show execTunnelReset h ops s = _ from rfl) (hno hne)
  · exact quiet_of_malformed ha (show execTallyRead h ops s = _ from rfl) (hbyte hne)
  · exact quiet_of_malformed ha (show execTallyReset h ops s = _ from rfl) (hno hne)
  · exact quiet_of_malformed ha (show execStatusRead h ops s = _ from rfl) (hno hne)

/-- Settles O33: each command is one of the three forms of a request, and each reads its operands or nothing. -/
theorem requestsNotTaken : Obligations.RequestsNotTaken := by
  intro s h ops hl
  refine ⟨fun c hc => ?_, fun c n hc ha hne => quiet_of_length ha hne hc, fun c n runtime hc ha hne => ?_,
    fun c lo hi formed hc => ?_⟩
  · obtain ⟨t, hexec, hquiet, hlost⟩ := notTaken_of_mem hl hc
    exact ⟨t, hexec, hquiet, fun hdst hlow hhigh hfull => hlost ⟨hdst, hlow, hhigh, hfull⟩⟩
  · simp only [List.mem_cons, Prod.mk.injEq, List.not_mem_nil, or_false] at hc
    rcases hc with ⟨rfl, rfl, rfl⟩ | ⟨rfl, rfl, rfl⟩ | ⟨rfl, rfl, rfl⟩ | ⟨rfl, rfl, rfl⟩
    · exact quiet_of_malformed ha (show execEyeWrite h ops s = _ from rfl) (eyeOperands_eq_none hne)
    · exact quiet_of_malformed ha (show execArbiterWrite h ops s = _ from rfl) (arbiterOperands_eq_none hne)
    · exact quiet_of_malformed ha (show execGateWrite h ops s = _ from rfl) (gateOperands_eq_none hne)
    · exact quiet_of_malformed ha (show execPacingWrite h ops s = _ from rfl) (pacingOperands_eq_none hne)
  · have hnot : NotTaken s c (h.dst ≠ s.office.address ∨ h.src < lo ∨ hi < h.src ∨ formed = false)
        (h.dst = s.office.address ∧ lo ≤ h.src ∧ h.src ≤ hi ∧ formed = true ∧ 8 ≤ s.office.replies.length) := by
      simp only [List.mem_cons, Prod.mk.injEq, List.not_mem_nil, or_false] at hc
      rcases hc with ⟨rfl, rfl, rfl, rfl⟩ | ⟨rfl, rfl, rfl, rfl⟩ | ⟨rfl, rfl, rfl, rfl⟩ | ⟨rfl, rfl, rfl, rfl⟩
      · exact notTaken_terminalRequest hl (show execQuoteReq h ops s = _ from rfl)
      · exact notTaken_terminalRequest hl (show execCloseReq h ops s = _ from rfl)
      · exact notTaken_terminalRequest hl (show execDropReq h ops s = _ from rfl)
      · exact notTaken_maint hl
    obtain ⟨t, hexec, hquiet, hlost⟩ := hnot
    exact ⟨t, hexec, hquiet, fun hdst hlow hhigh hformed hfull => hlost ⟨hdst, hlow, hhigh, hformed, hfull⟩⟩

end Sys2Proof.Machine
end

section
/-! Writes of PACING, TIMING and ARBITER (R79, R80, R171): O37. -/

set_option Elab.async false

namespace Sys2Proof.Machine

variable {s t u : State} {h : Head} {ops runtime : List Byte}

/-! ## Runtime fields behind the writable fields (R180, log 21) -/

theorem withRuntime_of_mem {α : Type} {widths : List Nat} {write : α} (hmem : runtime.length ∈ lengthsOf widths) :
    withRuntime widths runtime write = some write := withRuntime_eq_some.2 ⟨hmem, rfl⟩

/-- No runtime field at all is one of the choices. -/
theorem withRuntime_nil {α : Type} {widths : List Nat} {write : α} (hzero : 0 ∈ lengthsOf widths) :
    withRuntime widths [] write = some write := withRuntime_of_mem hzero

theorem pacingOperands_runtime (hops : ops.length = 15) (hruntime : runtime.length ≤ 29) :
    pacingOperands (ops ++ runtime) = pacingOperands ops := by
  match ops, hops with
  | [_, _, _, _, _, _, _, _, _, _, _, _, _, _, _], _ =>
    exact (withRuntime_of_mem (mem_lengthsOf_pacingRuntime.2 hruntime)).trans
      (withRuntime_nil (mem_lengthsOf_pacingRuntime.2 (Nat.zero_le _))).symm

theorem arbiterOperands_runtime (hops : ops.length = 4) (hruntime : runtime.length ≤ 14) :
    arbiterOperands (ops ++ runtime) = arbiterOperands ops := by
  match ops, hops with
  | [_, _, _, _], _ =>
    exact (withRuntime_of_mem (mem_lengthsOf_arbiterRuntime.2 hruntime)).trans
      (withRuntime_nil (mem_lengthsOf_arbiterRuntime.2 (Nat.zero_le _))).symm

/-! ## What a write does -/

/-- A write that is refused changes nothing. -/
theorem write_refused {α : Type} {operands : Option α} {w : α} {write : State → α → Answer} {result : Result} (ha : s.accepts h)
    (hform : operands = some w) (heffect : write s w = s.refuse result) :
    ∃ t, request s h 0x02 operands write = .next t ∧ Replies [] s t (mgmtReply s h 0x02 result []) :=
  request_refused ha hform heffect

/-- A write that is stored leads to the stored state, and replies the entry. -/
theorem write_stored {α : Type} {operands : Option α} {w : α} {write : State → α → Answer} {clamped : Bool} {data : List Byte}
    (ha : s.accepts h) (hform : operands = some w) (heffect : write s w = u.stored clamped data) :
    ∃ t, request s h 0x02 operands write = .next t ∧ SameButOffice u t ∧
      ∀ fs, Touches fs s u → Field.office ∉ fs →
        Replies fs s t (mgmtReply s h 0x02 (if clamped then .okClamped else .ok) data) := by
  obtain ⟨t, hexec, hsame, hsends⟩ := request_does (code := 0x02) ha hform write
  rw [heffect] at hsame hsends
  exact ⟨t, hexec, hsame, fun fs htouch off => hsends fs [] (.of_touches htouch off)⟩

/-- The result of a write that compares the entry as stored with the entry as written. -/
theorem stored_result {α : Type} [DecidableEq α] [BEq α] [LawfulBEq α] (x y : α) :
    (if (x != y) = true then Result.okClamped else .ok) = if x = y then .ok else .okClamped := by
  by_cases hxy : x = y
  · simp [hxy]
  · simp [hxy]

/-! ## O37 -/

theorem exec_pacingWrite {w : PacingWrite} (ha : s.accepts h) (hform : pacingOperands ops = some w) :
    ∃ t, exec (.pacingWrite h ops) s = .next t ∧
      (w.index ≠ 0 → Replies [] s t (mgmtReply s h 0x02 .badIndex [])) ∧
      (w.index = 0 → t.pacer = (w.raw s.pacer).clamped ∧ Replies [.pacer] s t (mgmtReply s h 0x02
        (if (w.raw s.pacer).clamped = w.raw s.pacer then .ok else .okClamped) (w.raw s.pacer).clamped.bytes)) := by
  by_cases hindex : w.index = 0
  · obtain ⟨t, hexec, hsame, hreplies⟩ := write_stored (write := State.writePacing) ha hform (if_neg (not_not.2 hindex))
    rw [stored_result] at hreplies
    exact ⟨t, hexec, fun h => absurd hindex h, fun _ => ⟨hsame.pacer, hreplies _ (touches_onPacer s _) (by decide)⟩⟩
  · obtain ⟨t, hexec, hreplies⟩ := write_refused (write := State.writePacing) ha hform (if_pos hindex)
    exact ⟨t, hexec, fun _ => hreplies, fun h => absurd h hindex⟩

theorem exec_timingWrite {index : Nat} {w : Timing} (ha : s.accepts h) (hform : timingOperands ops = some (index, w)) :
    ∃ t, exec (.timingWrite h ops) s = .next t ∧
      (index ≠ 0 → Replies [] s t (mgmtReply s h 0x02 .badIndex [])) ∧
      (index = 0 → t.timing = w.clamped ∧
        Replies [.timing] s t (mgmtReply s h 0x02 (if w.clamped = w then .ok else .okClamped) w.clamped.bytes)) := by
  by_cases hindex : index = 0
  · obtain ⟨t, hexec, hsame, hreplies⟩ := write_stored (write := State.writeTiming) ha hform (if_neg (not_not.2 hindex))
    rw [stored_result] at hreplies
    exact ⟨t, hexec, fun h => absurd hindex h, fun _ => ⟨hsame.timing, hreplies _ (touches_onTiming s _) (by decide)⟩⟩
  · obtain ⟨t, hexec, hreplies⟩ := write_refused (write := State.writeTiming) ha hform (if_pos hindex)
    exact ⟨t, hexec, fun _ => hreplies, fun h => absurd h hindex⟩

theorem withPriorities_eq_iff (r : Ring) (m o p m' o' p' : Nat) :
    r.withPriorities m o p = r.withPriorities m' o' p' ↔ m = m' ∧ o = o' ∧ p = p' := by
  simp [Ring.withPriorities]

/-- A value within its range is stored as it is. -/
theorem clamp_eq_iff {lo hi n : Nat} (hle : lo ≤ hi) : clamp lo hi n = n ↔ lo ≤ n ∧ n ≤ hi := by
  unfold clamp
  omega

theorem exec_arbiterWrite {index motion order pass : Nat} (ha : s.accepts h)
    (hform : arbiterOperands ops = some (index, motion, order, pass)) :
    ∃ t, exec (.arbiterWrite h ops) s = .next t ∧
      (index ≠ 0 → Replies [] s t (mgmtReply s h 0x02 .badIndex [])) ∧
      (index = 0 →
        t.ring = s.ring.withPriorities (clamp 1 15 motion) (clamp 1 15 order) (clamp 1 15 pass) ∧
        Replies [.ring] s t (mgmtReply s h 0x02
          (if 1 ≤ motion ∧ motion ≤ 15 ∧ 1 ≤ order ∧ order ≤ 15 ∧ 1 ≤ pass ∧ pass ≤ 15 then .ok else .okClamped)
          (one (clamp 1 15 motion) ++ one (clamp 1 15 order) ++ one (clamp 1 15 pass)))) := by
  by_cases hindex : index = 0
  · obtain ⟨t, hexec, hsame, hreplies⟩ := write_stored (write := State.writeArbiter) ha hform (if_neg (not_not.2 hindex))
    rw [stored_result] at hreplies
    simp only [withPriorities_eq_iff, clamp_eq_iff (show 1 ≤ 15 by decide), and_assoc] at hreplies
    exact ⟨t, hexec, fun h => absurd hindex h, fun _ => ⟨hsame.ring, hreplies _ (touches_onRing s _) (by decide)⟩⟩
  · obtain ⟨t, hexec, hreplies⟩ := write_refused (write := State.writeArbiter) ha hform (if_pos hindex)
    exact ⟨t, hexec, fun _ => hreplies, fun h => absurd h hindex⟩

/-- Settles O37. -/
theorem pacingTimingAndArbiterAreWritten : Obligations.PacingTimingAndArbiterAreWritten := by
  intro s h ops ha
  refine ⟨fun runtime => ⟨fun hops hruntime => ?_, fun hops hruntime => ?_⟩, fun w hform => ?_, fun index w hform => ?_,
    fun index motion order pass hform => exec_arbiterWrite ha hform⟩
  · exact congrArg (fun operands => request s h 0x02 operands State.writePacing) (pacingOperands_runtime hops hruntime)
  · exact congrArg (fun operands => request s h 0x02 operands State.writeArbiter) (arbiterOperands_runtime hops hruntime)
  · obtain ⟨t, hexec, hindex, hstored⟩ := exec_pacingWrite ha hform
    exact ⟨t, hexec, hindex, fun hzero => ⟨_, rfl, hstored hzero⟩⟩
  · obtain ⟨t, hexec, hindex, hstored⟩ := exec_timingWrite ha hform
    exact ⟨t, hexec, hindex, fun hzero => ⟨_, rfl, hstored hzero⟩⟩

end Sys2Proof.Machine
end

section
/-! Writes of GATE and TRACK (R53, R7, R38, R83): O38. -/

set_option Elab.async false

namespace Sys2Proof.Machine

variable {s t u : State} {h : Head} {ops runtime : List Byte}

/-! ## GATE -/

theorem gateOperands_runtime (hops : ops.length = 8) (hlen : runtime.length ≤ 13) (hfour : runtime.length ≠ 4)
    (hnine : runtime.length ≠ 9) : gateOperands (ops ++ runtime) = gateOperands ops := by
  match ops, hops with
  | [_, _, _, _, _, _, _, _], _ =>
    exact (withRuntime_of_mem (mem_lengthsOf_gateRuntime.2 ⟨hlen, hfour, hnine⟩)).trans
      (withRuntime_nil (mem_lengthsOf_gateRuntime.2 (by decide))).symm

theorem flagOf_eq_none_iff {n : Nat} : flagOf n = none ↔ 2 ≤ n := by
  match n with
  | 0 | 1 => simp [flagOf]
  | n + 2 => simp [flagOf]

theorem flagOf_of_le {n : Nat} (hn : n ≤ 1) : flagOf n = some (decide (n = 1)) := by
  match n, hn with
  | 0, _ | 1, _ => rfl

theorem one_of_flag {n : Nat} (hn : n ≤ 1) : flag (decide (n = 1)) = one n := by
  match n, hn with
  | 0, _ | 1, _ => rfl

/-- The gate as a write stores it (R53). -/
def GateWrite.stored (w : GateWrite) (g : Gate) : Gate := (w.raw g (decide (w.admitUnsold = 1))).clamped

theorem gateStored_eq_raw_iff (w : GateWrite) (g : Gate) : w.stored g = w.raw g (decide (w.admitUnsold = 1)) ↔
    500 ≤ w.pitch ∧ w.pitch ≤ 10000 ∧ 100 ≤ w.gap ∧ w.gap ≤ 5000 ∧ 200 ≤ w.reach ∧ w.reach ≤ 4000 := by
  simp only [GateWrite.stored, Gate.clamped, GateWrite.raw, Gate.mk.injEq, clamp_eq_iff (show 500 ≤ 10000 by decide),
    clamp_eq_iff (show 100 ≤ 5000 by decide), clamp_eq_iff (show 200 ≤ 4000 by decide), true_and, and_true, and_assoc]

theorem writeGate_stored {w : GateWrite} (hindex : w.index = 0) (hflag : w.admitUnsold ≤ 1) :
    s.writeGate w = (s.onGate fun _ => w.stored s.gate).admissionCheck.stored
      (w.stored s.gate != w.raw s.gate (decide (w.admitUnsold = 1))) (w.stored s.gate).bytes := by
  unfold State.writeGate
  rw [if_neg (not_not.2 hindex), flagOf_of_le hflag]
  rfl

theorem writeGate_badValue {w : GateWrite} (hindex : w.index = 0) (hflag : 2 ≤ w.admitUnsold) :
    s.writeGate w = s.refuse .badValue := by
  unfold State.writeGate
  rw [if_neg (not_not.2 hindex), flagOf_eq_none_iff.2 hflag]

/-- The reply of a GATE write that is stored (R53). -/
def State.gateReply (s : State) (h : Head) (w : GateWrite) : Reply :=
  mgmtReply s h 0x02
    (if 500 ≤ w.pitch ∧ w.pitch ≤ 10000 ∧ 100 ≤ w.gap ∧ w.gap ≤ 5000 ∧ 200 ≤ w.reach ∧ w.reach ≤ 4000 then .ok
      else .okClamped)
    (two (max 500 (min 10000 w.pitch)) ++ two (max 100 (min 5000 w.gap)) ++ two (max 200 (min 4000 w.reach)) ++
      one w.admitUnsold)

theorem gateStored_bytes {w : GateWrite} (g : Gate) (hflag : w.admitUnsold ≤ 1) : (w.stored g).bytes =
    two (max 500 (min 10000 w.pitch)) ++ two (max 100 (min 5000 w.gap)) ++ two (max 200 (min 4000 w.reach)) ++
      one w.admitUnsold := by
  rw [← one_of_flag hflag]
  rfl

/-- A GATE write that is stored, with the car that its admission check may call (R53, R42). -/
theorem exec_gateWrite_stored {w : GateWrite} (ha : s.accepts h) (hform : gateOperands ops = some w) (hindex : w.index = 0)
    (hflag : w.admitUnsold ≤ 1) (hu : u = s.onGate fun _ => w.stored s.gate) :
    ∃ t, exec (.gateWrite h ops) s = .next t ∧
      (s.gate.phase = .ready → u.admissible = true →
        t.gate = { u.gate with phase := .calling, call := some { number := s.freeOrderNumber, transmitted := false } } ∧
        t.ring = s.ring.push .order (.order s.gate.roller s.freeOrderNumber .call 0) ∧
        t.seq = { s.seq with nextNumber := nextInSequence 255 s.freeOrderNumber } ∧
        Replies [.gate, .ring, .seq] s t (s.gateReply h w)) ∧
      (s.gate.phase ≠ .ready ∨ u.admissible = false → t.gate = u.gate ∧ Replies [.gate] s t (s.gateReply h w)) := by
  obtain ⟨t, hexec, hsame, hreplies⟩ := write_stored (write := State.writeGate) ha hform (writeGate_stored hindex hflag)
  have htouch : Touches [.gate] s u := by
    rw [hu]
    exact touches_onGate s _
  have hreply : mgmtReply s h 0x02 (if (w.stored s.gate != w.raw s.gate (decide (w.admitUnsold = 1))) = true then .okClamped
      else .ok) (w.stored s.gate).bytes = s.gateReply h w := by
    rw [stored_result, gateStored_bytes s.gate hflag]
    simp only [gateStored_eq_raw_iff]
    rfl
  rw [hreply] at hreplies
  rw [← hu] at hsame hreplies
  have hphase : u.gate.phase = s.gate.phase := by rw [hu]; rfl
  have hnumber : u.freeOrderNumber = s.freeOrderNumber := by rw [hu]; rfl
  have hroller : u.gate.roller = s.gate.roller := by rw [hu]; rfl
  refine ⟨t, hexec, fun hready hadmissible => ?_, fun hnot => ?_⟩
  · have hchecked := htouch.andThen (admissionCheck_touches u) (hs := [.gate, .ring, .seq])
    have hsent := hreplies _ hchecked (by decide)
    rw [admissionCheck_called (hphase.trans hready) hadmissible] at hsame
    refine ⟨hsame.gate.trans ?_, hsame.ring.trans ?_, hsame.seq.trans ?_, hsent⟩
    · rw [← hnumber]
      rfl
    · rw [← hnumber, ← hroller, ← htouch.ring]
      rfl
    · rw [← hnumber, ← htouch.seq]
      rfl
  · rw [admissionCheck_none (hphase ▸ hnot)] at hsame hreplies
    exact ⟨hsame.gate, hreplies _ htouch (by decide)⟩

/-! ## TRACK -/

theorem eyeBeyond_iff {length : Nat} : s.eyeBeyond length = true ↔
    ∃ k ∈ trackingEyes, s.eyes[k].enabled = true ∧ length ≤ s.eyes[k].position := by
  unfold State.eyeBeyond
  simp

theorem writeTrack_eq {w : TrackWrite} (hindex : w.index = 0) : s.writeTrack w =
    if w.track.clamped.length ≠ s.track.length ∧ s.cars ≠ [] then s.refuse .occupied
    else if w.track.clamped.length ≠ s.track.length ∧ s.eyeBeyond w.track.clamped.length = true then s.refuse .badValue
    else (s.storeTrack w.track.clamped).stored (w.track.clamped != w.track) w.track.clamped.bytes := by
  unfold State.writeTrack
  rw [if_neg (not_not.2 hindex)]

theorem storeTrack_parts (e : Track) : (s.storeTrack e).track = e ∧
    (s.storeTrack e).map = (if e.length = s.track.length then s.map
      else { s.map with table := s.map.table.map fun x =>
        { x with windowStart := min e.length x.windowStart, windowEnd := min e.length x.windowEnd } }) ∧
    Touches [.track, .map] s (s.storeTrack e) := by
  have hstored := touches_onTrack s fun _ => e
  unfold State.storeTrack
  dsimp only
  split
  · exact ⟨rfl, rfl, hstored.mono (by decide)⟩
  · exact ⟨rfl, rfl, hstored.andThen (touches_onMap _ _)⟩

theorem exec_trackWrite {w : TrackWrite} (ha : s.accepts h) (hform : trackOperands ops = some w) :
    ∃ t, exec (.trackWrite h ops) s = .next t ∧
      (w.index ≠ 0 → Replies [] s t (mgmtReply s h 0x02 .badIndex [])) ∧
      (w.index = 0 → w.track.clamped.length ≠ s.track.length → s.cars ≠ [] →
        Replies [] s t (mgmtReply s h 0x02 .occupied [])) ∧
      (w.index = 0 → w.track.clamped.length ≠ s.track.length → s.cars = [] → s.eyeBeyond w.track.clamped.length = true →
        Replies [] s t (mgmtReply s h 0x02 .badValue [])) ∧
      (w.index = 0 → w.track.clamped.length = s.track.length ∨
          (s.cars = [] ∧ s.eyeBeyond w.track.clamped.length ≠ true) →
        SameButOffice (s.storeTrack w.track.clamped) t ∧ Replies [.track, .map] s t (mgmtReply s h 0x02
          (if w.track.clamped = w.track then .ok else .okClamped) w.track.clamped.bytes)) := by
  obtain ⟨t, hexec, hsame, hsends⟩ := request_does (code := 0x02) ha hform State.writeTrack
  refine ⟨t, hexec, fun hindex => ?_, fun hindex hlength hcars => ?_, fun hindex hlength hcars hbeyond => ?_,
    fun hindex hmay => ?_⟩
  · rw [show s.writeTrack w = s.refuse .badIndex from if_pos hindex] at hsends
    exact hsends _ _ (.refl s)
  · rw [writeTrack_eq hindex, if_pos ⟨hlength, hcars⟩] at hsends
    exact hsends _ _ (.refl s)
  · rw [writeTrack_eq hindex, if_neg (fun h => h.2 hcars), if_pos ⟨hlength, hbeyond⟩] at hsends
    exact hsends _ _ (.refl s)
  · have hcars : ¬ (w.track.clamped.length ≠ s.track.length ∧ s.cars ≠ []) := fun ⟨hlength, hcars⟩ =>
      hmay.elim hlength fun h => hcars h.1
    have hbeyond : ¬ (w.track.clamped.length ≠ s.track.length ∧ s.eyeBeyond w.track.clamped.length = true) :=
      fun ⟨hlength, hbeyond⟩ => hmay.elim hlength fun h => h.2 hbeyond
    rw [writeTrack_eq hindex, if_neg hcars, if_neg hbeyond] at hsame hsends
    have hsent := hsends [.track, .map] [] (.of_touches (storeTrack_parts _).2.2)
    refine ⟨hsame, ?_⟩
    rw [← stored_result]
    exact hsent

/-- Settles O38. -/
theorem gateAndTrackAreWritten : Obligations.GateAndTrackAreWritten := by
  intro s h ops ha
  refine ⟨fun runtime hops hlen hfour hnine => ?_, fun w hform => ?_, fun w hform => ?_⟩
  · exact congrArg (fun operands => request s h 0x02 operands State.writeGate) (gateOperands_runtime hops hlen hfour hnine)
  · by_cases hindex : w.index = 0
    · by_cases hflag : w.admitUnsold ≤ 1
      · obtain ⟨t, hexec, hcalls, hstays⟩ := exec_gateWrite_stored ha hform hindex hflag rfl
        refine ⟨t, hexec, fun h => absurd hindex h, fun _ h => by omega, ?_⟩
        rintro u reply - - rfl rfl
        exact ⟨hcalls, hstays⟩
      · obtain ⟨t, hexec, hreplies⟩ := write_refused (write := State.writeGate) ha hform (writeGate_badValue hindex (by omega))
        exact ⟨t, hexec, fun h => absurd hindex h, fun _ _ => hreplies, fun _ _ _ h => absurd h hflag⟩
    · obtain ⟨t, hexec, hreplies⟩ := write_refused (write := State.writeGate) ha hform (if_pos hindex)
      exact ⟨t, hexec, fun _ => hreplies, fun h => absurd h hindex, fun _ _ h => absurd h hindex⟩
  · obtain ⟨t, hexec, hindex, hoccupied, hbeyond, hstored⟩ := exec_trackWrite ha hform
    obtain ⟨htrack, hmap, -⟩ := storeTrack_parts (s := s) w.track.clamped
    refine ⟨t, w.track.clamped, hexec, rfl, hindex, hoccupied, fun hzero hlength hcars hexists =>
      hbeyond hzero hlength hcars (eyeBeyond_iff.2 hexists), fun hzero hmay => ?_⟩
    obtain ⟨hsame, hreplies⟩ := hstored hzero (hmay.imp id fun ⟨hcars, hall⟩ => ⟨hcars, fun h => by
      obtain ⟨k, hk, henabled, hle⟩ := eyeBeyond_iff.1 h
      exact absurd (hall k hk henabled) (by omega)⟩)
    exact ⟨hsame.track.trans htrack, hsame.map.trans hmap, hreplies⟩

end Sys2Proof.Machine
end

section
/-! Writes of the EYE table (R9): O39. -/

set_option Elab.async false

namespace Sys2Proof.Machine

variable {s t u : State} {h : Head} {ops runtime : List Byte} {w : EyeWrite} {k : Fin 10}

theorem eyeOperands_runtime (hops : ops.length = 7) (hlen : runtime.length ≤ 2) : eyeOperands (ops ++ runtime) = eyeOperands ops := by
  match ops, hops with
  | [_, _, _, _, _, _, _], _ =>
    exact (withRuntime_of_mem (mem_lengthsOf_eyeRuntime.2 hlen)).trans
      (withRuntime_nil (mem_lengthsOf_eyeRuntime.2 (Nat.zero_le _))).symm

theorem polarityOf_eq_none_iff {n : Nat} : polarityOf n = none ↔ 2 ≤ n := by
  match n with
  | 0 | 1 => simp [polarityOf]
  | n + 2 => simp [polarityOf]

theorem place_of_val {n : Nat} (k : Fin n) : place n k.val = some k := dif_pos k.isLt

theorem place_eq_none {n index : Nat} (hle : n ≤ index) : place n index = none := dif_neg (by omega)

theorem place_of_lt {n index : Nat} (hlt : index < n) : place n index = some ⟨index, hlt⟩ := dif_pos hlt

/-! ## The tests of an EYE write -/

theorem eyeInputTaken_iff {node input : Nat} : s.eyeInputTaken k node input = true ↔
    ∃ j : Fin 10, j ≠ k ∧ s.eyes[j].enabled = true ∧ s.eyes[j].node = node ∧ s.eyes[j].input = input := by
  unfold State.eyeInputTaken
  rw [List.any_eq_true]
  simp [and_assoc]

theorem positionFits_iff {position : Nat} : s.positionFits k position = true ↔ position < s.track.length ∧
    ∀ j : Fin 10, 4 ≤ j.val → s.eyes[j].enabled = true →
      (j < k → s.eyes[j].position < position) ∧ (k < j → position < s.eyes[j].position) := by
  unfold State.positionFits
  rw [Bool.and_eq_true, decide_eq_true_eq, List.all_eq_true]
  refine and_congr_right fun _ => forall_congr' fun j => ?_
  rw [mem_trackingEyes]
  refine imp_congr_right fun _ => ?_
  rcases lt_trichotomy j k with hlt | heq | hgt
  · cases s.eyes[j].enabled <;> simp [hlt, hlt.ne, hlt.not_gt]
  · subst heq
    simp
  · cases s.eyes[j].enabled <;> simp [hgt, hgt.ne', hgt.not_gt]

theorem isTracking_iff : isTracking k = true ↔ 4 ≤ k.val := decide_eq_true_iff

/-- What R9 asks of the inputs and positions of the other eyes, for an entry that is written enabled. -/
def State.eyeMayStand (s : State) (k : Fin 10) (e : Eye) : Prop :=
  (∀ j : Fin 10, j ≠ k → s.eyes[j].enabled = true → s.eyes[j].node = e.node → s.eyes[j].input ≠ e.input) ∧
  (4 ≤ k.val → e.position < s.track.length ∧ (∀ j : Fin 10, 4 ≤ j.val → s.eyes[j].enabled = true →
    (j < k → s.eyes[j].position < e.position) ∧ (k < j → e.position < s.eyes[j].position)))

theorem eyeFits_iff {e : Eye} (hlow : 1 ≤ e.node) (hhigh : e.node ≤ 126) (hinput : e.input ≤ 7) :
    s.eyeFits k e = true ↔ e.enabled = false ∨ s.eyeMayStand k e := by
  have htaken : (!s.eyeInputTaken k e.node e.input) = true ↔
      ∀ j : Fin 10, j ≠ k → s.eyes[j].enabled = true → s.eyes[j].node = e.node → s.eyes[j].input ≠ e.input := by
    rw [Bool.not_eq_true', ← Bool.not_eq_true, eyeInputTaken_iff]
    exact ⟨fun hnone j hj henabled hnode hsame => hnone ⟨j, hj, henabled, hnode, hsame⟩,
      fun hall ⟨j, hj, henabled, hnode, hsame⟩ => hall j hj henabled hnode hsame⟩
  have hposition : (!isTracking k || s.positionFits k e.position) = true ↔ (4 ≤ k.val → s.positionFits k e.position = true) := by
    rw [Bool.or_eq_true, Bool.not_eq_true', ← Bool.not_eq_true, isTracking_iff, imp_iff_not_or]
  unfold State.eyeFits State.eyeMayStand
  rw [decide_eq_true hlow, decide_eq_true hhigh, decide_eq_true hinput, ← htaken, ← positionFits_iff, ← hposition]
  simp

theorem eyeFits_false {e : Eye} (hbad : e.node = 0 ∨ 127 ≤ e.node ∨ 8 ≤ e.input) : s.eyeFits k e = false := by
  unfold State.eyeFits
  rcases hbad with h | h | h
  · rw [decide_eq_false (show ¬ 1 ≤ e.node by omega)]
    rfl
  · rw [decide_eq_false (show ¬ e.node ≤ 126 by omega), Bool.and_false]
    rfl
  · rw [decide_eq_false (show ¬ e.input ≤ 7 by omega), Bool.and_false]
    rfl

theorem disablesEnd_iff : w.disablesEnd k = true ↔ w.enabled = 0 ∧ (k = 1 ∨ k = 2) := by
  simp [EyeWrite.disablesEnd]

/-! ## What an EYE write does -/

theorem writeEye_place (hk : w.index = k.val) (hcars : s.cars = []) (hend : ¬ (w.disablesEnd k = true ∧ s.pacer.state ≠ .stopped))
    {enabled : Bool} {polarity : Polarity} (henabled : flagOf w.enabled = some enabled)
    (hpolarity : polarityOf w.polarity = some polarity) : s.writeEye w =
    if s.eyeFits k (w.entry k enabled polarity) then
      ((s.onEyes fun eyes => eyes.set k (w.entry k enabled polarity)).eyeRewritten k).stored
        (isTracking k && (w.entry k enabled polarity).position != w.position) (w.entry k enabled polarity).bytes
    else s.refuse .badValue := by
  unfold State.writeEye
  rw [hk, place_of_val]
  dsimp only
  rw [if_neg (not_not.2 hcars), if_neg hend, henabled, hpolarity]

/-- The first check of R9 that fails. -/
def State.eyeRefusal (s : State) (w : EyeWrite) : Result :=
  if 10 ≤ w.index then .badIndex
  else if s.cars ≠ [] then .occupied
  else if w.enabled = 0 ∧ (w.index = 1 ∨ w.index = 2) ∧ s.pacer.state ≠ .stopped then .wrongState
  else if w.node = 0 ∨ 127 ≤ w.node ∨ 8 ≤ w.input ∨ 2 ≤ w.polarity ∨ 2 ≤ w.enabled then .badValue
  else .ok

theorem writeEye_badValue (hbad : w.node = 0 ∨ 127 ≤ w.node ∨ 8 ≤ w.input ∨ 2 ≤ w.polarity ∨ 2 ≤ w.enabled)
    (hk : w.index = k.val) (hcars : s.cars = []) (hend : ¬ (w.disablesEnd k = true ∧ s.pacer.state ≠ .stopped)) :
    s.writeEye w = s.refuse .badValue := by
  cases henabled : flagOf w.enabled with
  | none =>
    unfold State.writeEye
    rw [hk, place_of_val]
    dsimp only
    rw [if_neg (not_not.2 hcars), if_neg hend, henabled]
  | some enabled =>
    cases hpolarity : polarityOf w.polarity with
    | none =>
      unfold State.writeEye
      rw [hk, place_of_val]
      dsimp only
      rw [if_neg (not_not.2 hcars), if_neg hend, henabled, hpolarity]
    | some polarity =>
      rw [writeEye_place hk hcars hend henabled hpolarity]
      have hflag : ¬ 2 ≤ w.enabled := fun h => by rw [flagOf_eq_none_iff.2 h] at henabled; cases henabled
      have hpole : ¬ 2 ≤ w.polarity := fun h => by rw [polarityOf_eq_none_iff.2 h] at hpolarity; cases hpolarity
      have hfits : s.eyeFits k (w.entry k enabled polarity) = false :=
        eyeFits_false (show w.node = 0 ∨ 127 ≤ w.node ∨ 8 ≤ w.input by omega)
      rw [hfits]
      rfl

theorem writeEye_refused (hrefused : s.eyeRefusal w ≠ .ok) : s.writeEye w = s.refuse (s.eyeRefusal w) := by
  unfold State.eyeRefusal at *
  by_cases hindex : 10 ≤ w.index
  · rw [if_pos hindex]
    unfold State.writeEye
    rw [place_eq_none hindex]
  · obtain ⟨k, hk⟩ : ∃ k : Fin 10, w.index = k.val := ⟨⟨w.index, by omega⟩, rfl⟩
    rw [if_neg hindex] at hrefused ⊢
    by_cases hcars : s.cars = []
    · rw [if_neg (not_not.2 hcars)] at hrefused ⊢
      have hdisables : w.disablesEnd k = true ∧ s.pacer.state ≠ .stopped ↔
          w.enabled = 0 ∧ (w.index = 1 ∨ w.index = 2) ∧ s.pacer.state ≠ .stopped := by
        rw [disablesEnd_iff, and_assoc, Fin.ext_iff, Fin.ext_iff, ← hk]
        rfl
      by_cases hend : w.enabled = 0 ∧ (w.index = 1 ∨ w.index = 2) ∧ s.pacer.state ≠ .stopped
      · rw [if_pos hend]
        unfold State.writeEye
        rw [hk, place_of_val]
        dsimp only
        rw [if_neg (not_not.2 hcars), if_pos (hdisables.2 hend)]
      · rw [if_neg hend] at hrefused ⊢
        by_cases hbad : w.node = 0 ∨ 127 ≤ w.node ∨ 8 ≤ w.input ∨ 2 ≤ w.polarity ∨ 2 ≤ w.enabled
        · rw [if_pos hbad]
          exact writeEye_badValue hbad hk hcars fun h => hend (hdisables.1 h)
        · rw [if_neg hbad] at hrefused
          exact absurd rfl hrefused
    · rw [if_pos hcars]
      unfold State.writeEye
      rw [hk, place_of_val]
      exact if_pos hcars

theorem afterLoading_off {p : GatePhase} (hp : p ≠ .ready) : p.afterLoading false = p := by
  cases p with
  | ready => exact absurd rfl hp
  | closed | waiting | calling | rolling => rfl

/-- What a written eye means to the gate and the pacer, where neither acts on it (R41, R74). -/
theorem eyeRewritten_quiet (hgate : k = 0 → u.gate.phase ≠ .ready) (hpacer : k = 3 → u.pacer.state ≠ .pointStop) :
    u.eyeRewritten k = u := by
  unfold State.eyeRewritten
  split
  next hzero => exact loadingEdge_of_fixed (afterLoading_off (hgate (Fin.ext hzero))) (hgate (Fin.ext hzero))
  next hthree => exact exitZoneClear_of_other (hpacer (Fin.ext hthree))
  next => rfl

/-- The places that R9 forbids are those where the entry may not stand. -/
theorem eyeMayStand_not {e : Eye}
    (hbad : (∃ j : Fin 10, j ≠ k ∧ s.eyes[j].enabled = true ∧ s.eyes[j].node = e.node ∧ s.eyes[j].input = e.input) ∨
      (4 ≤ k.val ∧ (s.track.length ≤ e.position ∨ (∃ j : Fin 10, 4 ≤ j.val ∧ s.eyes[j].enabled = true ∧
        ((j < k ∧ e.position ≤ s.eyes[j].position) ∨ (k < j ∧ s.eyes[j].position ≤ e.position)))))) : ¬ s.eyeMayStand k e := by
  rintro ⟨hinputs, hpositions⟩
  rcases hbad with ⟨j, hj, henabled, hnode, hinput⟩ | ⟨htracks, hlength | ⟨j, hj, henabled, ⟨hlt, hle⟩ | ⟨hlt, hle⟩⟩⟩
  · exact hinputs j hj henabled hnode hinput
  · exact absurd (hpositions htracks).1 (by omega)
  · exact absurd (((hpositions htracks).2 j hj henabled).1 hlt) (by omega)
  · exact absurd (((hpositions htracks).2 j hj henabled).2 hlt) (by omega)

/-- An EYE write that passes the first checks of R9: stored, or refused by those on inputs and positions. -/
theorem exec_eyeWrite {enabled : Bool} {polarity : Polarity} (ha : s.accepts h) (hform : eyeOperands ops = some w)
    (hk : w.index = k.val) (hcars : s.cars = []) (hend : ¬ (w.disablesEnd k = true ∧ s.pacer.state ≠ .stopped))
    (henabled : flagOf w.enabled = some enabled) (hpolarity : polarityOf w.polarity = some polarity) (hlow : 1 ≤ w.node)
    (hhigh : w.node ≤ 126) (hinput : w.input ≤ 7) :
    ∃ t, exec (.eyeWrite h ops) s = .next t ∧
      (enabled = true → ¬ s.eyeMayStand k (w.entry k enabled polarity) → Replies [] s t (mgmtReply s h 0x02 .badValue [])) ∧
      (enabled = false ∨ s.eyeMayStand k (w.entry k enabled polarity) → (k = 0 → s.gate.phase ≠ .ready) →
        (k = 3 → s.pacer.state ≠ .pointStop) →
        t.eyes = s.eyes.set k (w.entry k enabled polarity) ∧
        Replies [.eyes] s t (mgmtReply s h 0x02
          (if 4 ≤ k.val ∧ (w.entry k enabled polarity).position ≠ w.position then .okClamped else .ok)
          (w.entry k enabled polarity).bytes)) := by
  obtain ⟨t, hexec, hsame, hsends⟩ := request_does (code := 0x02) ha hform State.writeEye
  have hfits := eyeFits_iff (s := s) (k := k) (e := w.entry k enabled polarity) hlow hhigh hinput
  rw [writeEye_place hk hcars hend henabled hpolarity] at hsame hsends
  refine ⟨t, hexec, fun hon hnot => ?_, fun hmay hgate hpacer => ?_⟩
  · have hno : ¬ s.eyeFits k (w.entry k enabled polarity) = true := fun h =>
      (hfits.1 h).elim (fun hoff => by rw [show enabled = false from hoff] at hon; cases hon) hnot
    rw [if_neg hno] at hsends
    exact hsends _ _ (.refl s)
  · rw [if_pos (hfits.2 hmay), eyeRewritten_quiet (u := s.onEyes fun eyes => eyes.set k (w.entry k enabled polarity)) hgate hpacer]
      at hsame hsends
    have hsent := hsends _ _ (.of_touches (touches_onEyes s fun eyes => eyes.set k (w.entry k enabled polarity)))
    have hresult : (isTracking k && (w.entry k enabled polarity).position != w.position) = true ↔
        4 ≤ k.val ∧ (w.entry k enabled polarity).position ≠ w.position := by
      rw [Bool.and_eq_true, isTracking_iff, bne_iff_ne]
    refine ⟨hsame.eyes, ?_⟩
    simp only [← hresult]
    exact hsent

/-- Settles O39. -/
theorem eyesAreWritten : Obligations.EyesAreWritten := by
  intro s h ops w ha hform
  refine ⟨fun runtime hops hlen => ?_, fun r hr hrefusal => ?_,
    fun k enabled polarity hk hcars hmay henabled hpolarity hlow hhigh hinput => ?_⟩
  · exact congrArg (fun operands => request s h 0x02 operands State.writeEye) (eyeOperands_runtime hops hlen)
  · have hresult : r = s.eyeRefusal w := hrefusal
    subst hresult
    exact write_refused (write := State.writeEye) ha hform (writeEye_refused hr)
  · have hend : ¬ (w.disablesEnd k = true ∧ s.pacer.state ≠ .stopped) := by
      rintro ⟨hdisables, hmoves⟩
      obtain ⟨hoff, hends⟩ := disablesEnd_iff.1 hdisables
      rcases hmay with hon | ⟨hentry, hexit⟩ | hstopped
      · rw [hoff, hon] at henabled
        cases henabled
      · exact hends.elim hentry hexit
      · exact hmoves hstopped
    obtain ⟨t, hexec, hrefused, hstored⟩ := exec_eyeWrite ha hform hk hcars hend henabled hpolarity hlow hhigh hinput
    refine ⟨t, w.entry k enabled polarity, hexec, ?_, fun hon hbad => hrefused hon (eyeMayStand_not hbad), hstored⟩
    unfold EyeWrite.entry clamp
    simp only [isTracking_iff]

end Sys2Proof.Machine
end

section
/-! Writes of the NODE table (R6, R52, R64, R181, R182): O40. -/

set_option Elab.async false

namespace Sys2Proof.Machine

variable {s t u : State} {h : Head} {ops : List Byte} {w : NodeWrite}

/-! ## The checks of a NODE write -/

/-- What a NODE write of index 0 answers: the first check that fails, or OK (R181). -/
def State.nodeResult (s : State) (w : NodeWrite) : Result :=
  if w.mask.getLsbD 0 = true ∧ w.encoder ≠ s.belt.encoder ∧ 127 ≤ w.encoder then .badValue
  else if w.mask.getLsbD 0 = true ∧ w.encoder ≠ s.belt.encoder ∧ s.pacer.state ≠ .stopped then .wrongState
  else if w.mask.getLsbD 1 = true ∧ 127 ≤ w.drive then .badValue
  else if w.mask.getLsbD 1 = true ∧ s.pacer.state ≠ .stopped then .wrongState
  else if w.mask.getLsbD 2 = true ∧ w.roller ≠ s.gate.roller ∧ 127 ≤ w.roller then .badValue
  else if w.mask.getLsbD 2 = true ∧ w.roller ≠ s.gate.roller ∧ (s.gate.phase = .calling ∨ s.gate.phase = .rolling ∨
      (w.roller = 0 ∧ s.gate.isOpen = true)) then .wrongState
  else if w.mask.getLsbD 3 = true ∧ (w.office ≤ 63 ∨ 127 ≤ w.office) then .badValue
  else .ok

theorem named_encoder : named w.mask 0 (s.encoderRefusal w.encoder) =
    if w.mask.getLsbD 0 = true ∧ w.encoder ≠ s.belt.encoder ∧ 127 ≤ w.encoder then some .badValue
    else if w.mask.getLsbD 0 = true ∧ w.encoder ≠ s.belt.encoder ∧ s.pacer.state ≠ .stopped then some .wrongState
    else none := by
  unfold named State.encoderRefusal
  cases w.mask.getLsbD 0
  · simp
  · by_cases hsame : w.encoder = s.belt.encoder
    · simp [hsame]
    · simp [hsame, Nat.lt_iff_add_one_le]

theorem named_drive : named w.mask 1 (s.driveRefusal w.drive) =
    if w.mask.getLsbD 1 = true ∧ 127 ≤ w.drive then some .badValue
    else if w.mask.getLsbD 1 = true ∧ s.pacer.state ≠ .stopped then some .wrongState
    else none := by
  unfold named State.driveRefusal
  cases w.mask.getLsbD 1
  · simp
  · simp [Nat.lt_iff_add_one_le]

theorem named_roller : named w.mask 2 (s.rollerRefusal w.roller) =
    if w.mask.getLsbD 2 = true ∧ w.roller ≠ s.gate.roller ∧ 127 ≤ w.roller then some .badValue
    else if w.mask.getLsbD 2 = true ∧ w.roller ≠ s.gate.roller ∧ (s.gate.phase = .calling ∨ s.gate.phase = .rolling ∨
      (w.roller = 0 ∧ s.gate.isOpen = true)) then some .wrongState
    else none := by
  unfold named State.rollerRefusal
  cases w.mask.getLsbD 2
  · simp
  · by_cases hsame : w.roller = s.gate.roller
    · simp [hsame]
    · by_cases hphase : s.gate.phase = .calling ∨ s.gate.phase = .rolling
      · have hmoves : s.gate.phase = .calling ∨ s.gate.phase = .rolling ∨ (w.roller = 0 ∧ s.gate.isOpen = true) :=
          hphase.elim .inl fun h => .inr (.inl h)
        simp only [hsame, hmoves, hphase, Nat.lt_iff_add_one_le, if_true, if_false, true_and, ne_eq, not_false_eq_true]
      · have hmoves : (s.gate.phase = .calling ∨ s.gate.phase = .rolling ∨ (w.roller = 0 ∧ s.gate.isOpen = true)) ↔
            (w.roller = 0 ∧ s.gate.isOpen = true) := by rw [← or_assoc, or_iff_right hphase]
        simp only [hsame, hmoves, hphase, Nat.lt_iff_add_one_le, if_true, if_false, true_and, ne_eq, not_false_eq_true]

theorem named_office : named w.mask 3 (officeRefusal w.office) =
    if w.mask.getLsbD 3 = true ∧ (w.office ≤ 63 ∨ 127 ≤ w.office) then some .badValue else none := by
  have hrange : w.office < 64 ∨ 126 < w.office ↔ w.office ≤ 63 ∨ 127 ≤ w.office := by omega
  unfold named officeRefusal
  cases w.mask.getLsbD 3
  · simp
  · simp only [hrange, if_true, true_and]

theorem ite_some_or {α : Type} {c : Prop} [Decidable c] {x : α} {o p : Option α} :
    (if c then some x else o).or p = if c then some x else o.or p := by
  split <;> rfl

theorem nodeRefusal_eq : s.nodeRefusal w = if s.nodeResult w ≠ .ok then some (s.nodeResult w) else none := by
  unfold State.nodeRefusal State.nodeResult
  rw [named_encoder, named_drive, named_roller, named_office]
  simp only [ite_some_or, Option.none_or]
  split_ifs <;> simp_all

/-- A NODE write whose named fields may all be stored (R6, R64, R52, R181). -/
theorem nodeResult_ok
    (hencoder : w.mask.getLsbD 0 = true → w.encoder = s.belt.encoder ∨ (w.encoder ≤ 126 ∧ s.pacer.state = .stopped))
    (hdrive : w.mask.getLsbD 1 = true → w.drive ≤ 126 ∧ s.pacer.state = .stopped)
    (hroller : w.mask.getLsbD 2 = true → w.roller = s.gate.roller ∨ (w.roller ≤ 126 ∧ s.gate.phase ≠ .calling ∧
      s.gate.phase ≠ .rolling ∧ (w.roller ≠ 0 ∨ s.gate.isOpen = false)))
    (hoffice : w.mask.getLsbD 3 = true → 64 ≤ w.office ∧ w.office ≤ 126) : s.nodeResult w = .ok := by
  unfold State.nodeResult
  rw [if_neg, if_neg, if_neg, if_neg, if_neg, if_neg, if_neg]
  · rintro ⟨hnamed, hrange⟩
    have := hoffice hnamed
    omega
  · rintro ⟨hnamed, hchanged, hbusy⟩
    obtain ⟨-, hcalling, hrolling, hzero⟩ := (hroller hnamed).resolve_left hchanged
    rcases hbusy with h | h | ⟨h, hopen⟩
    · exact hcalling h
    · exact hrolling h
    · exact hzero.elim (fun hne => hne h) fun hclosed => by rw [hclosed] at hopen; cases hopen
  · rintro ⟨hnamed, hchanged, hrange⟩
    have := ((hroller hnamed).resolve_left hchanged).1
    omega
  · rintro ⟨hnamed, hmoves⟩
    exact hmoves (hdrive hnamed).2
  · rintro ⟨hnamed, hrange⟩
    have := (hdrive hnamed).1
    omega
  · rintro ⟨hnamed, hchanged, hmoves⟩
    exact hmoves ((hencoder hnamed).resolve_left hchanged).2
  · rintro ⟨hnamed, hchanged, hrange⟩
    have := ((hencoder hnamed).resolve_left hchanged).1
    omega

theorem writeNodes_eq (hindex : w.index = 0) : s.writeNodes w =
    if s.nodeResult w ≠ .ok then s.refuse (s.nodeResult w) else (s.storeNodes w).stored false (s.storeNodes w).nodeBytes := by
  unfold State.writeNodes
  rw [if_neg (not_not.2 hindex), nodeRefusal_eq]
  by_cases hok : s.nodeResult w ≠ .ok
  · rw [if_pos hok, if_pos hok]
  · rw [if_neg hok, if_neg hok]

/-! ## The stored fields -/

theorem storeEncoder_named (b : Bool) (address : Nat) : (if b then s.storeEncoder address else s) =
    s.onBelt fun x => if b = true ∧ address ≠ s.belt.encoder then { x with encoder := address, lastRaw := none } else x := by
  unfold State.storeEncoder
  by_cases hsame : address = s.belt.encoder
  · simp only [hsame, if_true, ite_self, ne_eq, not_true_eq_false, and_false, if_false]
    rfl
  · cases b
    · simp only [Bool.false_eq_true, if_false, false_and]
      rfl
    · simp only [hsame, if_true, if_false, true_and, ne_eq, not_false_eq_true]

theorem storeDrive_named (b : Bool) (address : Nat) : (if b then u.storeDrive address else u) =
    u.onPacer fun p => if b then { p with
      drive := address
      freeze := address != 0
      report := if address = p.drive then p.report else none } else p := by
  cases b <;> rfl

theorem storeRoller_named (b : Bool) (address : Nat) : (if b then u.onGate fun g => { g with roller := address } else u) =
    u.onGate fun g => if b then { g with roller := address } else g := by
  cases b <;> rfl

theorem storeOffice_named (b : Bool) (address : Nat) : (if b then u.onOffice fun o => { o with address := address } else u) =
    u.onOffice fun o => if b then { o with address := address } else o := by
  cases b <;> rfl

/-- Each named field is stored in its own block (R181). -/
theorem storeNodes_parts (s : State) (w : NodeWrite) :
    (s.storeNodes w).belt = (if w.mask.getLsbD 0 = true ∧ w.encoder ≠ s.belt.encoder then
        { s.belt with encoder := w.encoder, lastRaw := none }
      else s.belt) ∧
    (s.storeNodes w).pacer = (if w.mask.getLsbD 1 = true then
        { s.pacer with
          drive := w.drive
          freeze := w.drive != 0
          report := if w.drive = s.pacer.drive then s.pacer.report else none }
      else s.pacer) ∧
    (s.storeNodes w).gate = (if w.mask.getLsbD 2 = true then { s.gate with roller := w.roller } else s.gate) ∧
    (s.storeNodes w).office = (if w.mask.getLsbD 3 = true then { s.office with address := w.office } else s.office) ∧
    Touches [.belt, .pacer, .gate, .office] s (s.storeNodes w) := by
  unfold State.storeNodes
  dsimp only
  rw [storeEncoder_named, storeDrive_named, storeRoller_named, storeOffice_named]
  refine ⟨rfl, rfl, rfl, rfl, ?_⟩
  exact (((touches_onBelt s _).andThen (touches_onPacer _ _) (hs := [.belt, .pacer])).andThen (touches_onGate _ _)
    (hs := [.belt, .pacer, .gate])).andThen (touches_onOffice _ _)

theorem exec_nodeWrite {c : Instr} (hform : nodeOperands ops = some w)
    (hc : c ∈ [Instr.nodeEncoderWrite h ops, .nodeDriveWrite h ops, .nodeRollerWrite h ops, .nodeOfficeWrite h ops]) :
    exec c s = request s h 0x02 (some w) State.writeNodes := by
  simp only [List.mem_cons, List.not_mem_nil, or_false] at hc
  rw [← hform]
  rcases hc with rfl | rfl | rfl | rfl <;> rfl

/-- A NODE write that passes its checks: the reply leaves from the office address it has stored (R182). -/
theorem exec_nodeWrite_stored {c : Instr} (ha : s.accepts h) (hexec : exec c s = request s h 0x02 (some w) State.writeNodes)
    (hindex : w.index = 0) (hok : s.nodeResult w = .ok) (hu : u = s.storeNodes w) :
    ∃ t, exec c s = .next t ∧ SameButOffice u t ∧ t.office.address = u.office.address ∧
      t.office.outgoing = s.office.tx.toList ++ (s.office.replies ++ [Reply.mk u.office.address h.src
        (.mgmt 0x02 .ok u.nodeBytes)]).map .reply ++ s.office.notices.map .notice ∧
      t.office.windows = s.office.windows ∧ t.office.replyLost = s.office.replyLost ∧
      t.office.noticeLost = s.office.noticeLost ∧ t.office.badFrames = s.office.badFrames ∧
      Touches [.belt, .pacer, .gate, .office] s t := by
  have htaken := request_taken (code := 0x02) ha (operands := some w) rfl State.writeNodes
  obtain ⟨-, -, -, hoffice, htouch⟩ := storeNodes_parts s w
  rw [writeNodes_eq hindex, if_neg (not_not.2 hok)] at htaken
  rw [← hu] at htaken hoffice htouch
  have hqueues : u.office.replies = s.office.replies ∧ u.office.notices = s.office.notices ∧ u.office.tx = s.office.tx ∧
      u.office.windows = s.office.windows ∧ u.office.replyLost = s.office.replyLost ∧ u.office.noticeLost = s.office.noticeLost ∧
      u.office.badFrames = s.office.badFrames := by
    rw [hoffice]
    split <;> exact ⟨rfl, rfl, rfl, rfl, rfl, rfl, rfl⟩
  obtain ⟨hreplies, hnotices, htx, hwindows, hreplyLost, hnoticeLost, hbadFrames⟩ := hqueues
  have hsent := (Queues.reply u h.src (.mgmt 0x02 .ok u.nodeBytes) (by rw [hreplies]; exact ha.2.2.2.2)).kick
  obtain ⟨hkept, houtgoing, haddress, hwindows', hreplyLost', hnoticeLost', hbadFrames'⟩ := hsent
  refine ⟨_, hexec.trans htaken, SameButOffice.reply _ _ _, haddress, houtgoing.trans ?_, hwindows'.trans hwindows,
    hreplyLost'.trans hreplyLost, hnoticeLost'.trans hnoticeLost, hbadFrames'.trans hbadFrames, htouch.andThen hkept⟩
  rw [hreplies, hnotices, htx, List.map_nil, List.append_nil]

/-- Settles O40. -/
theorem nodesAreWritten : Obligations.NodesAreWritten := by
  intro s h ops w c ha hform hc
  have hexec := exec_nodeWrite (s := s) hform hc
  by_cases hindex : w.index = 0
  · by_cases hok : s.nodeResult w = .ok
    · obtain ⟨t, hnext, hsame, haddress, houtgoing, hwindows, hreplyLost, hnoticeLost, hbadFrames, htouch⟩ :=
        exec_nodeWrite_stored ha hexec hindex hok rfl
      obtain ⟨hbelt, hpacer, hgate, hoffice, -⟩ := storeNodes_parts s w
      refine ⟨t, hnext, fun h => absurd hindex h, fun r _ hr hresult => absurd (hresult.trans hok) hr, fun _ _ _ _ _ =>
        ⟨hsame.belt.trans hbelt, hsame.pacer.trans hpacer, hsame.gate.trans hgate, ?_, ?_, hwindows, hreplyLost, hnoticeLost,
          hbadFrames, htouch⟩⟩
      · rw [haddress, hoffice]
        split <;> rfl
      · rw [houtgoing, haddress, hsame.belt, hsame.pacer, hsame.gate]
        rfl
    · obtain ⟨t, hnext, hreplies⟩ := write_refused (write := State.writeNodes) (operands := some w) ha rfl
        ((writeNodes_eq hindex).trans (if_pos hok))
      refine ⟨t, hexec.trans hnext, fun h => absurd hindex h, ?_, fun _ hencoder hdrive hroller hoffice => ?_⟩
      · rintro r - - hresult
        have hr : r = s.nodeResult w := hresult
        rw [hr]
        exact hreplies
      · exact absurd (nodeResult_ok hencoder hdrive hroller hoffice) hok
  · obtain ⟨t, hnext, hreplies⟩ := write_refused (write := State.writeNodes) (operands := some w) ha rfl (if_pos hindex)
    exact ⟨t, hexec.trans hnext, fun _ => hreplies, fun _ h => absurd h hindex, fun h => absurd h hindex⟩

end Sys2Proof.Machine
end

section
/-! Writes of STATION and ALIAS (R88, R89, R91): O35. -/

set_option Elab.async false

namespace Sys2Proof.Machine

variable {s t u : State} {h : Head} {ops : List Byte} {i : StationId} {kind : StationKind}

theorem armAliasTaken_iff {node : Nat} : s.armAliasTaken i node = true ↔
    ∃ j : StationId, j ≠ i ∧ s.map.table[j].kind = .arm ∧ s.map.aliases[j] = node := by
  unfold State.armAliasTaken
  rw [List.any_eq_true]
  simp [mem_stationIds, and_assoc]

theorem isBusy_iff {st : Station} : st.isBusy = true ↔ (st.phase ≠ .idle ∧ st.phase ≠ .fault) ∨ st.current.isSome = true := by
  unfold Station.isBusy
  simp

theorem kindOf_eq_none_iff {n : Nat} : kindOf n = none ↔ 3 ≤ n := by
  match n with
  | 0 | 1 | 2 => simp [kindOf]
  | n + 3 => simp [kindOf]

/-! ## STATION -/

/-- The first structural check of R88 that fails. -/
def State.stationRefusal (s : State) (w : StationWrite) : Result :=
  if 32 ≤ w.index then .badIndex
  else if s.cars ≠ [] then .occupied
  else if s.track.length = 0 then .notConfigured
  else if 3 ≤ w.kind ∨ w.windowEnd < w.windowStart then .badValue
  else .ok

theorem writeStation_refused {w : StationWrite} (hrefused : s.stationRefusal w ≠ .ok) :
    s.writeStation w = s.refuse (s.stationRefusal w) := by
  unfold State.stationRefusal at *
  unfold State.writeStation
  by_cases hindex : 32 ≤ w.index
  · rw [if_pos hindex, place_eq_none hindex]
  · rw [if_neg hindex, place_of_lt (by omega)] at *
    dsimp only
    by_cases hcars : s.cars = []
    · rw [if_neg (not_not.2 hcars)] at *
      rw [if_neg (not_not.2 hcars)]
      by_cases hlength : s.track.length = 0
      · rw [if_pos hlength, if_pos hlength]
      · rw [if_neg hlength] at *
        rw [if_neg hlength]
        by_cases hbad : 3 ≤ w.kind ∨ w.windowEnd < w.windowStart
        · rw [if_pos hbad]
          cases hkind : kindOf w.kind with
          | none => rfl
          | some kind =>
            refine if_pos (hbad.resolve_left fun h => ?_)
            rw [kindOf_eq_none_iff.2 h] at hkind
            cases hkind
        · rw [if_neg hbad] at hrefused
          exact absurd rfl hrefused
    · rw [if_pos hcars, if_pos hcars]

/-- A STATION write past the structural checks (R88). -/
theorem writeStation_place {w : StationWrite} (hi : w.index = i.val) (hcars : s.cars = []) (hlength : s.track.length ≠ 0)
    (hkind : kindOf w.kind = some kind) (hwindow : w.windowStart ≤ w.windowEnd) : s.writeStation w =
    if kind = .arm ∧ s.map.aliases[i] ≠ 0 ∧ s.armAliasTaken i s.map.aliases[i] = true then s.refuse .badValue
    else if kind ≠ s.map.table[i].kind ∧ s.seq.stations[i].isBusy = true then s.refuse .busy
    else (s.storeStation i ((w.entry kind).clamped s.track.length)).stored
      ((w.entry kind).clamped s.track.length != w.entry kind) ((w.entry kind).clamped s.track.length).bytes := by
  unfold State.writeStation
  rw [hi, place_of_val]
  dsimp only
  rw [if_neg (not_not.2 hcars), if_neg hlength, hkind]
  exact if_neg (by omega)

theorem storeStation_parts (e : StationEntry) : (s.storeStation i e).map = { s.map with table := s.map.table.set i e } ∧
    (s.storeStation i e).seq = (if e.kind = s.map.table[i].kind then s.seq
      else { s.seq with stations := s.seq.stations.set i { s.seq.stations[i] with position := .unknown, load := 0 } }) ∧
    Touches [.map, .seq] s (s.storeStation i e) := by
  have hstored := touches_onMap s fun m => { m with table := m.table.set i e }
  unfold State.storeStation
  dsimp only
  split
  · exact ⟨rfl, rfl, hstored.mono (by decide)⟩
  · exact ⟨rfl, rfl, hstored.andThen (onStation_touches _ _ _)⟩

/-- The entry that a STATION write stores in a tunnel of a length (R88). -/
theorem entry_clamped_eq (w : StationWrite) (kind : StationKind) (length : Nat) : (w.entry kind).clamped length =
    { kind := kind
      windowStart := min length w.windowStart
      windowEnd := min length w.windowEnd
      front := min 2000 w.front
      rear := max (-1000) (min 2000 w.rear)
      travel := min 5000 w.travel
      busy := max 100 (min 10000 w.busy)
      load := max 1 (min 255 w.load)
      cap := if w.cap = 0 then 0 else max 160 (min 4800 w.cap)
      weight := min 255 w.weight } := rfl

theorem exec_stationWrite_stored {w : StationWrite} {e : StationEntry} (ha : s.accepts h) (hform : stationOperands ops = some w)
    (heffect : s.writeStation w = (s.storeStation i e).stored (e != w.entry kind) e.bytes) (hkind : e.kind = kind) :
    ∃ t, exec (.stationWrite h ops) s = .next t ∧
      t.map = { s.map with table := s.map.table.set i e } ∧
      t.seq = (if kind = s.map.table[i].kind then s.seq
        else { s.seq with stations := s.seq.stations.set i { s.seq.stations[i] with position := .unknown, load := 0 } }) ∧
      Replies [.map, .seq] s t (mgmtReply s h 0x02 (if e = w.entry kind then .ok else .okClamped) e.bytes) := by
  obtain ⟨t, hexec, hsame, hreplies⟩ := write_stored (write := State.writeStation) ha hform heffect
  obtain ⟨hmap, hseq, htouch⟩ := storeStation_parts (s := s) (i := i) e
  rw [stored_result] at hreplies
  rw [hkind] at hseq
  exact ⟨t, hexec, hsame.map.trans hmap, hsame.seq.trans hseq, hreplies _ htouch (by decide)⟩

/-! ## ALIAS -/

theorem writeAlias_place (node : Nat) : s.writeAlias (i.val, node) =
    if 126 < node then s.refuse .badValue
    else if s.map.table[i].kind = .arm ∧ node ≠ 0 ∧ s.armAliasTaken i node = true then s.refuse .badValue
    else if s.seq.stations[i].isBusy = true then s.refuse .busy
    else (s.storeAlias i node).stored false (one node) := by
  unfold State.writeAlias
  dsimp only
  rw [place_of_val]

theorem storeAlias_parts (node : Nat) : (s.storeAlias i node).map = { s.map with aliases := s.map.aliases.set i node } ∧
    (s.storeAlias i node).seq = (if s.map.table[i].kind = .arm ∧ s.map.aliases[i] ≠ node then
        { s.seq with stations := s.seq.stations.set i { s.seq.stations[i] with position := .unknown, load := 0 } }
      else s.seq) ∧
    Touches [.map, .seq] s (s.storeAlias i node) := by
  have hstored := touches_onMap s fun m => { m with aliases := m.aliases.set i node }
  unfold State.storeAlias
  dsimp only
  split
  · exact ⟨rfl, rfl, hstored.andThen (onStation_touches _ _ _)⟩
  · exact ⟨rfl, rfl, hstored.mono (by decide)⟩

theorem aliasOperands_pair (index node : Byte) : aliasOperands [index, node] = some (index.toNat, node.toNat) := rfl

theorem one_toNat (b : Byte) : one b.toNat = [b] := by
  unfold one byteOf
  simp

/-- Settles O35. -/
theorem stationsAndAliasesAreWritten : Obligations.StationsAndAliasesAreWritten := by
  refine ⟨fun s h ops w ha hform => ⟨fun r hr hrefusal => ?_, fun i kind hi hcars hlength hkind hwindow => ?_⟩,
    fun s h index node ha => ⟨fun hindex => ?_, fun i hi => ?_⟩⟩
  · have hresult : r = s.stationRefusal w := hrefusal
    subst hresult
    exact write_refused (write := State.writeStation) ha hform (writeStation_refused hr)
  · have hplace := writeStation_place hi hcars hlength hkind hwindow
    refine ⟨fun harm halias htaken => ?_, fun hfree => ?_⟩
    · exact write_refused (write := State.writeStation) ha hform (hplace.trans (if_pos ⟨harm, halias, armAliasTaken_iff.2 htaken⟩))
    · have hno : ¬ (kind = .arm ∧ s.map.aliases[i] ≠ 0 ∧ s.armAliasTaken i s.map.aliases[i] = true) := by
        rintro ⟨harm, halias, htaken⟩
        obtain ⟨j, hj, hjarm, hjalias⟩ := armAliasTaken_iff.1 htaken
        exact hfree.elim (fun h => h harm) fun h => h.elim halias fun hall => hall j hj hjarm hjalias
      rw [if_neg hno] at hplace
      refine ⟨fun hchanged hbusy => ?_, fun hmay => ?_⟩
      · exact write_refused (write := State.writeStation) ha hform (hplace.trans (if_pos ⟨hchanged, isBusy_iff.2 hbusy⟩))
      · have hidle : ¬ (kind ≠ s.map.table[i].kind ∧ s.seq.stations[i].isBusy = true) := by
          rintro ⟨hchanged, hbusy⟩
          obtain ⟨hphase, hcurrent⟩ := hmay.resolve_left hchanged
          rcases isBusy_iff.1 hbusy with ⟨hidle, hfault⟩ | hsome
          · exact hphase.elim hidle hfault
          · rw [hcurrent] at hsome
            cases hsome
        obtain ⟨t, hexec, hmap, hseq, hreplies⟩ := exec_stationWrite_stored ha hform (hplace.trans (if_neg hidle)) rfl
        exact ⟨t, _, hexec, entry_clamped_eq w kind s.track.length, hmap, hseq, hreplies⟩
  · exact write_refused (write := State.writeAlias) ha (aliasOperands_pair index node) (by
      unfold State.writeAlias
      rw [place_eq_none hindex])
  · have hplace := writeAlias_place (s := s) (i := i) node.toNat
    have hform : aliasOperands [index, node] = some (i.val, node.toNat) := by rw [aliasOperands_pair, hi]
    refine ⟨fun hbad => ?_, fun hrange hfree => ⟨fun hbusy => ?_, fun hphase hcurrent => ?_⟩⟩
    · refine write_refused (write := State.writeAlias) ha hform (hplace.trans ?_)
      by_cases hrange : 126 < node.toNat
      · exact if_pos hrange
      · obtain ⟨harm, hnode, htaken⟩ := hbad.resolve_left (by omega)
        rw [if_neg hrange, if_pos ⟨harm, hnode, armAliasTaken_iff.2 htaken⟩]
    all_goals
      have hno : ¬ (s.map.table[i].kind = .arm ∧ node.toNat ≠ 0 ∧ s.armAliasTaken i node.toNat = true) := by
        rintro ⟨harm, hnode, htaken⟩
        obtain ⟨j, hj, hjarm, hjalias⟩ := armAliasTaken_iff.1 htaken
        exact hfree.elim (fun h => h harm) fun h => h.elim hnode fun hall => hall j hj hjarm hjalias
      rw [if_neg (by omega), if_neg hno] at hplace
    · exact write_refused (write := State.writeAlias) ha hform (hplace.trans (if_pos (isBusy_iff.2 hbusy)))
    · have hidle : ¬ s.seq.stations[i].isBusy = true := by
        rw [isBusy_iff, hcurrent]
        rintro (⟨hidle, hfault⟩ | hsome)
        · exact hphase.elim hidle hfault
        · cases hsome
      obtain ⟨t, hexec, hsame, hreplies⟩ := write_stored (write := State.writeAlias) ha hform
        (hplace.trans (if_neg hidle))
      obtain ⟨hmap, hseq, htouch⟩ := storeAlias_parts (s := s) (i := i) node.toNat
      rw [one_toNat] at hreplies
      exact ⟨t, hexec, hsame.map.trans hmap, hsame.seq.trans hseq, hreplies _ htouch (by decide)⟩

end Sys2Proof.Machine
end

section
/-! Writes of PLAN, OPTION, CODE and PASS (R117 to R119, R173): O36. -/

set_option Elab.async false

namespace Sys2Proof.Machine

variable {s t u : State} {h : Head} {ops : List Byte}

theorem planStateOf_eq_none_iff {n : Nat} : planStateOf n = none ↔ 3 ≤ n := by
  match n with
  | 0 | 1 | 2 => simp [planStateOf]
  | n + 3 => simp [planStateOf]

theorem passModeOf_eq_none_iff {n : Nat} : passModeOf n = none ↔ 3 ≤ n := by
  match n with
  | 0 | 1 | 2 => simp [passModeOf]
  | n + 3 => simp [passModeOf]

theorem sellablePlan_eq_none_iff {n : Nat} : sellablePlan n = none ↔ n = 0 ∨ 16 ≤ n := by
  unfold sellablePlan place
  by_cases hzero : n = 0
  · simp [hzero]
  · by_cases hlt : n < 16
    · simp [hzero, hlt]
    · simp [hzero, hlt]
      omega

theorem sellablePlan_of_val {plan : Fin 16} (hpos : 1 ≤ plan.val) : sellablePlan plan.val = some plan := by
  unfold sellablePlan
  rw [if_neg (by omega), place_of_val]

/-! ## PLAN -/

theorem writePlan_zero {w : PlanWrite} (hindex : w.index = 0) : s.writePlan w =
    (s.storePlan 0 { s.book.plans[(0 : Fin 16)] with stations := w.stations }).stored false
      (Plan.bytes { s.book.plans[(0 : Fin 16)] with stations := w.stations }) := by
  unfold State.writePlan
  rw [hindex]
  rfl

theorem writePlan_stored {w : PlanWrite} {k : Fin 16} {state : PlanState} (hk : w.index = k.val) (hpos : 1 ≤ k.val)
    (hstate : planStateOf w.state = some state) (hessential : w.essential &&& ~~~w.stations = 0) :
    s.writePlan w = (s.storePlan k (w.entry state)).stored false (w.entry state).bytes := by
  have hne : k ≠ 0 := fun h => by rw [h] at hpos; exact absurd hpos (by decide)
  unfold State.writePlan
  rw [hk, place_of_val]
  dsimp only
  rw [if_neg hne, hstate]
  exact if_neg (not_not.2 hessential)

theorem writePlan_refused {w : PlanWrite}
    (hbad : 16 ≤ w.index ∨ (1 ≤ w.index ∧ w.index ≤ 15 ∧ (3 ≤ w.state ∨ w.essential &&& ~~~w.stations ≠ 0))) :
    s.writePlan w = s.refuse (if 16 ≤ w.index then .badIndex else .badValue) := by
  unfold State.writePlan
  by_cases hindex : 16 ≤ w.index
  · rw [place_eq_none hindex, if_pos hindex]
  · obtain ⟨hpos, hle, hvalue⟩ := hbad.resolve_left hindex
    have hne : (⟨w.index, by omega⟩ : Fin 16) ≠ 0 := fun h => by
      have hzero : w.index = 0 := congrArg Fin.val h
      omega
    rw [place_of_lt (by omega), if_neg hindex]
    dsimp only
    rw [if_neg hne]
    cases hstate : planStateOf w.state with
    | none => rfl
    | some state =>
      refine if_pos (hvalue.resolve_left fun h => ?_)
      rw [planStateOf_eq_none_iff.2 h] at hstate
      cases hstate

theorem planEntry_eq (w : PlanWrite) (state : PlanState) : w.entry state =
    if state = .absent then { state := .absent, price := 0, stations := 0, essential := 0, allow := 0 }
    else { state := state, price := w.price, stations := w.stations, essential := w.essential, allow := w.allow } := by
  cases state <;> rfl

theorem exec_planWrite_stored {w : PlanWrite} {k : Fin 16} {p : Plan} (ha : s.accepts h) (hform : planOperands ops = some w)
    (heffect : s.writePlan w = (s.storePlan k p).stored false p.bytes) :
    ∃ t, exec (.planWrite h ops) s = .next t ∧ t.book = { s.book with plans := s.book.plans.set k p } ∧
      Replies [.book] s t (mgmtReply s h 0x02 .ok p.bytes) := by
  obtain ⟨t, hexec, hsame, hreplies⟩ := write_stored (write := State.writePlan) ha hform heffect
  exact ⟨t, hexec, hsame.book, hreplies _ (touches_onBook s _) (by decide)⟩

/-- Everything O36 says of a PLAN write. -/
theorem planWrite_cases {w : PlanWrite} (ha : s.accepts h) (hform : planOperands ops = some w) :
    ∃ t, exec (.planWrite h ops) s = .next t ∧
      (16 ≤ w.index ∨ (1 ≤ w.index ∧ w.index ≤ 15 ∧ (3 ≤ w.state ∨ w.essential &&& ~~~w.stations ≠ 0)) →
        Replies [] s t (mgmtReply s h 0x02 (if 16 ≤ w.index then .badIndex else .badValue) [])) ∧
      (w.index = 0 →
        t.book = { s.book with plans := s.book.plans.set 0 { s.book.plans[(0 : Fin 16)] with stations := w.stations } } ∧
        Replies [.book] s t (mgmtReply s h 0x02 .ok
          (Plan.bytes { s.book.plans[(0 : Fin 16)] with stations := w.stations }))) ∧
      (∀ (k : Fin 16) state, 1 ≤ k.val → w.index = k.val → planStateOf w.state = some state →
        w.essential &&& ~~~w.stations = 0 →
        t.book = { s.book with plans := s.book.plans.set k (w.entry state) } ∧
        Replies [.book] s t (mgmtReply s h 0x02 .ok (w.entry state).bytes)) := by
  obtain ⟨t, hexec, hsame, hsends⟩ := request_does (code := 0x02) ha hform State.writePlan
  refine ⟨t, hexec, fun hbad => ?_, fun hindex => ?_, fun k state hpos hk hstate hessential => ?_⟩
  · rw [writePlan_refused hbad] at hsends
    exact hsends _ _ (.refl s)
  · obtain ⟨t', hexec', hbook, hreplies⟩ := exec_planWrite_stored ha hform (writePlan_zero hindex)
    cases hexec'.symm.trans hexec
    exact ⟨hbook, hreplies⟩
  · obtain ⟨t', hexec', hbook, hreplies⟩ := exec_planWrite_stored ha hform (writePlan_stored hk hpos hstate hessential)
    cases hexec'.symm.trans hexec
    exact ⟨hbook, hreplies⟩

/-! ## OPTION -/

theorem writeOption_stored {k : Fin 8} {e : OptionEntry} : s.writeOption (k.val, e) =
    (s.onBook fun b => { b with options := b.options.set k e }).stored false e.bytes := by
  unfold State.writeOption
  dsimp only
  rw [place_of_val]

theorem optionWrite_cases {index : Nat} {e : OptionEntry} (ha : s.accepts h) (hform : optionOperands ops = some (index, e)) :
    ∃ t, exec (.optionWrite h ops) s = .next t ∧
      (8 ≤ index → Replies [] s t (mgmtReply s h 0x02 .badIndex [])) ∧
      (∀ k : Fin 8, index = k.val → t.book = { s.book with options := s.book.options.set k e } ∧
        Replies [.book] s t (mgmtReply s h 0x02 .ok (two e.price ++ four e.added))) := by
  by_cases hindex : 8 ≤ index
  · obtain ⟨t, hexec, hreplies⟩ := write_refused (write := State.writeOption) (result := .badIndex) ha hform (by
      unfold State.writeOption
      rw [place_eq_none hindex])
    exact ⟨t, hexec, fun _ => hreplies, fun k hk => by omega⟩
  · obtain ⟨k, hk⟩ : ∃ k : Fin 8, index = k.val := ⟨⟨index, by omega⟩, rfl⟩
    subst hk
    obtain ⟨t, hexec, hsame, hreplies⟩ := write_stored (write := State.writeOption) ha hform writeOption_stored
    refine ⟨t, hexec, fun h => absurd h hindex, fun j hj => ?_⟩
    rw [← Fin.ext hj]
    exact ⟨hsame.book, hreplies _ (touches_onBook s _) (by decide)⟩

/-! ## CODE -/

/-- The window that a CODE write stores (R119). -/
def CodeWrite.window (w : CodeWrite) (enabled : Bool) (plan : Fin 16) (grant : Bool) : CodeWindow :=
  { enabled := enabled, base := w.base, mask := w.mask, plan := plan, discount := min 100 w.discount, grant := grant }

theorem writeCode_stored {w : CodeWrite} {k : Fin 8} {plan : Fin 16} {enabled grant : Bool} (hk : w.index = k.val)
    (hpos : 1 ≤ plan.val) (hplan : w.plan = plan.val) (henabled : flagOf w.enabled = some enabled)
    (hgrant : flagOf w.grant = some grant) : s.writeCode w =
    (s.onBook fun b => { b with codes := b.codes.set k (w.window enabled plan grant) }).stored (decide (100 < w.discount))
      (w.window enabled plan grant).bytes := by
  unfold State.writeCode
  rw [hk, place_of_val, hplan, sellablePlan_of_val hpos, henabled, hgrant]
  rfl

theorem writeCode_badValue {w : CodeWrite} (hindex : w.index ≤ 7)
    (hbad : w.plan = 0 ∨ 16 ≤ w.plan ∨ 2 ≤ w.enabled ∨ 2 ≤ w.grant) : s.writeCode w = s.refuse .badValue := by
  unfold State.writeCode
  rw [place_of_lt (by omega)]
  dsimp only
  cases hplan : sellablePlan w.plan with
  | none => rfl
  | some plan =>
    cases henabled : flagOf w.enabled with
    | none => rfl
    | some enabled =>
      cases hgrant : flagOf w.grant with
      | none => rfl
      | some grant =>
        exfalso
        rcases hbad with h | h | h | h
        · rw [sellablePlan_eq_none_iff.2 (.inl h)] at hplan
          cases hplan
        · rw [sellablePlan_eq_none_iff.2 (.inr h)] at hplan
          cases hplan
        · rw [flagOf_eq_none_iff.2 h] at henabled
          cases henabled
        · rw [flagOf_eq_none_iff.2 h] at hgrant
          cases hgrant

theorem codeWrite_cases {w : CodeWrite} (ha : s.accepts h) (hform : codeOperands ops = some w) :
    ∃ t, exec (.codeWrite h ops) s = .next t ∧
      (8 ≤ w.index → Replies [] s t (mgmtReply s h 0x02 .badIndex [])) ∧
      (w.index ≤ 7 → w.plan = 0 ∨ 16 ≤ w.plan ∨ 2 ≤ w.enabled ∨ 2 ≤ w.grant →
        Replies [] s t (mgmtReply s h 0x02 .badValue [])) ∧
      (∀ (k : Fin 8) (plan : Fin 16) enabled grant, w.index = k.val → 1 ≤ plan.val → w.plan = plan.val →
        flagOf w.enabled = some enabled → flagOf w.grant = some grant →
        t.book = { s.book with codes := s.book.codes.set k (w.window enabled plan grant) } ∧
        Replies [.book] s t (mgmtReply s h 0x02 (if 100 < w.discount then .okClamped else .ok)
          (w.window enabled plan grant).bytes)) := by
  obtain ⟨t, hexec, hsame, hsends⟩ := request_does (code := 0x02) ha hform State.writeCode
  refine ⟨t, hexec, fun hindex => ?_, fun hindex hbad => ?_, fun k plan enabled grant hk hpos hplan henabled hgrant => ?_⟩
  · have heffect : s.writeCode w = s.refuse .badIndex := by
      unfold State.writeCode
      rw [place_eq_none hindex]
    rw [heffect] at hsends
    exact hsends _ _ (.refl s)
  · rw [writeCode_badValue hindex hbad] at hsends
    exact hsends _ _ (.refl s)
  · obtain ⟨t', hexec', hsame', hreplies⟩ := write_stored (write := State.writeCode) ha hform
      (writeCode_stored hk hpos hplan henabled hgrant)
    cases hexec'.symm.trans hexec
    have hsent := hreplies [.book] (touches_onBook s _) (by decide)
    simp only [decide_eq_true_eq] at hsent
    exact ⟨hsame'.book, hsent⟩

/-! ## PASS -/

theorem writePass_stored {w : PassWrite} {k : Fin 4} {enabled : Bool} {mode : PassMode} (hk : w.index = k.val)
    (hbase : w.base ≤ 127) (hmask : w.mask ≤ 127) (henabled : flagOf w.enabled = some enabled)
    (hmode : passModeOf w.mode = some mode) : s.writePass w =
    (s.onOffice fun o => { o with windows := o.windows.set k { enabled := enabled, base := w.base, mask := w.mask, mode := mode } }
      ).stored false (PassWindow.bytes { enabled := enabled, base := w.base, mask := w.mask, mode := mode }) := by
  unfold State.writePass
  rw [hk, place_of_val]
  dsimp only
  rw [if_neg (by omega), henabled, hmode]

theorem writePass_badValue {w : PassWrite} (hindex : w.index ≤ 3)
    (hbad : 128 ≤ w.base ∨ 128 ≤ w.mask ∨ 2 ≤ w.enabled ∨ 3 ≤ w.mode) : s.writePass w = s.refuse .badValue := by
  unfold State.writePass
  rw [place_of_lt (by omega)]
  dsimp only
  by_cases hrange : 127 < w.base ∨ 127 < w.mask
  · exact if_pos hrange
  · rw [if_neg hrange]
    cases henabled : flagOf w.enabled with
    | none => rfl
    | some enabled =>
      cases hmode : passModeOf w.mode with
      | none => rfl
      | some mode =>
        exfalso
        rcases hbad with h | h | h | h
        · omega
        · omega
        · rw [flagOf_eq_none_iff.2 h] at henabled
          cases henabled
        · rw [passModeOf_eq_none_iff.2 h] at hmode
          cases hmode

/-- A PASS write is stored in the office port itself, which then sends the reply. -/
theorem exec_passWrite_stored {w : PassWrite} {k : Fin 4} {e : PassWindow} (ha : s.accepts h) (hform : passOperands ops = some w)
    (heffect : s.writePass w = (s.onOffice fun o => { o with windows := o.windows.set k e }).stored false e.bytes) :
    ∃ t, exec (.passWrite h ops) s = .next t ∧ t.office.windows = s.office.windows.set k e ∧
      t.office.address = s.office.address ∧ t.office.replyLost = s.office.replyLost ∧
      t.office.noticeLost = s.office.noticeLost ∧ t.office.badFrames = s.office.badFrames ∧
      t.office.outgoing = s.office.tx.toList ++
        (s.office.replies ++ [mgmtReply s h 0x02 .ok e.bytes]).map .reply ++ s.office.notices.map .notice ∧
      Touches [.office] s t := by
  have htaken := request_taken (code := 0x02) ha hform State.writePass
  rw [heffect] at htaken
  have hroom : (s.onOffice fun o => { o with windows := o.windows.set k e }).office.replies.length < 8 := ha.2.2.2.2
  have hsent := (Queues.reply (s.onOffice fun o => { o with windows := o.windows.set k e }) h.src (.mgmt 0x02 .ok e.bytes)
    hroom).kick
  obtain ⟨htouch, houtgoing, haddress, hwindows, hreplyLost, hnoticeLost, hbadFrames⟩ := hsent
  refine ⟨_, htaken, hwindows, haddress, hreplyLost, hnoticeLost, hbadFrames, houtgoing.trans ?_,
    (touches_onOffice s _).andThen htouch⟩
  rw [List.map_nil, List.append_nil]
  rfl

/-- Everything O36 says of a PASS write. -/
theorem passWrite_cases {w : PassWrite} (ha : s.accepts h) (hform : passOperands ops = some w) :
    ∃ t, exec (.passWrite h ops) s = .next t ∧
      (4 ≤ w.index → Replies [] s t (mgmtReply s h 0x02 .badIndex [])) ∧
      (w.index ≤ 3 → 128 ≤ w.base ∨ 128 ≤ w.mask ∨ 2 ≤ w.enabled ∨ 3 ≤ w.mode →
        Replies [] s t (mgmtReply s h 0x02 .badValue [])) ∧
      (∀ (k : Fin 4) enabled mode, w.index = k.val → w.base ≤ 127 → w.mask ≤ 127 → flagOf w.enabled = some enabled →
        passModeOf w.mode = some mode →
        ∃ e : PassWindow, e = { enabled := enabled, base := w.base, mask := w.mask, mode := mode } ∧
          t.office.windows = s.office.windows.set k e ∧ t.office.address = s.office.address ∧
          t.office.replyLost = s.office.replyLost ∧ t.office.noticeLost = s.office.noticeLost ∧
          t.office.badFrames = s.office.badFrames ∧
          t.office.outgoing = s.office.tx.toList ++
            (s.office.replies ++ [mgmtReply s h 0x02 .ok e.bytes]).map .reply ++ s.office.notices.map .notice ∧
          Touches [.office] s t) := by
  obtain ⟨t, hexec, hsame, hsends⟩ := request_does (code := 0x02) ha hform State.writePass
  refine ⟨t, hexec, fun hindex => ?_, fun hindex hbad => ?_, fun k enabled mode hk hbase hmask henabled hmode => ⟨_, rfl, ?_⟩⟩
  · have heffect : s.writePass w = s.refuse .badIndex := by
      unfold State.writePass
      rw [place_eq_none hindex]
    rw [heffect] at hsends
    exact hsends _ _ (.refl s)
  · rw [writePass_badValue hindex hbad] at hsends
    exact hsends _ _ (.refl s)
  · obtain ⟨t', hexec', hstored⟩ := exec_passWrite_stored ha hform (writePass_stored hk hbase hmask henabled hmode)
    cases hexec'.symm.trans hexec
    exact hstored

/-- Settles O36. -/
theorem saleAndPassTablesAreWritten : Obligations.SaleAndPassTablesAreWritten := by
  intro s h ops ha
  refine ⟨fun w hform => ?_, fun index e hform => optionWrite_cases ha hform, fun w hform => ?_,
    fun w hform => passWrite_cases ha hform⟩
  · obtain ⟨t, hexec, hrefused, hzero, hstored⟩ := planWrite_cases ha hform
    refine ⟨t, hexec, hrefused, hzero, fun k state hpos hk hstate hessential => ⟨w.entry state, planEntry_eq w state, ?_⟩⟩
    exact hstored k state hpos hk hstate hessential
  · obtain ⟨t, hexec, hindex, hbad, hstored⟩ := codeWrite_cases ha hform
    exact ⟨t, hexec, hindex, hbad, fun k plan enabled grant hk hpos hplan henabled hgrant =>
      ⟨w.window enabled plan grant, rfl, hstored k plan enabled grant hk hpos hplan henabled hgrant⟩⟩

end Sys2Proof.Machine
end

section
/-! TABLE READ and TABLE WRITE (R178 to R181): O34. -/

set_option Elab.async false

namespace Sys2Proof.Machine

variable {s t u : State} {h : Head} {rest : List Byte}

/-! ## The encodings (R178) -/

theorem extractLsb'_eq_ofNat {n : Nat} (x : BitVec n) (start : Nat) :
    x.extractLsb' start 8 = BitVec.ofNat 8 (x.toNat / 2 ^ start) := by
  refine BitVec.eq_of_toNat_eq ?_
  rw [BitVec.extractLsb'_toNat, BitVec.toNat_ofNat, Nat.shiftRight_eq_div_pow]

theorem four_eq (x : Word) : four x = [BitVec.ofNat 8 (x.toNat / 16777216), BitVec.ofNat 8 (x.toNat / 65536),
    BitVec.ofNat 8 (x.toNat / 256), BitVec.ofNat 8 x.toNat] := by
  unfold four
  simp only [extractLsb'_eq_ofNat, Nat.pow_zero, Nat.div_one]
  rfl

theorem twoBits_eq (x : BitVec 16) : twoBits x = two x.toNat := by
  unfold twoBits two byteOf
  simp only [extractLsb'_eq_ofNat, Nat.pow_zero, Nat.div_one]
  rfl

/-! ## The checks of TABLE READ (R179) -/

theorem readTable_ok {table index part lo hi parts : Nat} (hrange : tableRange table = some (lo, hi, parts)) (hlo : lo ≤ index)
    (hhi : index ≤ hi) (hpart : part ≤ parts) : s.readTable table index part = s.stored false (s.tableData table index part) := by
  unfold State.readTable
  rw [hrange]
  exact if_neg (by omega)

theorem readTable_badIndex {table index part lo hi parts : Nat} (hrange : tableRange table = some (lo, hi, parts))
    (hout : index < lo ∨ hi < index ∨ parts < part) : s.readTable table index part = s.refuse .badIndex := by
  unfold State.readTable
  rw [hrange]
  exact if_pos hout

theorem readTable_badTable {table index part : Nat} (hrange : tableRange table = none) :
    s.readTable table index part = s.refuse .badTable := by
  unfold State.readTable
  rw [hrange]

theorem tableRange_eq_none {table : Nat}
    (hunknown : table ∉ [1, 2, 3, 4, 5, 6, 7, 8, 9, 10, 11, 12, 13, 20, 21, 22, 23, 24]) : tableRange table = none := by
  unfold tableRange
  split
  all_goals first | rfl | simp at hunknown

theorem tableRange_of_mem {table lo hi parts : Nat}
    (hmem : (table, lo, hi, parts) ∈ [(1, 0, 31, 0), (2, 0, 0, 0), (3, 0, 15, 0), (4, 0, 7, 0), (5, 0, 7, 0),
      (6, 0, 9, 0), (7, 0, 3, 0), (8, 0, 0, 1), (9, 0, 0, 0), (10, 0, 0, 0), (11, 0, 0, 0), (12, 0, 0, 0), (13, 0, 0, 0),
      (20, 0, 15, 1), (21, 0, 23, 0), (22, 1, 15, 0), (23, 0, 7, 4), (24, 0, 31, 0)]) :
    tableRange table = some (lo, hi, parts) := by
  have hall : ∀ x ∈ [(1, 0, 31, 0), (2, 0, 0, 0), (3, 0, 15, 0), (4, 0, 7, 0), (5, 0, 7, 0),
      (6, 0, 9, 0), (7, 0, 3, 0), (8, 0, 0, 1), (9, 0, 0, 0), (10, 0, 0, 0), (11, 0, 0, 0), (12, 0, 0, 0), (13, 0, 0, 0),
      (20, 0, 15, 1), (21, 0, 23, 0), (22, 1, 15, 0), (23, 0, 7, 4), (24, 0, 31, 0)], tableRange x.1 = some x.2 := by decide
  exact hall _ hmem

/-! ## The data of the tables (R179) -/

theorem entryBytes_val {α : Type} {n index : Nat} (v : Vector α n) (k : Fin n) (bytes : α → List Byte) (hk : index = k.val) :
    entryBytes v index bytes = bytes v[k] := by
  unfold entryBytes
  rw [hk, Vector.getElem?_eq_getElem k.isLt]
  rfl

theorem aliasBytes (v : Vector Nat 32) : v.toList.map byteOf = stationIds.flatMap fun i => one v[i] := by
  have hlist : v.toList = stationIds.map fun i : StationId => v[i] := by
    unfold stationIds
    refine List.ext_getElem (by simp) fun n h1 h2 => ?_
    simp
  rw [hlist, List.map_map, List.map_eq_flatMap]
  rfl

theorem availableSet_bit (i : StationId) :
    s.availableSet.getLsbD i.val = (s.map.aliases[i] != 0 && s.seq.stations[i].phase != .fault) := by
  unfold State.availableSet
  rw [foldl_or_getLsbD, BitVec.ofNat_eq_ofNat, BitVec.getLsbD_zero, Bool.false_or]
  show (stationIds.any fun k => s.available k && (stationBit k).getLsbD i.val) = s.available i
  simp only [stationBit_getLsbD]
  rw [Bool.eq_iff_iff, List.any_eq_true]
  refine ⟨fun ⟨k, _, hk⟩ => ?_, fun hi => ⟨i, mem_stationIds i, by simp [hi]⟩⟩
  obtain ⟨havailable, hval⟩ := Bool.and_eq_true_iff.1 hk
  rw [← Fin.ext (of_decide_eq_true hval)]
  exact havailable

/-! ### The records of the lists -/

theorem readCars_some {c : Car} {index : Nat} (hc : s.cars[index]? = some c) (part : Nat) : s.readCars index part =
    (if part = 0 then c.trackBytes s.belt.count else c.saleBytes) ++ one s.cars.length ++ one s.nextTag := by
  unfold State.readCars
  rw [hc]
  rfl

theorem readCars_none {index : Nat} (hc : s.cars[index]? = none) (part : Nat) :
    s.readCars index part = one s.cars.length ++ one s.nextTag := by
  unfold State.readCars
  rw [hc]
  rfl

/-- The bytes behind the record of SALES and QUOTES (R131). -/
theorem saleTail (record : List Byte) (count : Nat) : record ++ one count ++ s.saleHeader =
    record ++ (one count ++ one s.book.queue.length ++ one s.reserve ++ two s.book.nextNumber) := by
  unfold State.saleHeader
  simp only [List.append_assoc]

/-- The bytes behind the record of INCIDENTS (R160). -/
def State.incidentTail (s : State) : List Byte :=
  one s.halt.log.length ++ one s.halt.state.code ++ one (levelCode s.halt.estop) ++ one (levelCode s.halt.line) ++
    one s.halt.nextNumber

theorem readIncidents_eq (index part : Nat) : s.readIncidents index part =
    (if part = 0 then recordBytes s.halt.log[index]? Incident.bytes
      else recordBytes (s.halt.log[index]?.bind fun r => r.secondary[part - 1]?) Cause.bytes) ++ s.incidentTail := by
  unfold State.readIncidents State.haltHeader State.incidentTail
  simp only [List.append_assoc]

end Sys2Proof.Machine
end

section
/-! The data of each table (R179) and the writes by table identifier (R180): O34. -/

set_option Elab.async false

namespace Sys2Proof.Machine

variable {s t u : State} {h : Head} {rest : List Byte} {index : Nat}

/-! ## The data of each table, as R178 and R179 write it -/

theorem read_station (i : StationId) : (s.readTable 1 i.val 0).data = StationEntry.bytes s.map.table[i] := by
  rw [readTable_ok (hi := 31) rfl (Nat.zero_le _) (by omega) (Nat.le_refl 0)]
  exact entryBytes_val s.map.table i _ rfl

theorem read_alias : (s.readTable 2 0 0).data = (stationIds.flatMap fun i => one s.map.aliases[i]) ++ four s.availableSet := by
  rw [← aliasBytes]
  rfl

theorem read_plan (k : Fin 16) : (s.readTable 3 k.val 0).data = Plan.bytes s.book.plans[k] := by
  rw [readTable_ok (hi := 15) rfl (Nat.zero_le _) (by omega) (Nat.le_refl 0)]
  exact entryBytes_val s.book.plans k _ rfl

theorem read_option (k : Fin 8) : (s.readTable 4 k.val 0).data = OptionEntry.bytes s.book.options[k] := by
  rw [readTable_ok (hi := 7) rfl (Nat.zero_le _) (by omega) (Nat.le_refl 0)]
  exact entryBytes_val s.book.options k _ rfl

theorem read_code (k : Fin 8) : (s.readTable 5 k.val 0).data = CodeWindow.bytes s.book.codes[k] := by
  rw [readTable_ok (hi := 7) rfl (Nat.zero_le _) (by omega) (Nat.le_refl 0)]
  exact entryBytes_val s.book.codes k _ rfl

theorem read_eye (k : Fin 10) : (s.readTable 6 k.val 0).data = Eye.bytes s.eyes[k] := by
  rw [readTable_ok (hi := 9) rfl (Nat.zero_le _) (by omega) (Nat.le_refl 0)]
  exact entryBytes_val s.eyes k _ rfl

theorem read_pass (k : Fin 4) : (s.readTable 7 k.val 0).data = PassWindow.bytes s.office.windows[k] := by
  rw [readTable_ok (hi := 3) rfl (Nat.zero_le _) (by omega) (Nat.le_refl 0)]
  exact entryBytes_val s.office.windows k _ rfl

theorem read_cars (hindex : index ≤ 15) {part : Nat} (hpart : part ≤ 1) : (s.readTable 20 index part).data = s.readCars index part := by
  rw [readTable_ok (hi := 15) rfl (Nat.zero_le _) hindex hpart]
  rfl

theorem read_sales (hindex : index ≤ 23) : (s.readTable 21 index 0).data =
    recordBytes s.book.queue[index]? (QueuedSale.bytes (index + 1)) ++
      (one s.book.queue.length ++ one s.book.queue.length ++ one s.reserve ++ two s.book.nextNumber) := by
  rw [readTable_ok (hi := 23) rfl (Nat.zero_le _) hindex (Nat.le_refl 0), ← saleTail]
  rfl

theorem read_quotes (k : Fin 15) : (s.readTable 22 (k.val + 1) 0).data = recordBytes s.book.quotes[k] Quote.bytes ++
    (one s.book.openQuotes ++ one s.book.queue.length ++ one s.reserve ++ two s.book.nextNumber) := by
  have hdata : (s.readTable 22 (k.val + 1) 0).data =
      recordBytes (s.book.quotes[k.val]?.bind id) Quote.bytes ++ one s.book.openQuotes ++ s.saleHeader := by
    rw [readTable_ok (lo := 1) (hi := 15) rfl (by omega) (by omega) (Nat.le_refl 0)]
    rfl
  rw [hdata, saleTail, Vector.getElem?_eq_getElem k.isLt]
  rfl

theorem read_incidents (hindex : index ≤ 7) {part : Nat} (hpart : part ≤ 4) :
    (s.readTable 23 index part).data = s.readIncidents index part := by
  rw [readTable_ok (hi := 7) rfl (Nat.zero_le _) hindex hpart]
  rfl

theorem read_stationRuntime (i : StationId) :
    (s.readTable 24 i.val 0).data = Station.bytes s.seq.stations[i] ++ one 32 ++ one s.seq.nextNumber := by
  have hdata : (s.readTable 24 i.val 0).data = entryBytes s.seq.stations i.val Station.bytes ++ one 32 ++ one s.seq.nextNumber := by
    rw [readTable_ok (hi := 31) rfl (Nat.zero_le _) (by omega) (Nat.le_refl 0)]
    rfl
  rw [hdata, entryBytes_val s.seq.stations i _ rfl]

/-! ## TABLE WRITE by identifier (R180) -/

theorem request_writeWith {α : Type} {operands : Option α} {write : State → α → Answer} :
    request s h 0x02 (writeWith operands write) (fun s write => write s) = request s h 0x02 operands write := by
  cases operands <;> rfl

theorem exec_tableWrite (table : Byte) : exec (.tableWrite h (table :: rest)) s =
    request s h 0x02 (tableWriteOperands (table :: rest)) fun s write => write s := rfl

theorem tableWrite_named {k : Nat} {c : Instr} {table : Byte}
    (hc : (k, c) ∈ [(1, Instr.stationWrite h rest), (2, .aliasWrite h rest), (3, .planWrite h rest), (4, .optionWrite h rest),
      (5, .codeWrite h rest), (6, .eyeWrite h rest), (7, .passWrite h rest), (8, .pacingWrite h rest), (9, .gateWrite h rest),
      (10, .trackWrite h rest), (11, .timingWrite h rest), (12, .arbiterWrite h rest), (13, .nodeEncoderWrite h rest)])
    (htable : table.toNat = k) : exec (.tableWrite h (table :: rest)) s = exec c s := by
  rw [exec_tableWrite]
  unfold tableWriteOperands
  dsimp only
  rw [htable]
  simp only [List.mem_cons, Prod.mk.injEq, List.not_mem_nil, or_false] at hc
  rcases hc with ⟨rfl, rfl⟩ | ⟨rfl, rfl⟩ | ⟨rfl, rfl⟩ | ⟨rfl, rfl⟩ | ⟨rfl, rfl⟩ | ⟨rfl, rfl⟩ | ⟨rfl, rfl⟩ | ⟨rfl, rfl⟩ |
    ⟨rfl, rfl⟩ | ⟨rfl, rfl⟩ | ⟨rfl, rfl⟩ | ⟨rfl, rfl⟩ | ⟨rfl, rfl⟩
  all_goals exact request_writeWith

theorem tableWriteOperands_unknown {table : Byte} (htable : table.toNat = 0 ∨ 14 ≤ table.toNat) (hrest : rest ≠ []) :
    tableWriteOperands (table :: rest) = some fun s => s.refuse .badTable := by
  unfold tableWriteOperands
  dsimp only
  split
  case h_14 => exact if_neg hrest
  all_goals
    rename_i heq
    omega

theorem tableWrite_option {index : Nat} {e : OptionEntry} {k : Fin 8} (ha : s.accepts h)
    (hform : optionOperands rest = some (index, e)) (hk : index = k.val) :
    ∃ t, exec (.tableWrite h (4 :: rest)) s = .next t ∧
      t.book = { s.book with options := s.book.options.set k e } ∧
      Replies [.book] s t (mgmtReply s h 0x02 .ok (two e.price ++ four e.added)) := by
  obtain ⟨t, hexec, -, hstored⟩ := optionWrite_cases ha hform
  have hnamed : exec (.tableWrite h (4 :: rest)) s = exec (.optionWrite h rest) s :=
    tableWrite_named (k := 4) (by simp) rfl
  exact ⟨t, hnamed.trans hexec, hstored k hk⟩

theorem tableWrite_badTable {table : Byte} (htable : table.toNat = 0 ∨ 14 ≤ table.toNat) (ha : s.accepts h) (hrest : rest ≠ []) :
    ∃ t, exec (.tableWrite h (table :: rest)) s = .next t ∧ Replies [] s t (mgmtReply s h 0x02 .badTable []) := by
  rw [exec_tableWrite, tableWriteOperands_unknown htable hrest]
  exact request_refused ha rfl rfl

/-! ## O34 -/

/-- TABLE READ answers the table's data, and changes nothing. -/
theorem exec_tableRead (table index part : Byte) (ha : s.accepts h) : ∃ t, exec (.tableRead h [table, index, part]) s = .next t ∧
    Replies [] s t (mgmtReply s h 0x01 (s.readTable table.toNat index.toNat part.toNat).result
      (s.readTable table.toNat index.toNat part.toNat).data) := by
  obtain ⟨t, hexec, -, hsends⟩ := request_does (code := 0x01) ha (operands := readOperands [table, index, part]) rfl
    fun s r => s.readTable r.1 r.2.1 r.2.2
  refine ⟨t, hexec, hsends [] [] ?_⟩
  have hstate : (s.readTable table.toNat index.toNat part.toNat).state = s := by
    unfold State.readTable
    split
    · rfl
    · split <;> rfl
  dsimp only
  rw [hstate]
  exact Queues.refl s

/-- Settles O34. -/
theorem tablesAreReadAndNamed : Obligations.TablesAreReadAndNamed := by
  refine ⟨fun s h table index part ha => ?_, ?_, fun s h table rest => ⟨fun k c hc htable => tableWrite_named hc htable, ?_,
    fun htable ha hrest => tableWrite_badTable htable ha hrest⟩⟩
  case refine_3 =>
    rintro index e k rfl ha hform hk
    exact tableWrite_option ha hform hk
  case refine_2 =>
    refine ⟨fun n => ⟨rfl, rfl, rfl, rfl⟩, four_eq, twoBits_eq, rfl, rfl, rfl, rfl, fun n write => ⟨rfl, fun x => rfl⟩, rfl, rfl,
      rfl, rfl, rfl, rfl, rfl, rfl, rfl, rfl, rfl, rfl, rfl, rfl, rfl, rfl, rfl, rfl, rfl, rfl, rfl⟩
  obtain ⟨t, hexec, hreplies⟩ := exec_tableRead table index part ha
  refine ⟨t, _, _, hexec, hreplies, ?_, ?_, ?_, ?_, ?_, ?_, ?_, ?_, ?_, ?_, ?_, ?_, ?_, ?_, ?_, ?_, ?_, ?_, ?_, ?_⟩
  · intro hunknown
    rw [readTable_badTable (tableRange_eq_none hunknown)]
    exact ⟨rfl, rfl⟩
  · intro lo hi parts hmem
    have hrange := tableRange_of_mem hmem
    split
    next hout =>
      rw [readTable_badIndex hrange hout]
      exact ⟨rfl, rfl⟩
    next hin =>
      rw [readTable_ok hrange (by omega) (by omega) (by omega)]
      rfl
  · rintro i e rfl rfl hi rfl
    rw [hi]
    exact read_station i
  · rintro rfl rfl rfl
    exact ⟨s.availableSet, availableSet_bit, read_alias⟩
  · rintro k e rfl rfl hk rfl
    rw [hk]
    exact read_plan k
  · rintro k rfl rfl hk
    rw [hk]
    exact read_option k
  · rintro k e rfl rfl hk rfl
    rw [hk]
    exact read_code k
  · rintro k e rfl rfl hk rfl
    rw [hk]
    exact read_eye k
  · rintro k e rfl rfl hk rfl
    rw [hk]
    exact read_pass k
  · rintro p rfl rfl rfl
    refine ⟨?_, ?_⟩
    · rintro rfl
      rfl
    · rintro rfl
      rfl
  · rintro g rfl rfl rfl rfl
    show s.gate.bytes ++ s.gate.runtimeBytes = _
    unfold Gate.bytes Gate.runtimeBytes
    simp only [List.append_assoc]
  · rintro rfl rfl rfl
    rfl
  · rintro rfl rfl rfl
    rfl
  · rintro r rfl rfl rfl rfl
    show s.ring.arbiterBytes ++ s.ring.runtimeBytes = _
    unfold Ring.arbiterBytes Ring.runtimeBytes
    simp only [List.append_assoc]
  · rintro rfl rfl rfl
    rfl
  · rintro rfl hindex
    refine ⟨fun hnone hpart => ?_, fun c hc => ⟨?_, ?_⟩⟩
    · exact (read_cars hindex hpart).trans (readCars_none hnone _)
    · rintro rfl
      exact (read_cars (part := 0) hindex (by decide)).trans (readCars_some hc 0)
    · rintro rfl
      exact (read_cars (part := 1) hindex (by decide)).trans (readCars_some hc 1)
  · rintro tail rfl hindex rfl rfl
    refine ⟨fun hnone => ?_, fun q hq => ?_⟩
    · refine (read_sales hindex).trans ?_
      rw [hnone]
      rfl
    · refine (read_sales hindex).trans ?_
      rw [hq]
      rfl
  · rintro k tail rfl hindex rfl rfl
    rw [hindex]
    refine ⟨fun hnone => ?_, fun q hq => ?_⟩
    · refine (read_quotes k).trans ?_
      rw [hnone]
      rfl
    · refine (read_quotes k).trans ?_
      rw [hq]
      rfl
  · rintro cause tail rfl hindex hcause rfl
    have hbytes : ∀ x, cause x = x.bytes := hcause
    refine ⟨fun hnone hpart => ?_, fun r hr => ⟨?_, fun hlow hhigh hshort => ?_, fun x hlow hhigh hx => ?_⟩⟩
    · refine (read_incidents hindex hpart).trans ?_
      rw [readIncidents_eq, hnone]
      split <;> rfl
    · rintro rfl
      refine (read_incidents (part := 0) hindex (by decide)).trans ?_
      rw [readIncidents_eq, hr, hbytes]
      rfl
    · refine (read_incidents hindex hhigh).trans ?_
      rw [readIncidents_eq, hr, if_neg (by omega), Option.bind_some, List.getElem?_eq_none (by omega)]
      rfl
    · refine (read_incidents hindex hhigh).trans ?_
      rw [readIncidents_eq, hr, if_neg (by omega), Option.bind_some, hx, hbytes]
      rfl
  · rintro i st rfl rfl hi rfl
    rw [hi]
    exact read_stationRuntime i

end Sys2Proof.Machine
end

section
/-! The profile interval (R65 to R70, R73): O44 and O45. -/

set_option Elab.async false

namespace Sys2Proof.Machine

variable {s t u : State}

/-! ## What a cause leaves of the pacer (R75) -/

theorem takeCause_pacer (s : State) (c : Cause) :
    (s.takeCause c).pacer = s.pacer ∨ (s.takeCause c).pacer = s.pacer.halted s.timing.driveStop := by
  have hopened (v : State) : (v.openBy c).pacer = v.pacer.halted v.timing.driveStop := by
    show ((((v.newIncident c).haltActions).notify (.incidentOpen v.freeIncidentNumber c)).enterHalting).pacer = _
    rw [(enterHalting_touches _).pacer, notify_pacer, haltActions_pacer]
    rfl
  unfold State.takeCause
  dsimp only
  split
  · split
    · exact .inl rfl
    · exact .inr (hopened _)
  · have hadded := addSecondary_touches (s.markStruck c) c
    unfold State.secondaryBy
    dsimp only
    split
    · refine .inr ?_
      rw [(enterHalting_touches _).pacer, haltActions_pacer, (touches_onHalt _ _).pacer, hadded.pacer, (touches_onHalt _ _).timing,
        hadded.timing]
      rfl
    · exact .inl (hadded.pacer.trans rfl)

theorem takeCause_commanded (s : State) (c : Cause) : (s.takeCause c).pacer.commanded = s.pacer.commanded := by
  rcases takeCause_pacer s c with h | h
  · rw [h]
  · rw [h]
    rfl

/-! ## The deviation check and the setpoint (R69, R70) -/

theorem deviationStep_stall (hslip : (s.pacer.slip : Int) < s.deviation) : s.deviationStep = s.raise .stall := if_pos hslip

theorem deviationStep_overrun (hslip : s.deviation ≤ (s.pacer.slip : Int)) (hoverrun : s.deviation < -(s.pacer.overrun : Int)) :
    s.deviationStep = s.raise .overrun := by
  unfold State.deviationStep
  rw [if_neg (by omega), if_pos (by omega)]

theorem deviationStep_within (hslip : s.deviation ≤ (s.pacer.slip : Int)) (hoverrun : -(s.pacer.overrun : Int) ≤ s.deviation) :
    s.deviationStep = s.setpointStep.stoppingEnd := by
  unfold State.deviationStep
  rw [if_neg (by omega), if_neg (by omega)]

/-- The SETPOINT of an interval, as a change of the pacer and the ring (R70). -/
theorem setpointStep_parts (u : State) :
    u.setpointStep.pacer = { u.pacer with
      lastSent := if u.pacer.speed ≠ u.pacer.lastSent ∨ 9 ≤ u.pacer.refresh then u.pacer.speed else u.pacer.lastSent
      refresh := if u.pacer.speed ≠ u.pacer.lastSent ∨ 9 ≤ u.pacer.refresh then 0 else u.pacer.refresh + 1 } ∧
    u.setpointStep.ring = (if u.pacer.speed ≠ u.pacer.lastSent ∨ 9 ≤ u.pacer.refresh then
      u.ring.pushSetpoint u.pacer.drive u.pacer.speed else u.ring) ∧
    Touches [.pacer, .ring] u u.setpointStep := by
  unfold State.setpointStep
  split
  next hsend => exact ⟨rfl, rfl, queueSetpoint_touches _ _⟩
  next hsend => exact ⟨rfl, rfl, (touches_onPacer _ _).mono (by decide)⟩

theorem stoppingEnd_none (hgoes : s.pacer.state ≠ .stopping ∨ s.pacer.speed ≠ 0) : s.stoppingEnd = s :=
  if_neg fun h => hgoes.elim (fun hne => hne h.1) fun hne => hne h.2

/-- STOPPING ends at V = 0, while no restart is under way (R67, log 15). -/
theorem stoppingEnd_stops (hstopping : s.pacer.state = .stopping) (hzero : s.pacer.speed = 0) (hr : s.halt.state ≠ .restarting) :
    s.stoppingEnd = (s.queueSetpoint 0).onPacer fun p => { p with profileTimer := none, state := .stopped } :=
  (if_pos ⟨hstopping, hzero⟩).trans (setPacerState_stopped hr)

/-! ## The speed of an interval (R66 to R68, R73) -/

theorem exec_profileInterval (hl : s.live) (htimer : s.pacer.profileTimer.isSome = true) :
    exec .profileInterval s = .next s.intervalSpeed.deviationStep.officeKick := by
  show execProfileInterval s = _
  unfold execProfileInterval
  rw [live_of_released hl, if_pos htimer]
  rfl

/-- The speed, the commanded count and the rest of an interval are stored (R66 to R68). -/
def Pacer.moved (p : Pacer) (target v : Nat) : Pacer :=
  { p with
    target := target
    profileTimer := some 20
    speed := v
    commanded := p.commanded + BitVec.ofNat 32 ((p.acc + v) / 800)
    acc := (p.acc + v) % 800 }

theorem latchTest_of_state (hstate : s.pacer.state ≠ .pointStop) : s.latchTest = s := by
  unfold State.latchTest
  split
  next hp _ _ => exact absurd hp hstate
  next => rfl

theorem overshootTest_of_state (hstate : s.pacer.state ≠ .pointStop) : s.overshootTest = s := by
  unfold State.overshootTest
  split
  next hp _ _ => exact absurd hp hstate
  next => rfl

theorem stepped_of_state {p : Pacer} (hstate : p.state ≠ .pointStop) : p.stepped = stepToward p.accel p.dec p.target p.speed := by
  unfold Pacer.stepped
  split
  next hp _ => exact absurd hp hstate
  next => rfl

/-- The target of an interval, with its timer started again (R65, R66). -/
def State.aimed (s : State) : State := s.onPacer fun p => { p with target := s.targetSpeed, profileTimer := some 20 }

/-- V after the step (R67). -/
def State.sped (s : State) (v : Nat) : State := s.onPacer fun p => { p with speed := v }

theorem intervalSpeed_eq (s : State) : s.intervalSpeed =
    (s.aimed.latchTest.sped s.aimed.latchTest.pacer.stepped).overshootTest.onPacer Pacer.integrate := rfl

theorem intervalSpeed_plain (hstate : s.pacer.state ≠ .pointStop) : s.intervalSpeed = s.onPacer fun p =>
    p.moved s.targetSpeed (stepToward p.accel p.dec s.targetSpeed p.speed) := by
  rw [intervalSpeed_eq, latchTest_of_state (s := s.aimed) hstate, stepped_of_state (p := s.aimed.pacer) hstate,
    overshootTest_of_state (s := s.aimed.sped _) hstate]
  rfl

/-! ## O44 -/

/-- The interval with its speed stored (R66 to R68). -/
def State.moved (s : State) (target v : Nat) : State := s.onPacer fun p => p.moved target v

theorem moved_touches (s : State) (target v : Nat) : Touches [.pacer] s (s.moved target v) := touches_onPacer s _

/-- A cause of the deviation check, raised from the stored speed (R69). -/
theorem interval_raises {ns : List Notice} (kind : CauseKind) (hkind : kind ≠ .driveNoStop) (hqueues : Queues [.pacer] s u [] ns)
    (room : s.noticeRoom (ns.length + 1)) (ht : t = (u.raise kind).officeKick) :
    Raises s t { kind := kind, belt := s.belt.count, uptime := s.clock.uptime } ∧ t.pacer.commanded = u.pacer.commanded ∧
    Sends [.cars, .pacer, .seq, .gate, .ring, .halt] s t []
      (ns ++ s.causeNotices { kind := kind, belt := s.belt.count, uptime := s.clock.uptime }) := by
  have hhalt : u.halt = s.halt := hqueues.1.halt
  have hcars : u.cars = s.cars := hqueues.1.cars
  have hcause : u.causeNow kind = s.causeNow kind :=
    causeNow_congr hqueues.1.belt hqueues.1.uptime kind none none none none
  have hsame := SameButOffice.kick (u.raise kind)
  have hraised := (raise_after (u := u) kind none none none none hkind hhalt (by rw [hcars])).1
  have hsent := (hqueues.raise kind none none none none hkind room hhalt (hs := [.cars, .pacer, .seq, .gate, .ring, .halt])).kick
  rw [hcause] at hraised hsent
  rw [← ht] at hsame hsent
  refine ⟨hraised.kick hsame, ?_, hsent⟩
  rw [hsame.pacer]
  exact takeCause_commanded u _

/-- An interval whose deviation is within its limits sends its SETPOINT, outside the end of STOPPING (R70). -/
theorem interval_sends {target v : Nat} (hgoes : s.pacer.state ≠ .stopping ∨ v ≠ 0)
    (ht : t = (s.moved target v).setpointStep.stoppingEnd.officeKick) :
    t.pacer = { s.pacer.moved target v with
      lastSent := if v ≠ s.pacer.lastSent ∨ 9 ≤ s.pacer.refresh then v else s.pacer.lastSent
      refresh := if v ≠ s.pacer.lastSent ∨ 9 ≤ s.pacer.refresh then 0 else s.pacer.refresh + 1 } ∧
    t.ring = (if v ≠ s.pacer.lastSent ∨ 9 ≤ s.pacer.refresh then s.ring.pushSetpoint s.pacer.drive v else s.ring) ∧
    Quiet [.pacer, .ring] s t := by
  obtain ⟨hpacer, hring, htouch⟩ := setpointStep_parts (s.moved target v)
  have hend : (s.moved target v).setpointStep.stoppingEnd = (s.moved target v).setpointStep :=
    stoppingEnd_none (by rw [hpacer]; exact hgoes)
  rw [hend] at ht
  subst ht
  exact ⟨hpacer, hring, (Queues.of_touches ((moved_touches s target v).andThen htouch (hs := [.pacer, .ring]))).kick⟩

/-- The interval that ends STOPPING (R67, log 15). -/
theorem interval_stops {target : Nat} (hstopping : s.pacer.state = .stopping) (hr : s.halt.state ≠ .restarting)
    (ht : t = (s.moved target 0).setpointStep.stoppingEnd.officeKick) :
    t.pacer = { s.pacer.moved target 0 with state := .stopped, profileTimer := none, lastSent := 0, refresh := 0 } ∧
    t.ring = (if 0 ≠ s.pacer.lastSent ∨ 9 ≤ s.pacer.refresh then s.ring.pushSetpoint s.pacer.drive 0 else s.ring).pushSetpoint
      s.pacer.drive 0 ∧
    Quiet [.pacer, .ring] s t := by
  obtain ⟨hpacer, hring, htouch⟩ := setpointStep_parts (s.moved target 0)
  have hend := stoppingEnd_stops (s := (s.moved target 0).setpointStep) (by rw [hpacer]; exact hstopping) (by rw [hpacer]; rfl)
    (by rw [htouch.halt]; exact hr)
  rw [hend] at ht
  subst ht
  have hstopped := (htouch.andThen (queueSetpoint_touches _ 0) (hs := [.pacer, .ring])).andThen (touches_onPacer _ fun p =>
    { p with profileTimer := none, state := .stopped }) (hs := [.pacer, .ring])
  refine ⟨?_, ?_, (Queues.of_touches ((moved_touches s target 0).andThen hstopped (hs := [.pacer, .ring]))).kick⟩
  · show ({ (s.moved target 0).setpointStep.pacer with lastSent := 0, refresh := 0, profileTimer := none, state := .stopped } :
      Pacer) = _
    rw [hpacer]
    rfl
  · show (s.moved target 0).setpointStep.ring.pushSetpoint (s.moved target 0).setpointStep.pacer.drive 0 = _
    rw [hring, hpacer]
    rfl

/-- Settles O44: the speed is stepped and stored, and then the deviation decides between a cause and the SETPOINT. -/
theorem profileIntervalStepsTheBelt : Obligations.ProfileIntervalStepsTheBelt := by
  intro s target v acc c hl htimer hstate htarget hv hc hacc
  have hexec := exec_profileInterval hl htimer
  have hmoved : s.intervalSpeed = s.moved target v := by
    rw [intervalSpeed_plain hstate, hv, htarget]
    rfl
  have hdeviation : (s.moved target v).deviation = (c - s.belt.count).toInt := by rw [hc]; rfl
  have hpacer : s.pacer.moved target v = { s.pacer with
      target := target, profileTimer := some 20, speed := v, commanded := c, acc := acc } := by
    rw [hc, hacc]
    rfl
  have hqueues : Queues [.pacer] s (s.moved target v) [] [] := .of_touches (moved_touches s target v)
  rw [hmoved] at hexec
  refine ⟨_, hexec, fun hlow hhigh => ?_, fun hslip room => ?_, fun hlow hhigh room => ?_⟩
  · rw [deviationStep_within (s := s.moved target v) (by rw [hdeviation]; exact hhigh) (by rw [hdeviation]; exact hlow)]
    refine ⟨fun hgoes => ?_, fun hstopping hzero hr => ?_⟩
    · obtain ⟨hparts, hring, hquiet⟩ := interval_sends hgoes rfl
      rw [hpacer] at hparts
      exact ⟨hparts, hring, hquiet⟩
    · subst hzero
      obtain ⟨hparts, hring, hquiet⟩ := interval_stops (target := target) hstopping hr rfl
      rw [hpacer] at hparts
      exact ⟨hparts, hring, hquiet⟩
  · rw [deviationStep_stall (s := s.moved target v) (by rw [hdeviation]; exact hslip)]
    obtain ⟨hraises, hcommanded, hsends⟩ := interval_raises .stall (by decide) hqueues room rfl
    exact ⟨hraises, hcommanded.trans hc.symm, hsends⟩
  · rw [deviationStep_overrun (s := s.moved target v) (by rw [hdeviation]; exact hhigh) (by rw [hdeviation]; exact hlow)]
    obtain ⟨hraises, hcommanded, hsends⟩ := interval_raises .overrun (by decide) hqueues room rfl
    exact ⟨hraises, hcommanded.trans hc.symm, hsends⟩

end Sys2Proof.Machine
end

section
/-! The profile interval in POINT_STOP (R73): O45. -/

set_option Elab.async false

namespace Sys2Proof.Machine

variable {s t u : State} {p : PointStop} {car : Car}

/-- The point stop with its ramp latched or not (R73). -/
def State.ramped (s : State) (p : PointStop) (latched : Bool) : State :=
  s.onPacer fun q => { q with pointStop := some { p with latched := latched } }

theorem ramped_self (hstop : s.pacer.pointStop = some p) : s.ramped p p.latched = s := by
  show ({ s with pacer := { s.pacer with pointStop := some p } } : State) = s
  rw [← hstop]

/-- The latch test: a ramp stays latched, and is latched within the ramp-down distance (R73). -/
theorem latchTest_pointStop (hstate : s.pacer.state = .pointStop) (hstop : s.pacer.pointStop = some p)
    (hlead : leadCar s.cars = some car) : s.latchTest = s.ramped p
      (p.latched || decide (s.remaining car ≤ (rampDistance s.pacer.speed (s.pacer.decelValue p.decel) : Int))) := by
  unfold State.latchTest
  rw [hstate, hstop, hlead]
  dsimp only
  by_cases hlatches : p.latched = false ∧ s.remaining car ≤ (rampDistance s.pacer.speed (s.pacer.decelValue p.decel) : Int)
  · rw [if_pos hlatches, hlatches.1, Bool.false_or, decide_eq_true hlatches.2]
    rfl
  · rw [if_neg hlatches]
    have hkept : (p.latched || decide (s.remaining car ≤ (rampDistance s.pacer.speed (s.pacer.decelValue p.decel) : Int))) =
        p.latched := by
      cases hold : p.latched with
      | true => rfl
      | false => exact decide_eq_false fun h => hlatches ⟨hold, h⟩
    rw [hkept]
    exact (ramped_self hstop).symm

theorem stepped_pointStop {q : Pacer} (hstate : q.state = .pointStop) (hstop : q.pointStop = some p) : q.stepped =
    if p.latched then q.speed - q.decelValue p.decel else stepToward q.accel q.dec q.target q.speed := by
  unfold Pacer.stepped
  rw [hstate, hstop]

/-- The overshoot test: a car at or past the stop point stops a belt that still moves (R73). -/
theorem overshootTest_pointStop (hstate : s.pacer.state = .pointStop) (hstop : s.pacer.pointStop = some p)
    (hlead : leadCar s.cars = some car) : s.overshootTest =
      if s.remaining car ≤ 0 ∧ 0 < s.pacer.speed then
        ((s.sped 0).ramped p true).notify (.overshoot car.tag (s.remaining car))
      else s := by
  unfold State.overshootTest
  rw [hstate, hstop, hlead]
  rfl

/-- What an interval in POINT_STOP leaves of the pacer (R66 to R68, R73). -/
def Pacer.slowed (q : Pacer) (p : PointStop) (latched : Bool) (target w : Nat) : Pacer :=
  { q.moved target w with pointStop := some { p with latched := latched } }

theorem intervalSpeed_pointStop {d v : Nat} {latched past : Bool} (hstate : s.pacer.state = .pointStop)
    (hstop : s.pacer.pointStop = some p) (hlead : leadCar s.cars = some car) (room : s.noticeRoom 1)
    (hd : d = s.pacer.decelValue p.decel)
    (hlatched : latched = (p.latched || decide (s.remaining car ≤ (rampDistance s.pacer.speed d : Int))))
    (hv : v = if latched then s.pacer.speed - d
      else stepToward s.pacer.accel s.pacer.dec (s.capsInForce.foldl min s.pacer.runSpeed) s.pacer.speed)
    (hpast : past = (decide (s.remaining car ≤ 0) && decide (0 < v))) :
    s.intervalSpeed.pacer = s.pacer.slowed p (latched || past) s.targetSpeed (if past then 0 else v) ∧
    Queues [.pacer] s s.intervalSpeed [] (if past then [.overshoot car.tag (s.remaining car)] else []) := by
  have htarget : s.targetSpeed = s.capsInForce.foldl min s.pacer.runSpeed := if_neg (by rw [hstate]; decide)
  have hlatch : s.aimed.latchTest = s.aimed.ramped p latched := by
    rw [latchTest_pointStop (s := s.aimed) hstate hstop hlead, hlatched, hd]
    rfl
  have hstepped : (s.aimed.ramped p latched).pacer.stepped = v := by
    rw [stepped_pointStop (q := (s.aimed.ramped p latched).pacer) (p := { p with latched := latched }) hstate rfl, hv, ← htarget, hd]
    rfl
  have hover := overshootTest_pointStop (s := (s.aimed.ramped p latched).sped v) (p := { p with latched := latched }) hstate rfl hlead
  have htouch : Touches [.pacer] s ((s.aimed.ramped p latched).sped v) :=
    ((touches_onPacer s _).andThen (touches_onPacer _ _) (hs := [.pacer])).andThen (touches_onPacer _ _)
  have hremaining : ((s.aimed.ramped p latched).sped v).remaining car = s.remaining car := rfl
  rw [intervalSpeed_eq, hlatch, hstepped, hover, hremaining]
  by_cases hovershoots : s.remaining car ≤ 0 ∧ 0 < v
  · have htrue : past = true := by rw [hpast, decide_eq_true hovershoots.1, decide_eq_true hovershoots.2]; rfl
    rw [htrue, if_pos (show s.remaining car ≤ 0 ∧ 0 < ((s.aimed.ramped p latched).sped v).pacer.speed from hovershoots)]
    refine ⟨by rw [Bool.or_true]; rfl, ?_⟩
    have hstopped := (htouch.andThen (touches_onPacer _ fun q => { q with speed := 0 }) (hs := [.pacer])).andThen
      (touches_onPacer _ fun q => { q with pointStop := some { p with latched := true } }) (hs := [.pacer])
    have hnotified := Queues.after hstopped (Queues.notify _ (.overshoot car.tag (s.remaining car)) room) (hs := [.pacer])
    exact hnotified.touch (touches_onPacer _ _)
  · have hfalse : past = false := by
      rw [hpast, ← Bool.decide_and]
      exact decide_eq_false hovershoots
    rw [hfalse, if_neg (show ¬ (s.remaining car ≤ 0 ∧ 0 < ((s.aimed.ramped p latched).sped v).pacer.speed) from hovershoots)]
    exact ⟨by rw [Bool.or_false]; rfl, .of_touches (htouch.andThen (touches_onPacer _ _))⟩

/-- Settles O45: the speed of the interval, and then the deviation check, which keeps the commanded count. -/
theorem pointStopRampsDown : Obligations.PointStopRampsDown := by
  intro s p car d v latched past hl htimer hstate hstop hlead room hd hlatched hv hpast
  have hexec := exec_profileInterval hl htimer
  have hdecel : d = s.pacer.decelValue p.decel := by
    rw [hd]
    cases p.decel <;> rfl
  obtain ⟨hpacer, hqueues⟩ := intervalSpeed_pointStop hstate hstop hlead room hdecel hlatched hv hpast
  generalize s.intervalSpeed = u at hexec hpacer hqueues
  have hsame := SameButOffice.kick u.deviationStep
  have hcommanded : u.deviationStep.pacer.commanded = u.pacer.commanded := by
    unfold State.deviationStep
    split
    · exact takeCause_commanded u _
    · split
      · exact takeCause_commanded u _
      · obtain ⟨hset, -, -⟩ := setpointStep_parts u
        rw [stoppingEnd_none (.inl (by rw [hset, hpacer]; show s.pacer.state ≠ .stopping; rw [hstate]; decide)), hset]
  have hsum : u.pacer.commanded = s.pacer.commanded + BitVec.ofNat 32 ((s.pacer.acc + if past then 0 else v) / 800) := by
    rw [hpacer]
    rfl
  have hfinal : u.deviationStep.officeKick.pacer.commanded = u.pacer.commanded := by rw [hsame.pacer, hcommanded]
  refine ⟨_, _, hexec, rfl, hfinal.trans hsum, fun hlow hhigh => ?_⟩
  have hdeviation : u.deviation = (u.deviationStep.officeKick.pacer.commanded - s.belt.count).toInt := by
    rw [hfinal, ← hqueues.1.belt]
    rfl
  have hslip : u.pacer.slip = s.pacer.slip := by rw [hpacer]; rfl
  have hoverrun : u.pacer.overrun = s.pacer.overrun := by rw [hpacer]; rfl
  obtain ⟨hset, -, htouch⟩ := setpointStep_parts u
  have hstep : u.deviationStep = u.setpointStep := by
    rw [deviationStep_within (by rw [hdeviation, hslip]; exact hhigh) (by rw [hdeviation, hoverrun]; exact hlow)]
    exact stoppingEnd_none (.inl (by rw [hset, hpacer]; show s.pacer.state ≠ .stopping; rw [hstate]; decide))
  have hkicked : u.deviationStep.officeKick.pacer = u.setpointStep.pacer := by rw [hsame.pacer, hstep]
  rw [hkicked, hset, hpacer]
  refine ⟨hstate, rfl, rfl, rfl, ?_⟩
  rw [hstep]
  exact (hqueues.touch htouch (hs := [.pacer, .ring])).kick

end Sys2Proof.Machine
end

section
/-! The frame layout and the frame check (R162, R163): O55. -/

set_option Elab.async false

namespace Sys2Proof.Machine

variable {bytes tail : List Byte} {f : Frame}

/-! ## Bytes -/

theorem byteOf_toNat (b : Byte) : byteOf b.toNat = b := by
  unfold byteOf
  rw [BitVec.ofNat_toNat, BitVec.setWidth_eq]

theorem toNat_byteOf {n : Nat} (hn : n ≤ 255) : (byteOf n).toNat = n := by
  unfold byteOf
  rw [BitVec.toNat_ofNat]
  omega

/-- The frame check as its two bytes. -/
theorem checkBytes (c : BitVec 16) : c.extractLsb' 8 8 ++ c.extractLsb' 0 8 = c := by
  refine BitVec.eq_of_getLsbD_eq fun i hi => ?_
  show (c.extractLsb' 8 8 ++ c.extractLsb' 0 8 : BitVec (8 + 8)).getLsbD i = c.getLsbD i
  rw [BitVec.getLsbD_append, BitVec.getLsbD_extractLsb', BitVec.getLsbD_extractLsb']
  by_cases hlow : i < 8
  · simp [hlow]
  · simp [hlow, show i - 8 < 8 by omega, show 8 + (i - 8) = i by omega]

theorem checkBytes_append (c1 c0 : Byte) : (c1 ++ c0 : BitVec (8 + 8)).extractLsb' 8 8 = c1 ∧
    (c1 ++ c0 : BitVec (8 + 8)).extractLsb' 0 8 = c0 := by
  constructor
  · refine BitVec.eq_of_getLsbD_eq fun i hi => ?_
    rw [BitVec.getLsbD_extractLsb', BitVec.getLsbD_append]
    simp [hi]
  · refine BitVec.eq_of_getLsbD_eq fun i hi => ?_
    rw [BitVec.getLsbD_extractLsb', BitVec.getLsbD_append]
    simp [hi]

/-! ## A frame as it is sent -/

/-- The numbers of a frame fit its bytes, and its payload a frame (R162). -/
def FrameFits (f : Frame) : Prop := f.dst ≤ 127 ∧ f.src ≤ 255 ∧ f.kind ≤ 255 ∧ f.order ≤ 255 ∧ f.payload.length ≤ 40

theorem wire_append (f : Frame) (tail : List Byte) : f.wire ++ tail =
    byteOf f.dst :: byteOf f.src :: byteOf f.kind :: byteOf f.order :: byteOf f.payload.length ::
      (f.payload ++ ((crc16 f.body).extractLsb' 8 8 :: (crc16 f.body).extractLsb' 0 8 :: tail)) := by
  unfold Frame.wire Frame.body
  simp

/-- A frame as sent is read as that frame, whatever follows it. -/
theorem readFrame_wire (hf : FrameFits f) (tail : List Byte) : readFrame (f.wire ++ tail) = some f := by
  obtain ⟨hdst, hsrc, hkind, horder, hlength⟩ := hf
  have hlen : (byteOf f.payload.length).toNat = f.payload.length := toNat_byteOf (by omega)
  rw [wire_append]
  unfold readFrame
  dsimp only
  rw [hlen, List.take_left, List.drop_left]
  dsimp only
  rw [if_neg, toNat_byteOf (by omega), toNat_byteOf hsrc, toNat_byteOf hkind, toNat_byteOf horder]
  rw [toNat_byteOf (by omega), checkBytes]
  rintro (h | h | h)
  · omega
  · omega
  · exact h rfl

/-- The frame that a run of bytes is read as, when it is read: its bytes begin the run. -/
theorem wire_of_readFrame (hread : readFrame bytes = some f) : FrameFits f ∧ ∃ tail, bytes = f.wire ++ tail := by
  unfold readFrame at hread
  split at hread
  next d s k o n rest =>
    dsimp only at hread
    split at hread
    next c1 c0 tail hdrop =>
      split at hread
      next => cases hread
      next hgood =>
        obtain ⟨hlength, hdst, hcheck⟩ := not_or.1 hgood |>.imp_right not_or.1
        cases hread
        have hlen : n.toNat ≤ rest.length := by
          have hcount := congrArg List.length hdrop
          rw [List.length_drop] at hcount
          simp only [List.length_cons] at hcount
          omega
        have htake : (rest.take n.toNat).length = n.toNat := by rw [List.length_take]; omega
        have hfits : FrameFits { dst := d.toNat, src := s.toNat, kind := k.toNat, order := o.toNat, payload := rest.take n.toNat } :=
          ⟨Nat.le_of_not_lt hdst, Nat.le_of_lt_succ s.isLt, Nat.le_of_lt_succ k.isLt, Nat.le_of_lt_succ o.isLt, by
            show (rest.take n.toNat).length ≤ 40
            omega⟩
        refine ⟨hfits, tail, ?_⟩
        rw [wire_append]
        unfold Frame.body
        dsimp only
        rw [htake]
        simp only [byteOf_toNat]
        rw [show crc16 ([d, s, k, o, n] ++ rest.take n.toNat) = c1 ++ c0 from not_not.1 hcheck, (checkBytes_append c1 c0).1,
          (checkBytes_append c1 c0).2, ← hdrop, List.take_append_drop]
    next => cases hread
  next => cases hread

/-- Settles O55. -/
theorem framesAreReadAsTheyAreSent : Obligations.FramesAreReadAsTheyAreSent := by
  refine ⟨fun bytes f => ⟨wire_of_readFrame, ?_⟩, fun port bytes hnot => ?_⟩
  · rintro ⟨hf, tail, rfl⟩
    exact readFrame_wire hf tail
  · cases hread : readFrame bytes with
    | none =>
      unfold arrival
      rw [hread]
    | some f =>
      obtain ⟨⟨hdst, -, -, -, hlength⟩, tail, hbytes⟩ := wire_of_readFrame hread
      exact absurd hbytes (hnot f tail hdst hlength)

end Sys2Proof.Machine
end

section
/-! The power-on values and the laws of the reset state (R176, R152): O4 and O56. -/

set_option Elab.async false

namespace Sys2Proof.Machine

variable {s t u : State} {straps : BitVec 3}

/-! ## Power-on (R39, R54, R81, R93, R115, R132, R141, R161) -/

/-- The blocks that RST leaves at their power-on values, whatever the pins (R176). -/
structure Blank (t : State) : Prop where
  eyes : t.eyes = State.powerOn.eyes
  track : t.track = {}
  cars : t.cars = []
  nextTag : t.nextTag = 1
  gate : t.gate = {}
  timing : t.timing = {}
  map : t.map = {}
  book : t.book = {}
  tallies : t.tallies = Vector.replicate 16 {}
  uptime : t.clock.uptime = 0
  count : t.belt.count = 0

theorem poweredOn_of_blank (h : Blank t) (hraw : t.belt.lastRaw = none) (hencoder : t.belt.encoder = 0) (hpacer : t.pacer = {})
    (hseq : t.seq = {}) (hhalt : t.halt.state = .clear ∧ t.halt.log = [] ∧ t.halt.nextNumber = 1)
    (hring : ∃ stamp tx, t.ring = { nextStamp := stamp, tx := tx }) (hoffice : ∃ address, t.office = { address := address }) :
    PoweredOn t := by
  obtain ⟨stamp, tx, hring⟩ := hring
  obtain ⟨address, hoffice⟩ := hoffice
  refine
    { uptime := h.uptime
      belt := ⟨h.count, hraw, hencoder⟩
      eyes := fun e => ?_
      track := h.track
      cars := ⟨h.cars, h.nextTag⟩
      gate := h.gate
      pacer := hpacer
      timing := h.timing
      table := fun i => ?_
      aliases := fun i => ?_
      stations := fun i => ?_
      orders := by rw [hseq]
      plans := fun k => ?_
      options := fun k => ?_
      codes := fun k => ?_
      sales := ⟨fun k => ?_, by rw [h.book], by rw [h.book]⟩
      tallies := fun k => ?_
      halt := hhalt
      ring := by rw [hring]; exact ⟨rfl, rfl, rfl, rfl, rfl, rfl, rfl, rfl, rfl, rfl, rfl, rfl, rfl, rfl⟩
      windows := fun k => ?_
      office := by rw [hoffice]; exact ⟨rfl, rfl, rfl, rfl, rfl, rfl⟩ }
  · rw [h.eyes]
    exact Vector.getElem_replicate _
  · rw [h.map]
    exact Vector.getElem_replicate _
  · rw [h.map]
    exact Vector.getElem_replicate _
  · rw [hseq]
    exact Vector.getElem_replicate _
  · rw [h.book]
    exact Vector.getElem_replicate _
  · rw [h.book]
    exact Vector.getElem_replicate _
  · rw [h.book]
    exact Vector.getElem_replicate _
  · rw [h.book]
    exact Vector.getElem_replicate _
  · rw [h.tallies]
    exact Vector.getElem_replicate _
  · rw [hoffice]
    exact Vector.getElem_replicate _

/-! ## The state after RST_RELEASE -/

theorem released_blank (s : State) (straps : BitVec 3) (estop : Level) : Blank (s.released straps estop) :=
  ⟨rfl, rfl, rfl, rfl, rfl, rfl, rfl, rfl, rfl, rfl, rfl⟩

theorem exec_rstRelease (s : State) (straps : BitVec 3) (estop : Level) : exec (.rstRelease straps estop) s =
    .next ((s.released straps estop).firstBroadcast estop).officeKick := rfl

theorem Office.kick_empty (address : Nat) (l : Level) : ({ address := address } : Office).kick l = { address := address } := by
  cases l <;> rfl

/-- After a release with the ESTOP pin released a RING_CHECK with stamp 0 is being sent (R176). -/
theorem released_parts (s : State) (straps : BitVec 3)
    (ht : t = ((s.released straps .released).firstBroadcast .released).officeKick) :
    Blank t ∧ t.pins = { rst := .released, straps := straps, ohold := s.pins.ohold } ∧ t.belt = { silence := some 100 } ∧
    t.pacer = {} ∧ t.seq = {} ∧ t.halt = { estop := .released, line := .released } ∧
    t.ring = { nextStamp := 1, tx := some (.broadcast .ringCheck 0) } ∧ t.office = { address := 96 + straps.toNat } ∧
    t.pending = s.pending := by
  subst ht
  have hbroadcast : ({} : Ring).periodic .clear = { nextStamp := 1, tx := some (.broadcast .ringCheck 0) } := rfl
  exact ⟨⟨rfl, rfl, rfl, rfl, rfl, rfl, rfl, rfl, rfl, rfl, rfl⟩, rfl, rfl, rfl, rfl, rfl, hbroadcast, Office.kick_empty _ _, rfl⟩

/-- The cause of a release with the ESTOP pin asserted (R152). -/
def estopAtReset : Cause := { kind := .estop, belt := 0, uptime := 0 }

theorem notify_enterHalting (s : State) (n : Notice) :
    (s.notify n).enterHalting.pacer = s.pacer ∧ (s.notify n).enterHalting.seq = s.seq ∧
    (s.notify n).enterHalting.gate = s.gate ∧ (s.notify n).enterHalting.ring = s.ring := by
  have hnotify := notify_touches s n
  rw [enterHalting_eq]
  exact ⟨hnotify.pacer, hnotify.seq, hnotify.gate, hnotify.ring⟩

/-- What the halt actions of a first cause leave in the blocks that take them (R145). -/
theorem openBy_blocks (c : Cause) :
    (s.openBy c).pacer = s.pacer.halted s.timing.driveStop ∧
    (∀ i : StationId, (s.openBy c).seq.stations[i] =
      s.seq.stations[i].halted s.map.table[i].kind s.map.aliases[i] s.map.table[i].busy) ∧
    (s.gate.phase ≠ .calling → s.gate.phase ≠ .rolling → (s.openBy c).gate = s.gate) ∧
    (s.openBy c).ring = s.ring.haltedRing s.pacer.drive := by
  have hrest : s.openBy c = ((s.newIncident c).haltActions.notify (.incidentOpen s.freeIncidentNumber c)).enterHalting := rfl
  have hnew := newIncident_touches s c
  obtain ⟨hpacer, hseq, hgate, hring⟩ :=
    notify_enterHalting (s.newIncident c).haltActions (.incidentOpen s.freeIncidentNumber c)
  refine ⟨hpacer.trans ?_, fun i => ?_, fun hcalling hrolling => hgate.trans ?_, hring.trans ?_⟩
  · rw [haltActions_pacer, hnew.pacer, hnew.timing]
  · have hstation := haltActions_station (s := s.newIncident c) i
    rw [hnew.seq, hnew.map] at hstation
    rw [hrest, hseq, hstation]
  · rw [haltActions_gate, hnew.gate]
    exact if_neg (not_or.mpr ⟨hcalling, hrolling⟩)
  · rw [haltActions_ring, hnew.ring, hnew.pacer]

/-- After a release with the ESTOP pin asserted the part stands in incident 1 with the belt known to stand still (R152). -/
theorem asserted_parts (s : State) (straps : BitVec 3)
    (ht : t = ((s.released straps .asserted).firstBroadcast .asserted).officeKick) :
    t.cars = [] ∧ t.gate = {} ∧ t.belt = { silence := some 100 } ∧ t.pacer = ({} : Pacer).halted 3000 ∧
    (∀ i : StationId, t.seq.stations[i] = {}) ∧
    t.halt =
      { state := .halted, nextNumber := 2, estop := .asserted, line := .asserted
        log := [{ number := 1, state := .unacked, primary := estopAtReset, secondary := [], more := 0, opened := 0,
                  closed := none }] } ∧
    t.ring = { nextStamp := 1, tx := some (.broadcast .allStop 0) } ∧
    ({ address := 96 + straps.toNat } : Office).sends t.office [] [.incidentOpen 1 estopAtReset] := by
  have hblank := released_blank s straps .asserted
  generalize hv : s.released straps .asserted = v at *
  have hpacer : v.pacer = {} := by rw [← hv]; rfl
  have hring : v.ring = {} := by rw [← hv]; rfl
  have hseq : v.seq = {} := by rw [← hv]; rfl
  have hbelt : v.belt = { silence := some 100 } := by rw [← hv]; rfl
  have hhalt : v.halt = { estop := .asserted, line := .released } := by rw [← hv]; rfl
  have hoffice : v.office = { address := 96 + straps.toNat } := by rw [← hv]; rfl
  have hcause : v.causeNow .estop none none none none = estopAtReset := by
    unfold State.causeNow
    rw [hblank.uptime, hblank.count]
    rfl
  have hnumber : v.freeIncidentNumber = 1 := by
    unfold State.freeIncidentNumber State.incidentNumberHeld
    rw [hhalt]
    rfl
  have hopen : v.firstBroadcast .asserted = v.openBy estopAtReset := by
    rw [← hcause]
    exact raise_eq_openBy (by rw [hhalt]) (by decide)
  rw [hopen] at ht
  obtain ⟨hpacer', hstations, hgate', hring'⟩ := openBy_blocks (s := v) estopAtReset
  have hcars' := openBy_cars v estopAtReset
  have hhalt' := openBy_halt (s := v) estopAtReset
  have hbelt' := (openBy_touches v estopAtReset).belt
  have hsends := (openBy_queues (s := v) estopAtReset (by rw [hoffice]; exact Nat.zero_lt_succ _)).kick
  have hsame := SameButOffice.kick (v.openBy estopAtReset)
  rw [← ht] at hsame hsends
  rw [hnumber] at hsends hhalt'
  rw [hpacer, hblank.timing] at hpacer'
  rw [hring, hpacer] at hring'
  have hstation (i : StationId) : (v.openBy estopAtReset).seq.stations[i] = {} := by
    have hidle : ({} : Sequencer).stations[i] = {} := Vector.getElem_replicate _
    have hentry : ({} : StationMap).table[i] = {} := Vector.getElem_replicate _
    rw [hstations, hseq, hblank.map, hidle, hentry]
    rfl
  have hsettled : (v.openBy estopAtReset).settled = true := by
    unfold State.settled
    rw [List.all_eq_true]
    intro i _
    rw [hstation]
    simp
  have hstate : (v.openBy estopAtReset).haltedOrHalting = .halted := if_pos ⟨hsettled, by rw [hpacer']; rfl⟩
  rw [hstate, hhalt] at hhalt'
  refine ⟨hsame.cars.trans ?_, hsame.gate.trans ?_, (hsame.belt.trans hbelt').trans hbelt, hsame.pacer.trans hpacer', fun i => ?_,
    hsame.halt.trans hhalt', hsame.ring.trans hring', hoffice ▸ hsends.2⟩
  · rw [hcars', hblank.cars]
    rfl
  · rw [hgate' (by rw [hblank.gate]; decide) (by rw [hblank.gate]; decide), hblank.gate]
  · rw [hsame.seq]
    exact hstation i

/-- Settles O4. -/
theorem resetLeavesPowerOnValues : Obligations.ResetLeavesPowerOnValues := by
  unfold Obligations.ResetLeavesPowerOnValues
  refine ⟨fun s straps => ⟨?_, ?_⟩, fun s straps => ?_⟩
  · have hblank : Blank s.held := ⟨rfl, rfl, rfl, rfl, rfl, rfl, rfl, rfl, rfl, rfl, rfl⟩
    exact ⟨s.held, rfl, poweredOn_of_blank hblank rfl rfl rfl rfl ⟨rfl, rfl, rfl⟩ ⟨0, none, rfl⟩ ⟨96, rfl⟩, rfl, rfl, rfl, rfl⟩
  · obtain ⟨hblank, hpins, hbelt, hpacer, hseq, hhalt, hring, hoffice, hpending⟩ := released_parts s straps rfl
    have hpowered := poweredOn_of_blank hblank (by rw [hbelt]) (by rw [hbelt]) hpacer hseq (by rw [hhalt]; exact ⟨rfl, rfl, rfl⟩)
      ⟨_, _, hring⟩ ⟨_, hoffice⟩
    exact ⟨_, exec_rstRelease s straps .released, hpowered, hpins, by rw [hhalt], by rw [hhalt], by rw [hbelt], by rw [hoffice],
      by rw [hring], by rw [hring], hpending⟩
  · obtain ⟨hcars, hgate, hbelt, hpacer, hseq, hhalt, hring, hout, haddress, _⟩ := asserted_parts s straps rfl
    refine ⟨_, exec_rstRelease s straps .asserted, hhalt, by rw [hring], by rw [hring], by rw [hring], ?_, ?_, ?_, ?_, hseq, hcars,
      hgate, by rw [hbelt], haddress, hout⟩ <;> rw [hpacer] <;> rfl

/-! ## The laws of the reset state -/

theorem State.safe_of_upholds (hupholds : ∀ l, t.Upholds l) (hhalt : t.HaltLawful) (horders : t.orderLaw) (hspeed : t.pacer.speedLaw)
    (hring : t.ring.law) (hoffice : t.office.law) : t.Safe where
  halt := (haltLawful_iff.mp hhalt).1
  start := (haltLawful_iff.mp hhalt).2
  newest := (hupholds .newest).1
  log := hupholds .log
  list := hupholds .list
  sets := hupholds .sets
  engaged := (hupholds .engaged).2
  tally := (hupholds .tally).2
  room := (hupholds .room).2
  sales := (hupholds .sales).2.2
  orders := horders
  speed := hspeed
  ring := hring
  office := hoffice

/-- R102 holds where no order was ever issued. -/
theorem State.orderLaw_of_empty (horder : t.ring.order = []) (hstations : ∀ i : StationId, t.seq.stations[i] = {}) (hgate : t.gate = {})
    (hstart : t.pacer.startTimer = none) : t.orderLaw := by
  have htimers (i : StationId) (htimer : t.seq.stations[i].timer.isSome = true) :
      ∃ o, t.seq.stations[i].current = some o ∧ o.transmitted = true := by
    rw [hstations] at htimer
    cases htimer
  unfold State.orderLaw
  rw [horder, hgate, hstart]
  exact ⟨nofun, .nil, Nat.zero_le _, htimers, nofun, nofun, nofun, nofun⟩

/-- A SAFETY queue and the others may be empty while the first broadcast is being sent (R170). -/
theorem Ring.law_of_empty (stamp : Nat) (tx : Option RingFrame) : ({ nextStamp := stamp, tx := tx } : Ring).law := by
  refine ⟨fun c f hf => ?_, ?_⟩
  · cases c <;> cases hf
  · exact ⟨Nat.zero_le _, Nat.zero_le _, Nat.zero_le _, Nat.zero_le _, Nat.zero_le _, Nat.zero_le _, Nat.zero_le _, Nat.zero_le _⟩

/-- What waits in the office port bounds its queues (R175). -/
theorem Office.law_of_outgoing {o : Office} (hout : o.outgoing.length ≤ 8) (hbad : o.badFrames = 0) : o.law := by
  simp only [Office.outgoing, List.length_append, List.length_map] at hout
  unfold Office.law
  omega

theorem speedLaw_powerOn : ({} : Pacer).speedLaw := by
  unfold Pacer.speedLaw
  decide

theorem speedLaw_halted : (({} : Pacer).halted 3000).speedLaw := by
  unfold Pacer.speedLaw
  decide

theorem reset_safe : State.reset.Safe := by
  have hupholds := powerOn_upholds (t := State.reset) rfl rfl rfl rfl rfl rfl rfl
  have horders : State.reset.orderLaw :=
    State.orderLaw_of_empty rfl (fun i => Vector.getElem_replicate _) rfl rfl
  exact State.safe_of_upholds hupholds (.inl (powerOn_runs rfl rfl rfl)) horders speedLaw_powerOn (Ring.law_of_empty _ _)
    (Office.law_of_outgoing (by decide) rfl)

/-- Settles O56: the laws of the lists and of R148 hold after every command, and the others at the power-on values. -/
theorem resetIsSafe : Obligations.ResetIsSafe := by
  unfold Obligations.ResetIsSafe
  refine ⟨reset_safe, fun s straps estop => ⟨_, exec_rstRelease s straps estop, ?_⟩⟩
  have hupholds (l : Law) := execRstRelease_leads (l := l) straps estop s _ (exec_rstRelease s straps estop)
  have hlawful := execRstRelease_keeps straps estop s _ (exec_rstRelease s straps estop)
  cases estop with
  | released =>
    obtain ⟨_, _, _, hpacer, hseq, _, hring, hoffice, _⟩ := released_parts s straps rfl
    obtain ⟨hblank, _⟩ := released_parts s straps rfl
    refine State.safe_of_upholds hupholds hlawful (State.orderLaw_of_empty ?_ (fun i => ?_) hblank.gate ?_) ?_ ?_ ?_
    · rw [hring]
    · rw [hseq]
      exact Vector.getElem_replicate _
    · rw [hpacer]
    · rw [hpacer]
      exact speedLaw_powerOn
    · rw [hring]
      exact Ring.law_of_empty _ _
    · rw [hoffice]
      exact Office.law_of_outgoing (Nat.zero_le _) rfl
  | asserted =>
    obtain ⟨_, hgate, _, hpacer, hstations, _, hring, hout, hsettings⟩ := asserted_parts s straps rfl
    obtain ⟨_, _, _, _, hbad⟩ := hsettings
    refine State.safe_of_upholds hupholds hlawful (State.orderLaw_of_empty ?_ hstations hgate ?_) ?_ ?_ ?_
    · rw [hring]
    · rw [hpacer]
      rfl
    · rw [hpacer]
      exact speedLaw_halted
    · rw [hring]
      exact Ring.law_of_empty _ _
    · exact Office.law_of_outgoing (by rw [hout]; exact Nat.le_of_ble_eq_true rfl) hbad

end Sys2Proof.Machine
end

section
/-! The trigger tests of the Station Sequencer (R97 to R100): O53. -/

set_option Elab.async false

namespace Sys2Proof.Machine

variable {s u : State} {i : StationId} {c : Car} {tag lead : Nat}

/-! ## Records and orders written out -/

/-- The cars with one service of the car of a tag recorded as missed (R96). -/
theorem recordMissed_eq_map (s : State) (tag : Nat) (i : StationId) : s.recordMissed tag i =
    { s with cars := s.cars.map fun k =>
        if k.tag = tag ∧ k.unsettled i = true then { k with missed := k.missed ||| stationBit i } else k } := by
  have hcar (k : Car) : (if k.tag = tag then k.recordMissed i else k) =
      if k.tag = tag ∧ k.unsettled i = true then { k with missed := k.missed ||| stationBit i } else k := by
    unfold Car.recordMissed
    rw [ite_and]
  unfold State.recordMissed State.onCars changeCar
  simp only [hcar]

/-- The cars with one service of the car of a tag recorded as served (R96). -/
theorem recordServed_eq_map (s : State) (tag : Nat) (i : StationId) : s.recordServed tag i =
    { s with cars := s.cars.map fun k =>
        if k.tag = tag ∧ k.unsettled i = true then { k with served := k.served ||| stationBit i } else k } := by
  have hcar (k : Car) : (if k.tag = tag then k.recordServed i else k) =
      if k.tag = tag ∧ k.unsettled i = true then { k with served := k.served ||| stationBit i } else k := by
    unfold Car.recordServed
    rw [ite_and]
  unfold State.recordServed State.onCars changeCar
  simp only [hcar]

theorem stationed_eq (s : State) (i : StationId) (st : Station) :
    s.stationed i st = { s with seq := { s.seq with stations := s.seq.stations.set i st } } := rfl

theorem ordered_eq (s : State) (i : StationId) (a : Action) (car : Option Nat) (st : Station) : s.ordered i a car st =
    { s with
      seq := {
        nextNumber := nextInSequence 255 s.freeOrderNumber
        stations := s.seq.stations.set i { st with current := some {
          action := a, number := some s.freeOrderNumber, car := car, transmitted := false
          wait := s.map.table[i].kind.firstWait, positionSeen := false } } }
      ring := s.ring.push .order (.order s.map.aliases[i] s.freeOrderNumber a i.val) } := by
  unfold State.ordered State.takeOrderNumber State.pushOrder State.newOrder
  rw [stationed_eq]
  rfl

/-- A request for a station stays pending behind an order in flight, or sends its frame (R102). -/
theorem requestOrder_eq (s : State) (i : StationId) (a : Action) (car : Option Nat) {st : Station}
    (hst : st.current = s.seq.stations[i].current) :
    (s.stationed i st).requestOrder i a car =
      if s.seq.stations[i].current.isSome = true then s.stationed i { st with queued := some a } else s.ordered i a car st := by
  split
  next hbusy => exact requestOrder_busy (by rw [hst]; exact hbusy) a car
  next hfree =>
    rw [Option.not_isSome_iff_eq_none] at hfree
    exact requestOrder_free (hst.trans hfree) hfree a car

/-! ## The trigger points -/

/-- The on point of a station (R98). -/
theorem onPoint_eq (e : StationEntry) (speed : Nat)
    (hlead : lead = if e.kind = .arm then (speed * e.travel + 15999) / 16000 else 0) :
    e.onPoint speed = (e.windowStart : Int) - e.front - lead := by
  unfold StationEntry.onPoint StationEntry.lead
  rw [hlead]
  cases e.kind <;> rfl

theorem reachesOn_iff (s : State) (i : StationId) (c : Car)
    (hlead : lead = if s.map.table[i].kind = .arm then (s.pacer.speed * s.map.table[i].travel + 15999) / 16000 else 0) :
    s.reachesOn i c = true ↔ c.unsettled i = true ∧ s.seq.stations[i].car ≠ some c.tag ∧
      (s.map.table[i].windowStart : Int) - s.map.table[i].front - lead ≤ (c.front s.belt.count).toNat := by
  unfold State.reachesOn
  rw [onPoint_eq _ _ hlead]
  simp only [Bool.and_eq_true, bne_iff_ne, ne_eq, decide_eq_true_eq, and_assoc]

theorem windowPassed_iff (s : State) (i : StationId) (c : Car) : s.windowPassed i c = true ↔
    ∃ rear, c.rear s.belt.count = some rear ∧ s.map.table[i].windowEnd + s.map.table[i].rear ≤ (rear.toNat : Int) := by
  unfold State.windowPassed StationEntry.offPoint
  cases c.rear s.belt.count with
  | none => simp
  | some rear => simp

theorem onTest_eq (hc : carByTag s.cars tag = some c) : s.onTest i tag = if s.reachesOn i c then s.onTrigger i c else s := by
  unfold State.onTest
  rw [hc]

/-! ## The on trigger (R98, R100) -/

/-- A bypassed or failed station, or one whose window the car has passed, misses the service (R98). -/
theorem onTrigger_missed
    (h : s.map.aliases[i] = 0 ∨ s.seq.stations[i].phase = .fault ∨ s.windowPassed i c = true) :
    s.onTrigger i c = s.recordMissed c.tag i := by
  unfold State.onTrigger
  split
  next => rfl
  next hserving =>
    obtain ⟨halias, hfault⟩ := not_or.mp hserving
    rw [if_pos ((h.resolve_left halias).resolve_left hfault)]

/-- An available station whose window lies ahead takes the car, or is busy (R98, R100). -/
theorem onTrigger_taken (halias : s.map.aliases[i] ≠ 0) (hfault : s.seq.stations[i].phase ≠ .fault)
    (hwindow : ¬ s.windowPassed i c = true) :
    s.onTrigger i c = if s.seq.stations[i].phase = .idle then s.onTriggerIdle i c.tag else s.onTriggerBusy i c.tag := by
  unfold State.onTrigger
  rw [if_neg (not_or.mpr ⟨halias, hfault⟩), if_neg hwindow]

/-- The phase of a station that takes a car (R98, R100). -/
def Station.takingPhase (st : Station) (kind : StationKind) : StationPhase :=
  if st.phase = .releasing then .releasing else if kind = .posted then .engaged else .engaging

/-- The phase follows the request, whether its frame was sent or not. -/
theorem setStationPhase_requested (hclear : s.halt.state = .clear) (a : Action) (car : Option Nat) (p : StationPhase) {st : Station}
    (hst : st.current = s.seq.stations[i].current) :
    ((s.stationed i st).requestOrder i a car).setStationPhase i p =
      if s.seq.stations[i].current.isSome = true then s.stationed i { st with queued := some a, phase := p }
      else s.ordered i a car { st with phase := p } := by
  have hhalt : ((s.stationed i st).requestOrder i a car).halt.state = .clear := by
    rw [(requestOrder_touches _ _ _ _).halt]
    exact hclear
  rw [setStationPhase_quiet (.inr (by rw [hhalt]; decide)), requestOrder_eq s i a car hst]
  split
  next => exact stationed_onStation s i _ _
  next => exact ordered_phase s i a car st p

/-- An IDLE station, or one in RELEASING without a car, takes the car and requests its ON or IN (R98, R100). -/
theorem onTrigger_takes (hclear : s.halt.state = .clear) (halias : s.map.aliases[i] ≠ 0) (hwindow : ¬ s.windowPassed i c = true)
    (hfree : s.seq.stations[i].phase = .idle ∨ (s.seq.stations[i].phase = .releasing ∧ s.seq.stations[i].car = none)) :
    s.onTrigger i c =
      if s.seq.stations[i].current.isSome = true then
        s.stationed i { s.seq.stations[i] with
          car := some c.tag
          queued := some s.map.table[i].kind.onAction
          phase := s.seq.stations[i].takingPhase s.map.table[i].kind }
      else
        s.ordered i s.map.table[i].kind.onAction (some c.tag) { s.seq.stations[i] with
          car := some c.tag
          phase := s.seq.stations[i].takingPhase s.map.table[i].kind } := by
  rcases hfree with hidle | ⟨hreleasing, hcar⟩
  · have hphase : s.seq.stations[i].takingPhase s.map.table[i].kind =
        if s.map.table[i].kind = .posted then .engaged else .engaging := by
      unfold Station.takingPhase
      rw [hidle]
      exact if_neg (by decide)
    rw [onTrigger_taken halias (by rw [hidle]; decide) hwindow, if_pos hidle, hphase]
    exact setStationPhase_requested hclear _ _ _ (st := { s.seq.stations[i] with car := some c.tag }) rfl
  · have hphase : s.seq.stations[i].takingPhase s.map.table[i].kind = s.seq.stations[i].phase := by
      unfold Station.takingPhase
      rw [hreleasing]
      exact if_pos rfl
    rw [onTrigger_taken halias (by rw [hreleasing]; decide) hwindow, if_neg (by rw [hreleasing]; decide), hphase]
    unfold State.onTriggerBusy
    rw [hcar]
    exact requestOrder_eq s i _ _ (st := { s.seq.stations[i] with car := some c.tag }) rfl

/-- A POSTED station that serves another car hands over without a frame (R100). -/
theorem onTrigger_handsOver (halias : s.map.aliases[i] ≠ 0) (hwindow : ¬ s.windowPassed i c = true)
    (hengaged : s.seq.stations[i].phase = .engaged) (hposted : s.map.table[i].kind = .posted)
    (hcar : s.seq.stations[i].car = some tag) :
    s.onTrigger i c = (s.recordServed tag i).stationed i { s.seq.stations[i] with car := some c.tag } := by
  rw [onTrigger_taken halias (by rw [hengaged]; decide) hwindow, if_neg (by rw [hengaged]; decide)]
  unfold State.onTriggerBusy
  rw [hcar]
  dsimp only
  rw [if_pos hposted]
  rfl

/-- Any other station that serves another car is crowded (R100). -/
theorem onTrigger_crowds (halias : s.map.aliases[i] ≠ 0) (hwindow : ¬ s.windowPassed i c = true)
    (hidle : s.seq.stations[i].phase ≠ .idle) (hfault : s.seq.stations[i].phase ≠ .fault)
    (hposted : s.map.table[i].kind ≠ .posted) (hcar : s.seq.stations[i].car = some tag) :
    s.onTrigger i c = s.crowdStation i tag c.tag := by
  rw [onTrigger_taken halias hfault hwindow, if_neg hidle]
  unfold State.onTriggerBusy
  rw [hcar]
  dsimp only
  rw [if_neg hposted]

/-- The state of a station that was crowded, before CROWDED is sent (R100). -/
def State.crowded (s : State) (i : StationId) (ahead : Nat) : State :=
  if s.seq.stations[i].current.isSome = true then
    s.stationed i { s.seq.stations[i] with car := none, phase := .releasing, queued := some s.map.table[i].kind.offAction }
  else
    s.ordered i s.map.table[i].kind.offAction (some ahead) { s.seq.stations[i] with car := none, phase := .releasing }

/-- A station gives up its car after both services were missed, or before. -/
theorem missed_released (hclear : u.halt.state = .clear) (ahead behind : Nat) :
    ((((u.recordMissed ahead i).recordMissed behind i).onStation i fun st => { st with car := none }).setStationPhase i .releasing) =
      ((u.onStation i fun st => { st with car := none, phase := .releasing }).recordMissed ahead i).recordMissed behind i := by
  generalize hv : (u.recordMissed ahead i).recordMissed behind i = v
  have hmissed : Touches [.cars] u v :=
    hv ▸ (recordMissed_touches u ahead i).andThen (recordMissed_touches _ behind i)
  have hhalt : (v.onStation i fun st => { st with car := none }).halt.state = .clear := by
    rw [(onStation_touches v i _).halt, hmissed.halt]
    exact hclear
  rw [setStationPhase_quiet (.inr (by rw [hhalt]; decide)), onStation_onStation, ← hv]
  rfl

/-- A change of the station's record after an order was issued leaves the order alone. -/
theorem ordered_onStation (s : State) (i : StationId) (a : Action) (car : Option Nat) (st : Station) (f : Station → Station)
    (hf : f { st with current := some (s.newOrder i a car) } = { f st with current := some (s.newOrder i a car) }) :
    (s.ordered i a car st).onStation i f = s.ordered i a car (f st) := by
  have hinner := stationed_onStation s.takeOrderNumber i { st with current := some (s.newOrder i a car) } f
  rw [hf] at hinner
  exact congrArg (fun u : State => u.pushOrder s.map.aliases[i] s.freeOrderNumber a i.val) hinner

/-- The services of both cars are missed, and one CROWDED is sent (R100). -/
theorem crowdStation_eq (hclear : s.halt.state = .clear) (ahead behind : Nat) :
    s.crowdStation i ahead behind =
      (((s.crowded i ahead).recordMissed ahead i).recordMissed behind i).notify (.crowded i.val ahead behind) := by
  have hself : s.stationed i s.seq.stations[i] = s := by
    rw [stationed_eq]
    simp
  have hrequest := requestOrder_eq s i s.map.table[i].kind.offAction (some ahead) (st := s.seq.stations[i]) rfl
  rw [hself] at hrequest
  unfold State.crowdStation State.crowded
  dsimp only
  rw [hrequest]
  split
  next => rw [missed_released (u := s.stationed i _) hclear, stationed_onStation]
  next => rw [missed_released (u := s.ordered i _ _ _) hclear, ordered_onStation _ _ _ _ _ _ rfl]

/-! ## The on test (R97 to R100) -/

theorem onTest_reached
    (hlead : lead = if s.map.table[i].kind = .arm then (s.pacer.speed * s.map.table[i].travel + 15999) / 16000 else 0)
    (hc : carByTag s.cars c.tag = some c)
    (hfront : (s.map.table[i].windowStart : Int) - s.map.table[i].front - lead ≤ (c.front s.belt.count).toNat)
    (hunsettled : c.unsettled i = true) (hcar : s.seq.stations[i].car ≠ some c.tag) : s.onTest i c.tag = s.onTrigger i c := by
  rw [onTest_eq hc, if_pos ((reachesOn_iff s i c hlead).mpr ⟨hunsettled, hcar, hfront⟩)]

theorem not_windowPassed
    (h : ∀ rear, c.rear s.belt.count = some rear → (rear.toNat : Int) < s.map.table[i].windowEnd + s.map.table[i].rear) :
    ¬ s.windowPassed i c = true := by
  rw [windowPassed_iff]
  rintro ⟨rear, hrear, hpassed⟩
  exact absurd hpassed (not_le.mpr (h rear hrear))

/-- The services of two cars, missed one after the other. -/
theorem recordMissed_recordMissed_cars (s : State) (i : StationId) {ahead behind : Nat} (h : ahead ≠ behind) :
    ((s.recordMissed ahead i).recordMissed behind i).cars = s.cars.map fun k =>
      if (k.tag = ahead ∨ k.tag = behind) ∧ k.unsettled i = true then { k with missed := k.missed ||| stationBit i } else k := by
  rw [recordMissed_eq_map, recordMissed_eq_map]
  show List.map _ (List.map _ s.cars) = _
  rw [List.map_map]
  refine List.map_congr_left fun k _ => ?_
  by_cases hfirst : k.tag = ahead ∧ k.unsettled i = true
  · obtain ⟨hahead, hunsettled⟩ := hfirst
    simp [hahead, hunsettled, h]
  · have hsecond : ((k.tag = ahead ∨ k.tag = behind) ∧ k.unsettled i = true) ↔ (k.tag = behind ∧ k.unsettled i = true) := by tauto
    simp only [Function.comp_apply, if_neg hfirst, hsecond]

theorem crowded_touches (s : State) (i : StationId) (ahead : Nat) : Touches [.seq, .ring] s (s.crowded i ahead) := by
  unfold State.crowded
  split
  next => exact (onStation_touches s i _).mono (by decide)
  next => exact ((takeOrderNumber_touches s).andThen (onStation_touches _ i _) (hs := [.seq, .ring])).andThen (pushOrder_touches _ _ _ _ _)

/-- A crowded station gives up its car, and one CROWDED is sent (R100). -/
theorem crowdStation_does (hclear : s.halt.state = .clear) (hroom : s.noticeRoom 1) {ahead behind : Nat} (h : ahead ≠ behind) :
    (s.crowdStation i ahead behind).cars = s.cars.map (fun k =>
      if (k.tag = ahead ∨ k.tag = behind) ∧ k.unsettled i = true then { k with missed := k.missed ||| stationBit i } else k) ∧
    Sends [.cars, .seq, .ring] s (s.crowdStation i ahead behind) [] [.crowded i.val ahead behind] ∧
    (s.crowdStation i ahead behind).seq = (s.crowded i ahead).seq ∧
    (s.crowdStation i ahead behind).ring = (s.crowded i ahead).ring := by
  rw [crowdStation_eq hclear]
  generalize hu : s.crowded i ahead = u
  have hcrowded : Touches [.seq, .ring] s u := hu ▸ crowded_touches s i ahead
  have hmissed : Touches [.cars] u ((u.recordMissed ahead i).recordMissed behind i) :=
    (recordMissed_touches u ahead i).andThen (recordMissed_touches _ behind i)
  generalize hv : (u.recordMissed ahead i).recordMissed behind i = v at hmissed
  have hnotify := notify_touches v (.crowded i.val ahead behind)
  have hbefore : Touches [.cars, .seq, .ring] s v := hcrowded.andThen hmissed
  have hqueues := (Queues.of_touches hbefore).andThen
    (Queues.notify v (.crowded i.val ahead behind) (by rw [hbefore.office]; exact hroom)) (hs := [.cars, .seq, .ring])
  refine ⟨?_, hqueues.sends, ?_, ?_⟩
  · rw [hnotify.cars, ← hv, recordMissed_recordMissed_cars u i h, hcrowded.cars]
  · rw [hnotify.seq, hmissed.seq]
  · rw [hnotify.ring, hmissed.ring]

/-! ## The off test (R99) -/

theorem offTest_eq (hc : carByTag s.cars c.tag = some c) (hcar : s.seq.stations[i].car = some c.tag) {rear : BitVec 32}
    (hrear : c.rear s.belt.count = some rear) : s.offTest i =
      if (s.map.table[i].windowEnd : Int) + s.map.table[i].rear ≤ rear.toNat then s.releaseStation i false else s := by
  have hbound : (s.seq.stations[i].car.bind fun tag => carByTag s.cars tag) = some c := by
    rw [hcar]
    exact hc
  unfold State.offTest
  rw [hbound, Option.bind_some, hrear]
  rfl

/-- A station that serves no car with a length makes no release. -/
theorem offTest_none (h : ∀ tag c, s.seq.stations[i].car = some tag → carByTag s.cars tag = some c → c.length = none) :
    s.offTest i = s := by
  have hnone : ((s.seq.stations[i].car.bind fun tag => carByTag s.cars tag).bind fun c => c.rear s.belt.count) = none := by
    rw [Option.bind_eq_none_iff]
    intro c hc
    obtain ⟨tag, htag, hbound⟩ := Option.bind_eq_some_iff.mp hc
    unfold Car.rear
    rw [h tag c htag hbound]
    rfl
  unfold State.offTest
  rw [hnone]

/-- The off trigger's record of a service (R99). -/
theorem recordService_off (s : State) (i : StationId) (tag : Nat) :
    s.recordService tag i (s.seq.stations[i].phase == .engaged && !false) =
      { s with cars := s.cars.map fun k =>
          if k.tag = tag ∧ k.unsettled i = true then
            (if s.seq.stations[i].phase = .engaged then { k with served := k.served ||| stationBit i }
            else { k with missed := k.missed ||| stationBit i })
          else k } := by
  unfold State.recordService
  by_cases hengaged : s.seq.stations[i].phase = .engaged
  · simp only [hengaged, recordServed_eq_map]
    rfl
  · rw [if_neg (by simpa using hengaged), recordMissed_eq_map]
    simp only [hengaged, if_false]

/-- The off trigger (R99). -/
theorem offTest_releases (hcar : s.seq.stations[i].car = some tag) (hidle : s.seq.stations[i].phase ≠ .idle)
    (hfault : s.seq.stations[i].phase ≠ .fault) {cars : List Car}
    (hcars : cars = s.cars.map fun k =>
      if k.tag = tag ∧ k.unsettled i = true then
        (if s.seq.stations[i].phase = .engaged then { k with served := k.served ||| stationBit i }
        else { k with missed := k.missed ||| stationBit i })
      else k) :
    s.releaseStation i false =
      if s.seq.stations[i].current.isSome = true then
        { s with
          cars := cars
          seq := { s.seq with stations := s.seq.stations.set i { s.seq.stations[i] with
            phase := if s.map.table[i].kind = .posted then .idle else .releasing
            car := none
            queued := some (if s.map.table[i].kind = .arm then .out else .off) } } }
      else
        { s with
          cars := cars
          seq := {
            nextNumber := nextInSequence 255 s.freeOrderNumber
            stations := s.seq.stations.set i { s.seq.stations[i] with
              phase := if s.map.table[i].kind = .posted then .idle else .releasing
              car := none
              current := some {
                action := if s.map.table[i].kind = .arm then .out else .off
                number := some s.freeOrderNumber
                car := some tag
                transmitted := false
                wait := if s.map.table[i].kind = .posted then .ret else .ack
                positionSeen := false } } }
          ring := s.ring.push .order (.order s.map.aliases[i] s.freeOrderNumber
            (if s.map.table[i].kind = .arm then .out else .off) i.val) } := by
  rw [releaseStation_eq false hcar hidle hfault]
  have hrecorded := recordService_touches s tag i (s.seq.stations[i].phase == .engaged && !false)
  have hnumber := freeOrderNumber_of_touches hrecorded
  rw [ordered_eq, hnumber, stationed_eq, recordService_off, ← hcars, offAction_eq, firstWait_eq]

/-- Settles O53. -/
theorem stationTriggersAreTaken : Obligations.StationTriggersAreTaken := by
  unfold Obligations.StationTriggersAreTaken
  refine ⟨fun s i c lead hclear hc hlead => ⟨fun hfront => ?_, fun hsettled => ?_, fun hfront hunsettled hcar =>
    ⟨fun hmissed => ?_, fun halias hwindow => ⟨fun hfree => ?_, fun tag hengaged hposted hother => ?_,
      fun tag hidle hposted hother hfault hroom => ?_⟩⟩, fun rear hcar hrear => ⟨fun hbelow => ?_, fun hpassed hidle hfault => ?_⟩⟩,
    fun s i h => offTest_none h, fun s => ⟨fun hclear => if_neg hclear, fun hclear => if_pos hclear⟩⟩
  · rw [onTest_eq hc, if_neg]
    rw [reachesOn_iff s i c hlead]
    rintro ⟨-, -, hreached⟩
    exact absurd hreached (not_le.mpr hfront)
  · rw [onTest_eq hc, if_neg]
    rw [reachesOn_iff s i c hlead]
    rintro ⟨hunsettled, hcar, -⟩
    rcases hsettled with h | h
    · rw [h] at hunsettled
      cases hunsettled
    · exact hcar h
  · rw [onTest_reached hlead hc hfront hunsettled hcar, onTrigger_missed, recordMissed_eq_map]
    rwa [windowPassed_iff]
  · have htakes := onTrigger_takes hclear halias (not_windowPassed hwindow) hfree
    rw [ordered_eq, stationed_eq, onAction_eq, firstWait_eq] at htakes
    rw [onTest_reached hlead hc hfront hunsettled hcar, htakes]
    exact ⟨_, rfl, fun hnone => if_neg (by rw [hnone]; decide), fun hbusy => if_pos hbusy⟩
  · rw [onTest_reached hlead hc hfront hunsettled hcar, onTrigger_handsOver halias (not_windowPassed hwindow) hengaged hposted hother,
      stationed_eq, recordServed_eq_map]
  · have htags : tag ≠ c.tag := fun h => hcar (h ▸ hother)
    have hcrowds := onTrigger_crowds halias (not_windowPassed hwindow) hidle hfault hposted hother
    obtain ⟨hcars, hsends, hseq, hring⟩ := crowdStation_does (i := i) hclear hroom htags
    rw [← hcrowds, ← onTest_reached hlead hc hfront hunsettled hcar] at hcars hsends hseq hring
    refine ⟨_, rfl, hcars, hsends, fun hbusy => ?_, fun hnone => ?_⟩
    · rw [hseq, hring]
      unfold State.crowded
      rw [if_pos hbusy, offAction_eq]
      exact ⟨rfl, rfl⟩
    · rw [hseq, hring]
      unfold State.crowded
      rw [if_neg (by rw [hnone]; decide), ordered_eq, offAction_eq, firstWait_eq, if_neg hposted]
      exact ⟨rfl, rfl⟩
  · rw [offTest_eq hc hcar hrear, if_neg (not_le.mpr hbelow)]
  · have hreleases := offTest_releases hcar hidle hfault rfl
    rw [offTest_eq hc hcar hrear, if_pos hpassed, hreleases]
    exact ⟨_, rfl, fun hnone => if_neg (by rw [hnone]; decide), fun hbusy => if_pos hbusy⟩

end Sys2Proof.Machine
end

section
/-! The close of a car (R35, R108, R133 to R137): the settled record, outcome and credit, the tally row, and the hand-over. -/

set_option Elab.async false

namespace Sys2Proof.Machine

variable {s t u v : State} {car : Car} {reason : CloseReason} {tag : Nat}

/-! ## The settled record (R35, R96) -/

/-- The services that a close counts as served: those of the stations ENGAGED with the car, at an exit (R99, R108). -/
def State.servedAtClose (s : State) (car : Car) (reason : CloseReason) : StationSet :=
  BitVec.ofFnLE fun i : Fin 32 =>
    reason == .exit && s.seq.stations[i].car == some car.tag && s.seq.stations[i].phase == .engaged && car.unsettled i

theorem servedAtClose_getLsbD (i : StationId) : (s.servedAtClose car reason).getLsbD i.val =
    (reason == .exit && s.seq.stations[i].car == some car.tag && s.seq.stations[i].phase == .engaged && car.unsettled i) :=
  getLsbD_ofFnLE_val _ i

/-- The record of a car at the hand-over of its close. -/
def State.closingRecord (s : State) (car : Car) (reason : CloseReason) : Car := car.settled (s.servedAtClose car reason)

/-- Every unsettled service is recorded as missed, station by station. -/
theorem Car.foldl_recordMissed (is : List StationId) (hnodup : is.Nodup) (c : Car) :
    is.foldl Car.recordMissed c = c.marked (fun _ => false) fun i => decide (i ∈ is) := by
  induction is generalizing c with
  | nil => simp [Car.marked_none]
  | cons i is ih =>
    obtain ⟨hi, his⟩ := List.nodup_cons.mp hnodup
    rw [List.foldl_cons, ih his, Car.recordMissed_eq_marked, Car.marked_marked]
    · congr 1
      funext j
      simp [Bool.decide_or]
    · intro j hj
      have hji : j = i := by simpa using hj
      simp [hji, hi]

/-- A record some of whose services are marked, and the others missed, is the settled one. -/
theorem Car.settled_of_marked (k : Car) (p q : StationId → Bool) :
    stationIds.foldl Car.recordMissed (k.marked p q) = k.settled (BitVec.ofFnLE fun i : Fin 32 => p i && k.unsettled i) := by
  rw [Car.foldl_recordMissed stationIds nodup_stationIds]
  refine Car.ext_sets rfl (fun i => ?_) fun i => ?_
  · rw [Car.marked_served, Car.marked_served]
    simp [Car.settled]
  · rw [Car.marked_missed, Car.marked_missed, Car.marked_unsettled]
    simp only [Car.settled, BitVec.getLsbD_or, BitVec.getLsbD_and, BitVec.getLsbD_not, getLsbD_ofFnLE_val, mem_stationIds,
      i.isLt, Car.unsettled, hasStation]
    cases p i <;> cases q i <;> cases k.activity.getLsbD i.val <;> cases k.served.getLsbD i.val <;>
      cases k.missed.getLsbD i.val <;> rfl

/-! ## The engagements of a closing car -/

/-- A station engaged with the car, in ENGAGED, serves it. -/
theorem servesB_engaged (s : State) (i : StationId) (tag : Nat) :
    (s.servesB i tag && s.seq.stations[i].phase == .engaged) =
      (s.seq.stations[i].car == some tag && s.seq.stations[i].phase == .engaged) := by
  unfold State.servesB
  cases s.seq.stations[i].phase <;> cases s.seq.stations[i].car == some tag <;> rfl

/-- The engagements dropped at TUNNEL RESET record their services as missed, and nothing else. -/
theorem missEngaged_cars {i : StationId} (h : s.seq.stations[i].car = some tag) :
    (s.missEngaged i).cars = s.cars.map fun k => if k.tag = tag then k.recordMissed i else k := by
  unfold State.missEngaged
  rw [h]
  rfl

theorem dropCar_cars (s : State) (tag : Nat) :
    (s.dropCar tag).cars = s.cars.map fun k =>
      if k.tag = tag then k.marked (fun _ => false) (fun i => s.seq.stations[i].car == some tag) else k := by
  have hstep (s : State) (i : StationId) :
      (if s.seq.stations[i].car = some tag then s.missEngaged i else s).cars = s.cars.map fun k => if k.tag = tag then
        k.marked (fun j => decide (j = i) && false) (fun j => decide (j = i) && s.seq.stations[i].car == some tag) else k := by
    by_cases hcar : s.seq.stations[i].car = some tag
    · rw [if_pos hcar, missEngaged_cars hcar, hcar]
      refine List.map_congr_left fun k _ => ?_
      simp [Car.recordMissed_eq_marked]
    · have hother : (s.seq.stations[i].car == some tag) = false := by simpa using hcar
      rw [if_neg hcar, hother]
      simp [Car.marked_none]
  have hkeep (s : State) (i j : StationId) (hj : j ≠ i) :
      (if s.seq.stations[i].car = some tag then s.missEngaged i else s).seq.stations[j] = s.seq.stations[j] := by
    split
    next => exact missEngaged_other hj
    next => rfl
  unfold State.dropCar
  rw [foldl_marked (p := fun _ _ => false) (q := fun s i => s.seq.stations[i].car == some tag) hstep
    (fun s i j hj => ⟨rfl, by simp only [hkeep s i j hj]⟩) stationIds nodup_stationIds s]
  simp only [mem_stationIds, decide_true, Bool.true_and]

/-- What the engagements leave of the cars' service sets (R99, R108). -/
theorem settleClosing_cars (s : State) (tag : Nat) (reason : CloseReason) :
    ∃ q : StationId → Bool, (s.settleClosing tag reason).cars = s.cars.map fun k => if k.tag = tag then
      k.marked (fun i => reason == .exit && s.seq.stations[i].car == some tag && s.seq.stations[i].phase == .engaged) q else k := by
  have hexit (i : StationId) : (s.servesB i tag && (s.seq.stations[i].phase == .engaged && !false)) =
      (CloseReason.exit == .exit && s.seq.stations[i].car == some tag && s.seq.stations[i].phase == .engaged) := by
    rw [Bool.not_false, Bool.and_true, servesB_engaged]
    rfl
  have hearly (i : StationId) : (s.servesB i tag && (s.seq.stations[i].phase == .engaged && !true)) = false := by simp
  cases reason with
  | exit =>
    refine ⟨fun i => s.servesB i tag && !(s.seq.stations[i].phase == .engaged && !false), ?_⟩
    rw [State.settleClosing, releaseCar_cars]
    simp only [hexit]
  | lost =>
    refine ⟨fun i => s.servesB i tag && !(s.seq.stations[i].phase == .engaged && !true), ?_⟩
    rw [State.settleClosing, releaseCar_cars]
    simp only [hearly]
    rfl
  | cleared =>
    refine ⟨fun i => s.servesB i tag && !(s.seq.stations[i].phase == .engaged && !true), ?_⟩
    rw [State.settleClosing, releaseCar_cars]
    simp only [hearly]
    rfl
  | tunnelReset => exact ⟨_, dropCar_cars s tag⟩

/-- Before the hand-over the record is settled, and no other is changed. -/
theorem closing_cars (s : State) (tag : Nat) (reason : CloseReason) :
    ((s.settleClosing tag reason).missUnsettled tag).cars =
      s.cars.map fun k => if k.tag = tag then s.closingRecord k reason else k := by
  obtain ⟨q, hq⟩ := settleClosing_cars s tag reason
  show List.map _ (s.settleClosing tag reason).cars = _
  rw [hq, List.map_map]
  refine List.map_congr_left fun k _ => ?_
  rw [Function.comp_apply]
  by_cases hk : k.tag = tag
  · rw [if_pos hk, if_pos hk]
    exact (if_pos hk).trans ((Car.settled_of_marked k _ q).trans (by rw [State.closingRecord, State.servedAtClose, hk]))
  · rw [if_neg hk, if_neg hk, if_neg hk]

theorem carByTag_map {cars : List Car} {f : Car → Car} (hf : ∀ k, (f k).tag = k.tag) (tag : Nat) :
    carByTag (cars.map f) tag = (carByTag cars tag).map f := by
  unfold carByTag
  rw [List.find?_map]
  congr 2
  funext k
  simp only [Function.comp_apply, hf]

theorem closing_carByTag (hc : carByTag s.cars tag = some car) (reason : CloseReason) :
    carByTag ((s.settleClosing tag reason).missUnsettled tag).cars tag = some (s.closingRecord car reason) := by
  have htag : car.tag = tag := (carByTag_eq_some hc).2
  have hkeeps (k : Car) : (if k.tag = tag then s.closingRecord k reason else k).tag = k.tag := by split <;> rfl
  rw [closing_cars, carByTag_map hkeeps, hc, Option.map_some, if_pos htag]

/-! ## Outcome and credit (R134, R135) -/

theorem weightSum_eq (s : State) (x : StationSet) : weightSum s.map.table x = s.weight x := by
  have hfold (is : List StationId) (a : Nat) :
      is.foldl (fun sum i => if hasStation x i then sum + s.map.table[i].weight else sum) a =
        a + (is.map fun i => if x.getLsbD i.val then s.map.table[i].weight else 0).sum := by
    induction is generalizing a with
    | nil => simp
    | cons i is ih =>
      rw [List.foldl_cons, ih, List.map_cons, List.sum_cons]
      unfold hasStation
      split <;> omega
  exact (hfold stationIds 0).trans (Nat.zero_add _)

theorem creditShare_eq (amount part whole : Nat) : creditShare amount part whole = amount * part / whole := by
  unfold creditShare
  split
  next hzero => rw [hzero, Nat.div_zero]
  next => rfl

theorem settlement_eq (s : State) (c : Car) (reason : CloseReason) :
    (washOutcome c reason, washCredit s.map.table c (washOutcome c reason)) = s.settlement c reason := by
  unfold washOutcome State.settlement
  split
  next => rfl
  next =>
    split
    next => rfl
    next =>
      cases hsale : c.sale with
      | none => rfl
      | some x =>
        have hamount : c.amount = x.amount := by
          unfold Car.amount
          rw [hsale]
          rfl
        cases reason with
        | cleared => exact congrArg (Prod.mk _) hamount
        | tunnelReset => exact congrArg (Prod.mk _) hamount
        | lost =>
          refine congrArg (Prod.mk WashOutcome.lost) ?_
          show creditShare c.amount _ _ = _
          rw [creditShare_eq, hamount, weightSum_eq, weightSum_eq]
        | exit =>
          by_cases hmissed : c.missed = 0
          · simp [hmissed, washCredit]
          · have hsome : ¬ c.missed = 0#32 := hmissed
            simp [hsome, washCredit, creditShare_eq, hamount, weightSum_eq]

/-! ## The hand-over (R35, R133, R136, R137) -/

/-- The state after a record has been handed over and removed, before the admission check. -/
def State.handed (s : State) (c : Car) (reason : CloseReason) : State :=
  (s.washClose c reason).onCars fun cars => cars.filter fun k => k.tag != c.tag

theorem handOver_eq {c : Car} (hc : carByTag s.cars tag = some c) : s.handOver tag reason = (s.handed c reason).admissionCheck := by
  have htag : c.tag = tag := (carByTag_eq_some hc).2
  subst htag
  unfold State.handOver
  rw [hc]
  rfl

theorem handed_touches (s : State) (c : Car) (reason : CloseReason) :
    Touches [.tallies, .office, .cars] s (s.handed c reason) :=
  (washClose_touches s c reason).andThen (touches_onCars _ _)

theorem handed_cars (s : State) (c : Car) (reason : CloseReason) :
    (s.handed c reason).cars = s.cars.filter fun k => k.tag != c.tag := by
  show List.filter _ (s.washClose c reason).cars = _
  rw [(washClose_touches s c reason).cars]

theorem handed_tallies (s : State) (c : Car) (reason : CloseReason) :
    (s.handed c reason).tallies = s.tallies.set c.plan
      (s.tallies[c.plan].closed ((c.sale.map fun y => y.amount).getD 0) (s.settlement c reason).2) := by
  rw [← settlement_eq]
  have htally := notify_touches
    (s.onTally c.plan fun r => r.addClose c.amount (washCredit s.map.table c (washOutcome c reason)))
    (washNotice c (washOutcome c reason) (washCredit s.map.table c (washOutcome c reason)))
  exact htally.tallies

theorem handed_queues (c : Car) (reason : CloseReason) (room : s.noticeRoom 1) :
    Queues [.cars, .tallies] s (s.handed c reason) [] [washCloseOf c (s.settlement c reason)] := by
  have hnotice : washNotice c (washOutcome c reason) (washCredit s.map.table c (washOutcome c reason)) =
      washCloseOf c (s.settlement c reason) := by
    rw [← settlement_eq]
    rfl
  have htally := onTally_touches s c.plan fun r => r.addClose c.amount (washCredit s.map.table c (washOutcome c reason))
  have hqueues := Queues.after htally (Queues.notify (s.onTally c.plan _)
    (washNotice c (washOutcome c reason) (washCredit s.map.table c (washOutcome c reason)))
    (by rw [htally.office]; exact room)) (hs := [.tallies])
  rw [← hnotice]
  exact hqueues.touch (touches_onCars _ fun cars => cars.filter fun k => k.tag != c.tag)

end Sys2Proof.Machine
end

section
/-! The close of a car as a whole (R35, R43), and the commands and tests that close one (R33, R34, R36): O48. -/

set_option Elab.async false

namespace Sys2Proof.Machine

variable {s t u v : State} {car : Car} {reason : CloseReason} {tag : Nat} {h : Head}

/-! ## A close -/

theorem closeCar_eq (hc : carByTag s.cars tag = some car) (reason : CloseReason) : s.closeCar tag reason =
    (((s.settleClosing tag reason).missUnsettled tag).handed (s.closingRecord car reason) reason).admissionCheck :=
  handOver_eq (closing_carByTag hc reason)

theorem settlement_congr (hmap : t.map = s.map) (c : Car) (reason : CloseReason) : t.settlement c reason = s.settlement c reason := by
  unfold State.settlement State.weight
  rw [hmap]

/-- What a close leaves of the cars, the tallies, the stations and the gate (R35, R43, R108, R137). -/
structure Closes (s t : State) (car : Car) (reason : CloseReason) : Prop where
  cars : t.cars = s.cars.filter fun k => k.tag != car.tag
  tallies : t.tallies = s.tallies.set car.plan
    (s.tallies[car.plan].closed ((car.sale.map fun y => y.amount).getD 0) (s.settlement (s.closingRecord car reason) reason).2)
  released : ∀ i : StationId, s.seq.stations[i].car = some car.tag → Released s t i car.tag
  kept : ∀ i : StationId, s.seq.stations[i].car ≠ some car.tag → t.seq.stations[i] = s.seq.stations[i]
  gateKept : s.gate.phase ≠ .ready ∨ ({ s with cars := t.cars } : State).admissible = false → t.gate = s.gate
  gateCalls : s.gate.phase = .ready → ({ s with cars := t.cars } : State).admissible = true →
    ∃ number, s.orderNumberHeld number = false ∧
      t.gate = { s.gate with phase := .calling, call := some { number := number, transmitted := false } } ∧
      RingFrame.order s.gate.roller number .call 0 ∈ t.ring.tx.toList ++ t.ring.order

theorem Closes.same (k : Closes s u car reason) (hsame : SameButOffice u t) : Closes s t car reason where
  cars := hsame.cars.trans k.cars
  tallies := hsame.tallies.trans k.tallies
  released i hcar := by
    have hreleased := k.released i hcar
    unfold Released at *
    rwa [hsame.seq, hsame.ring]
  kept i hcar := by
    rw [hsame.seq]
    exact k.kept i hcar
  gateKept hkept := by
    rw [hsame.cars] at hkept
    rw [hsame.gate]
    exact k.gateKept hkept
  gateCalls hready hadmissible := by
    rw [hsame.cars] at hadmissible
    rw [hsame.gate, hsame.ring]
    exact k.gateCalls hready hadmissible

/-- The exit eye has no part in a close. -/
theorem Closes.of_withEye {e : Fin 10} {on : Bool} (k : Closes (s.withEye e on) t car reason) : Closes s t car reason :=
  ⟨k.cars, k.tallies, k.released, k.kept, k.gateKept, k.gateCalls⟩

theorem Closes.closed {rs : List Reply} (k : Closes s t car reason)
    (hsends : Sends [.eyes, .cars, .tallies, .seq, .gate, .ring] s t rs
      [washCloseOf (s.closingRecord car reason) (s.settlement (s.closingRecord car reason) reason)]) : Closed s t car reason rs :=
  ⟨s.servedAtClose car reason, s.closingRecord car reason, servedAtClose_getLsbD, rfl, k.cars, k.tallies,
    fun i => ⟨k.released i, k.kept i⟩, k.gateKept, k.gateCalls, hsends⟩

theorem Released.of_frames {i : StationId} (k : Released s u i tag) (hstation : t.seq.stations[i] = u.seq.stations[i])
    (hframes : ∀ f, u.ring.orders f → t.ring.orders f) : Released s t i tag := by
  obtain ⟨hbusy, hfree⟩ := k
  refine ⟨fun hsome => hstation.trans (hbusy hsome), fun hnone => ?_⟩
  obtain ⟨number, hnumber, hreleased, hframe⟩ := hfree hnone
  exact ⟨number, hnumber, hstation.trans hreleased, hframes _ hframe⟩

/-- The engagements of a car that is closed outside TUNNEL RESET are released (R35, R108). -/
theorem settleClosing_releases (s : State) (tag : Nat) (hreason : reason ≠ .tunnelReset) :
    Releases s ((s.settleClosing tag reason).missUnsettled tag) tag fun i => s.serves i tag := by
  have hreleases : Releases s (s.settleClosing tag reason) tag fun i => s.serves i tag := by
    cases reason with
    | exit => exact releaseCar_releases s tag false
    | lost => exact releaseCar_releases s tag true
    | cleared => exact releaseCar_releases s tag true
    | tunnelReset => exact absurd rfl hreason
  have hmissed : Releases (s.settleClosing tag reason) ((s.settleClosing tag reason).missUnsettled tag) tag fun _ => False :=
    .none (missUnsettled_touches _ tag) fun _ => id
  exact (hreleases.trans hmissed fun _ _ => id).mono fun _ => or_iff_left id

theorem admissionCheck_orders (s : State) {f : RingFrame} (hf : s.ring.orders f) : s.admissionCheck.ring.orders f := by
  by_cases hcalls : s.gate.phase = .ready ∧ s.admissible = true
  · rw [admissionCheck_called hcalls.1 hcalls.2]
    exact Ring.orders_push hf _
  · rw [show s.admissionCheck = s from if_neg hcalls]
    exact hf

theorem admissible_congr (htouches : Touches [.cars, .seq, .ring, .tallies, .office] s t) :
    t.admissible = ({ s with cars := t.cars } : State).admissible := by
  unfold State.admissible
  rw [htouches.gate, htouches.halt, htouches.pacer, htouches.belt, htouches.book]

/-- A car whose stations can be released from it is closed (R35). -/
theorem closeCar_closes (hc : carByTag s.cars car.tag = some car) (hreason : reason ≠ .tunnelReset)
    (hserves : ∀ i : StationId, s.seq.stations[i].car = some car.tag → s.serves i car.tag) :
    Closes s (s.closeCar car.tag reason) car reason := by
  have hreleases := settleClosing_releases s car.tag hreason
  have hcars := closing_cars s car.tag reason
  rw [closeCar_eq hc]
  generalize (s.settleClosing car.tag reason).missUnsettled car.tag = u at hreleases hcars
  have hhanded := handed_touches u (s.closingRecord car reason) reason
  have hhandedCars := handed_cars u (s.closingRecord car reason) reason
  have hhandedTallies := handed_tallies u (s.closingRecord car reason) reason
  rw [hreleases.touches.tallies, settlement_congr hreleases.touches.map] at hhandedTallies
  generalize u.handed (s.closingRecord car reason) reason = w at hhanded hhandedCars hhandedTallies
  have hbefore : Touches [.cars, .seq, .ring, .tallies, .office] s w := hreleases.touches.andThen hhanded
  have hchecked := admissionCheck_touches w
  have hadmissible : ({ s with cars := w.admissionCheck.cars } : State).admissible = w.admissible := by
    rw [admissible_congr hbefore, hchecked.cars]
  exact {
    cars := by
      rw [hchecked.cars, hhandedCars, hcars, List.filter_map]
      have hkeeps (k : Car) : ((fun k : Car => k.tag != (s.closingRecord car reason).tag) ∘
          fun k => if k.tag = car.tag then s.closingRecord k reason else k) k = (k.tag != car.tag) := by
        rw [Function.comp_apply]
        split <;> rfl
      rw [List.filter_congr fun k _ => hkeeps k]
      refine (List.map_congr_left fun k hk => if_neg ?_).trans (List.map_id _)
      simpa using (List.mem_filter.mp hk).2
    tallies := hchecked.tallies.trans hhandedTallies
    released := fun i hcar => (hreleases.released i (hserves i hcar)).of_frames
      (by rw [admissionCheck_stations, hhanded.seq]) fun f hf => admissionCheck_orders w (by rw [hhanded.ring]; exact hf)
    kept := fun i hcar => by
      rw [admissionCheck_stations, hhanded.seq]
      exact hreleases.kept i fun hserved => hcar hserved.1
    gateKept := fun hkept => by
      rw [hadmissible, ← hbefore.gate] at hkept
      rw [admissionCheck_none hkept, hbefore.gate]
    gateCalls := fun hready hcalls => by
      rw [hadmissible] at hcalls
      rw [← hbefore.gate] at hready
      have hnumber : s.orderNumberHeld w.freeOrderNumber = false := by
        have hfree := freeOrderNumber_free w
        rw [orderNumberHeld_congr (s := u) (fun j => by rw [hhanded.seq]) hhanded.gate hhanded.pacer] at hfree
        rw [← Bool.not_eq_true] at hfree ⊢
        exact fun hheld => hfree (hreleases.held _ hheld)
      rw [admissionCheck_called hready hcalls, ← hbefore.gate]
      exact ⟨w.freeOrderNumber, hnumber, rfl, Ring.orders_pushed _ _⟩ }

/-- A close sends one WASH_CLOSE (R136). -/
theorem closeCar_queues (hc : carByTag s.cars car.tag = some car) (hreason : reason ≠ .tunnelReset) (hroom : s.noticeRoom 1) :
    Queues [.cars, .tallies, .seq, .gate, .ring] s (s.closeCar car.tag reason) []
      [washCloseOf (s.closingRecord car reason) (s.settlement (s.closingRecord car reason) reason)] := by
  have hreleases := (settleClosing_releases s car.tag hreason).touches
  rw [closeCar_eq hc, ← settlement_congr hreleases.map]
  refine ((Queues.of_touches hreleases).andThen (handed_queues _ _ ?_) (hs := [.cars, .tallies, .seq, .ring])).touch
    (admissionCheck_touches _)
  rw [State.noticeRoom, hreleases.office]
  exact hroom

/-! ## A close without a station and without a call -/

theorem releaseCar_of_none (early : Bool) (hnone : ∀ i : StationId, s.seq.stations[i].car ≠ some tag) : s.releaseCar tag early = s := by
  have hfold (is : List StationId) :
      is.foldl (fun s i => if s.seq.stations[i].car = some tag then s.releaseStation i early else s) s = s := by
    induction is with
    | nil => rfl
    | cons i is ih => rw [List.foldl_cons, if_neg (hnone i), ih]
  exact hfold stationIds

theorem settleClosing_of_none (hreason : reason ≠ .tunnelReset) (hnone : ∀ i : StationId, s.seq.stations[i].car ≠ some tag) :
    s.settleClosing tag reason = s := by
  cases reason with
  | exit => exact releaseCar_of_none false hnone
  | lost => exact releaseCar_of_none true hnone
  | cleared => exact releaseCar_of_none true hnone
  | tunnelReset => exact absurd rfl hreason

/-- A car that no station serves leaves the cars and the tallies changed alone, while the gate is not READY. -/
theorem closeCar_queues_of_none (hc : carByTag s.cars car.tag = some car) (hreason : reason ≠ .tunnelReset)
    (hnone : ∀ i : StationId, s.seq.stations[i].car ≠ some car.tag) (hready : s.gate.phase ≠ .ready) (hroom : s.noticeRoom 1) :
    Queues [.cars, .tallies] s (s.closeCar car.tag reason) []
      [washCloseOf (s.closingRecord car reason) (s.settlement (s.closingRecord car reason) reason)] := by
  have hmissed := missUnsettled_touches s car.tag
  rw [closeCar_eq hc, settleClosing_of_none hreason hnone, ← settlement_congr hmissed.map]
  have hphase : ((s.missUnsettled car.tag).handed (s.closingRecord car reason) reason).gate.phase ≠ .ready := by
    rw [(handed_touches _ _ _).gate, hmissed.gate]
    exact hready
  rw [admissionCheck_none (.inl hphase)]
  refine Queues.after hmissed (handed_queues _ _ ?_)
  rw [State.noticeRoom, hmissed.office]
  exact hroom

end Sys2Proof.Machine
end

section
/-! The commands and tests that close a car (R33, R34, R36): O48. -/

set_option Elab.async false

namespace Sys2Proof.Machine

variable {s t u v : State} {car : Car} {reason : CloseReason} {rs : List Reply} {c : Instr} {tag : Nat} {h : Head}

/-! ## The commands -/

theorem carByTag_of_head (hhead : s.cars.head? = some car) : carByTag s.cars car.tag = some car := by
  cases hcars : s.cars with
  | nil =>
    rw [hcars] at hhead
    cases hhead
  | cons k ks =>
    rw [hcars, List.head?_cons, Option.some.injEq] at hhead
    subst hhead
    unfold carByTag
    exact List.find?_cons_of_pos (by simp)

theorem clearCar_closes (hc : carByTag s.cars car.tag = some car)
    (hmay : s.pacer.state = .stopped ∨ (s.pacer.state = .pointStop ∧ s.pacer.speed = 0) ∨ s.halt.state = .halted) :
    s.clearCar car.tag = (s.closeCar car.tag .cleared).done := by
  have htrue : s.mayClearCar = true := by
    unfold State.mayClearCar
    simpa [or_assoc] using hmay
  unfold State.clearCar
  rw [if_neg (by rw [htrue]; decide), if_neg (by rw [hc]; simp)]

theorem exitOff_closes (hhead : s.cars.head? = some car) (hleaving : car.phase = .leaving) {rear : Word}
    (hrear : car.rear s.belt.count = some rear)
    (hexit : (s.track.length : Int) - (s.track.driftHalt : Int) ≤ (rear.toNat : Int)) :
    s.exitOff = s.closeCar car.tag .exit := by
  have hcloses : s.exitCloses car = true := by
    unfold State.exitCloses
    rw [hleaving, hrear]
    exact decide_eq_true hexit
  unfold State.exitOff
  rw [hhead]
  exact if_pos hcloses

theorem deliverEdge_exitOff (s : State) : s.deliverEdge 2 false = s.exitOff := rfl

/-- The state in which a command closes a car: the exit off edge sets its eye first (R10, R33). -/
def State.atClose (s : State) : CloseReason → State
  | .exit => s.withEye 2 false
  | _ => s

theorem atClose_touches (s : State) (reason : CloseReason) : Touches [.eyes] s (s.atClose reason) := by
  cases reason with
  | exit => exact withEye_touches s 2 false
  | lost => exact .refl _ s
  | cleared => exact .refl _ s
  | tunnelReset => exact .refl _ s

theorem Closes.of_atClose (k : Closes (s.atClose reason) t car reason) : Closes s t car reason := by
  cases reason with
  | exit => exact k.of_withEye
  | lost => exact k
  | cleared => exact k
  | tunnelReset => exact k

/-- A command that closes a car does so, and sends its reply. -/
theorem carCloses_does (hcloses : CarCloses c s car reason rs) :
    carByTag s.cars car.tag = some car ∧ reason ≠ .tunnelReset ∧
    ∃ t, exec c s = .next t ∧ SameButOffice ((s.atClose reason).closeCar car.tag reason) t ∧
      ∀ fs ns, Queues fs s ((s.atClose reason).closeCar car.tag reason) [] ns → Sends fs s t rs ns := by
  rcases hcloses with ⟨h, ops, rfl, ha, hops, hc, hmay, rfl, rfl⟩ | ⟨h, payload, rear, rfl, hedge, hhead, hleaving, hrear, hexit, rfl, rfl⟩
  · obtain ⟨t, hexec, hsame, hsends⟩ := request_does ha (code := 0x23) hops State.clearCar
    have hat : s.atClose .cleared = s := rfl
    rw [clearCar_closes hc hmay] at hsame hsends
    rw [hat]
    dsimp only [State.done] at hsame hsends
    exact ⟨hc, by decide, t, hexec, hsame, hsends⟩
  · have hclosed : (s.withEye 2 false).exitOff = (s.withEye 2 false).closeCar car.tag .exit :=
      exitOff_closes (s := s.withEye 2 false) hhead hleaving hrear hexit
    have hexec := exec_edge hedge
    rw [deliverEdge_exitOff, hclosed] at hexec
    exact ⟨carByTag_of_head hhead, by decide, _, hexec, .kick _, fun fs ns q => q.kick⟩

/-! ## The expiry test (R34) -/

theorem expiryTest_eq (hc : carByTag s.cars tag = some car) :
    s.expiryTest tag = if s.expired car then s.closeCar tag .lost else s := by
  unfold State.expiryTest
  rw [hc]

theorem rear_eq_none_iff {b : Word} : car.rear b = none ↔ car.length = none := by
  unfold Car.rear
  cases car.length <;> simp

theorem expired_iff : s.expired car = true ↔
    (∃ rear, car.rear s.belt.count = some rear ∧ s.track.length + s.track.expiry < rear.toNat) ∨
    (car.length = none ∧ s.track.length + s.track.maxCar + s.track.expiry < (car.front s.belt.count).toNat) := by
  rw [← rear_eq_none_iff (b := s.belt.count)]
  unfold State.expired
  cases car.rear s.belt.count <;> simp

/-! ## O48 -/

theorem closingRecord_of_none (hnone : ∀ i : StationId, s.seq.stations[i].car ≠ some car.tag) :
    s.closingRecord car reason = { car with missed := car.missed ||| (car.activity &&& ~~~car.served) } := by
  have hserved : s.servedAtClose car reason = 0 := by
    refine stationSet_ext fun i => ?_
    have hother : (s.seq.stations[i].car == some car.tag) = false := by simpa using hnone i
    rw [servedAtClose_getLsbD, hother]
    simp
  unfold State.closingRecord Car.settled
  rw [hserved]
  simp

/-- The outcome of a car that an exit or a CAR CLEAR closes (R134). -/
def Car.closeOutcome (k : Car) (reason : CloseReason) : WashOutcome :=
  if k.flags.foreign = true then .foreign
  else if k.flags.struck = true then .struck
  else if k.sale = none then .unsold
  else if reason = .cleared then .cleared
  else if k.missed ≠ 0 then .partly
  else .full

theorem washOutcome_of_command (k : Car) (hreason : reason = .exit ∨ reason = .cleared) :
    washOutcome k reason = k.closeOutcome reason := by
  unfold washOutcome Car.closeOutcome
  simp only [Option.isNone_iff_eq_none]
  rcases hreason with rfl | rfl <;> simp

theorem reason_of_command (hcloses : CarCloses c s car reason rs) : reason = .exit ∨ reason = .cleared := by
  rcases hcloses with ⟨_, _, _, _, _, _, _, hreason, _⟩ | ⟨_, _, _, _, _, _, _, _, _, hreason, _⟩
  · exact .inr hreason
  · exact .inl hreason

theorem closeOutcome_ne_lost (k : Car) : k.closeOutcome reason ≠ .lost := by
  unfold Car.closeOutcome
  split_ifs <;> decide

theorem atClose_record (s : State) (car : Car) (reason : CloseReason) :
    (s.atClose reason).closingRecord car reason = s.closingRecord car reason := by
  cases reason <;> rfl

theorem atClose_settlement (s : State) (k : Car) (reason : CloseReason) :
    (s.atClose reason).settlement k reason = s.settlement k reason := settlement_congr (atClose_touches s reason).map k reason

theorem State.engagedLaw.serves (hengaged : s.engagedLaw) (i : StationId) (hcar : s.seq.stations[i].car = some tag) :
    s.serves i tag := by
  obtain ⟨hidle, hfault, _⟩ := hengaged i tag hcar
  exact ⟨hcar, hidle, hfault⟩

theorem serves_atClose {i : StationId} (hserves : s.serves i tag) : (s.atClose reason).serves i tag := by
  have hseq := (atClose_touches s reason).seq
  unfold State.serves at *
  rwa [hseq]

/-- What a command that closes a car leaves, where the stations can be released from it. -/
theorem carCloses_closes (hcloses : CarCloses c s car reason rs)
    (hserves : ∀ i : StationId, s.seq.stations[i].car = some car.tag → s.serves i car.tag) (hroom : s.noticeRoom 1) :
    ∃ t, exec c s = .next t ∧ Closes s t car reason ∧ (reason = .cleared → t.eyes = s.eyes) ∧
      Sends [.eyes, .cars, .tallies, .seq, .gate, .ring] s t rs
        [washCloseOf (s.closingRecord car reason) (s.settlement (s.closingRecord car reason) reason)] ∧
      ((∀ i : StationId, s.seq.stations[i].car ≠ some car.tag) → s.gate.phase ≠ .ready → Sends [.eyes, .cars, .tallies] s t rs
        [washCloseOf (s.closingRecord car reason) (s.settlement (s.closingRecord car reason) reason)]) := by
  obtain ⟨hc, hreason, t, hexec, hsame, hsends⟩ := carCloses_does hcloses
  have hat := atClose_touches s reason
  have hcars : carByTag (s.atClose reason).cars car.tag = some car := by rw [hat.cars]; exact hc
  have hroomAt : (s.atClose reason).noticeRoom 1 := by rw [State.noticeRoom, hat.office]; exact hroom
  have hservesAt (i : StationId) (hcar : (s.atClose reason).seq.stations[i].car = some car.tag) :
      (s.atClose reason).serves i car.tag := serves_atClose (hserves i (by rwa [hat.seq] at hcar))
  have hqueues := closeCar_queues hcars hreason hroomAt
  rw [atClose_record, atClose_settlement] at hqueues
  refine ⟨t, hexec, ((closeCar_closes hcars hreason hservesAt).of_atClose).same hsame, ?_, hsends _ _ (Queues.after hat hqueues), ?_⟩
  · rintro rfl
    exact hsame.eyes.trans (closeCar_touches s car.tag .cleared).eyes
  · intro hnone hready
    have hquiet := closeCar_queues_of_none hcars hreason (by rw [hat.seq]; exact hnone) (by rw [hat.gate]; exact hready) hroomAt
    rw [atClose_record, atClose_settlement] at hquiet
    exact hsends _ _ (Queues.after hat hquiet)

/-- The credit of an outcome other than LOST (R135). -/
theorem settlement_of_command (s : State) (k : Car) (hreason : reason = .exit ∨ reason = .cleared) :
    s.settlement k reason = (k.closeOutcome reason, washCredit s.map.table k (k.closeOutcome reason)) := by
  rw [← settlement_eq, washOutcome_of_command k hreason]

/-- A car that the expiry test closes is closed as LOST (R34). -/
theorem expiryTest_closes (hc : carByTag s.cars car.tag = some car) (hexpired : s.expired car = true) (hengaged : s.engagedLaw)
    (hroom : s.noticeRoom 1) : Closed s (s.expiryTest car.tag) car .lost [] := by
  rw [expiryTest_eq hc, if_pos hexpired]
  have hqueues := (closeCar_queues hc (reason := .lost) (by decide) hroom).mono (gs := [.eyes, .cars, .tallies, .seq, .gate, .ring])
  exact (closeCar_closes hc (by decide) fun i hcar => hengaged.serves i hcar).closed hqueues.sends

theorem clearCar_wrongState (hhalted : s.halt.state ≠ .halted) (hstopped : s.pacer.state ≠ .stopped)
    (hmoving : s.pacer.state ≠ .pointStop ∨ s.pacer.speed ≠ 0) (tag : Nat) : s.clearCar tag = s.refuse .wrongState := by
  have hfalse : s.mayClearCar = false := by
    unfold State.mayClearCar
    simpa [hhalted, hstopped, imp_iff_not_or] using hmoving
  exact if_pos hfalse

theorem clearCar_notFound (hmay : s.halt.state = .halted ∨ s.pacer.state = .stopped) (hnone : ∀ k ∈ s.cars, k.tag ≠ tag) :
    s.clearCar tag = s.refuse .notFound := by
  have htrue : s.mayClearCar = true := by
    unfold State.mayClearCar
    rcases hmay with hmay | hmay <;> simp [hmay]
  have hmissing : carByTag s.cars tag = none := List.find?_eq_none.mpr fun k hk => by simpa using hnone k hk
  unfold State.clearCar
  rw [if_neg (by rw [htrue]; decide), if_pos (by rw [hmissing]; rfl)]

/-- A refused request changes nothing but the office port. -/
theorem carClear_refused (ha : s.accepts h) (tag : Byte) {r : Result} (hrefused : s.clearCar tag.toNat = s.refuse r)
    (hexec : exec (.carClear h [tag]) s = .next t) : Replies [] s t (mgmtReply s h 0x23 r []) := by
  obtain ⟨t', hexec', -, hsends⟩ := request_does ha (code := 0x23) (operands := byteOperand [tag]) rfl State.clearCar
  cases hexec'.symm.trans hexec
  rw [hrefused] at hsends
  exact hsends [] [] (Queues.refl s)

/-- Settles O48. -/
theorem carsClose : Obligations.CarsClose := by
  unfold Obligations.CarsClose
  refine fun s => ⟨fun c car reason rs hcloses hnone hready hroom => ?_, fun c car reason rs hcloses hengaged hroom => ?_,
    fun car hc => ⟨fun hrear hfront => ?_, fun hexpired hengaged hroom => ?_⟩, fun h tag ha => ?_⟩
  · obtain ⟨t, hexec, hclosed, heyes, -, hsends⟩ := carCloses_closes hcloses (fun i hcar => absurd hcar (hnone i)) hroom
    have hsends := hsends hnone hready
    have htallies := hclosed.tallies
    rw [settlement_of_command s _ (reason_of_command hcloses)] at hsends htallies
    have hrecord := closingRecord_of_none (reason := reason) hnone
    have hlost := closeOutcome_ne_lost (s.closingRecord car reason) (reason := reason)
    generalize s.closingRecord car reason = settled at *
    subst hrecord
    refine ⟨t, _, Car.closeOutcome _ reason, _, hexec, rfl, rfl, ?_, hclosed.cars, htallies, hsends, heyes⟩
    generalize Car.closeOutcome _ reason = outcome at hlost ⊢
    cases outcome with
    | lost => exact absurd rfl hlost
    | full => rfl
    | partly => rfl
    | unsold => rfl
    | foreign => rfl
    | struck => rfl
    | cleared => rfl
  · obtain ⟨t, hexec, hclosed, heyes, hsends, -⟩ := carCloses_closes hcloses (fun i hcar => hengaged.serves i hcar) hroom
    exact ⟨t, hexec, hclosed.closed hsends, heyes⟩
  · rw [expiryTest_eq hc, if_neg]
    rw [expired_iff]
    rintro (⟨rear, hcar, hpast⟩ | ⟨hlength, hpast⟩)
    · exact absurd hpast (not_lt.mpr (hrear rear hcar))
    · exact absurd hpast (not_lt.mpr (hfront hlength))
  · exact expiryTest_closes hc (expired_iff.mpr hexpired) hengaged hroom
  · obtain ⟨t, hexec, -, -⟩ := request_does ha (code := 0x23) (operands := byteOperand [tag]) rfl State.clearCar
    have hexec : exec (.carClear h [tag]) s = .next t := hexec
    exact ⟨t, hexec, fun hhalted hstopped hmoving => carClear_refused ha tag (clearCar_wrongState hhalted hstopped hmoving _) hexec,
      fun hmay hnone => carClear_refused ha tag (clearCar_notFound hmay hnone) hexec⟩

end Sys2Proof.Machine
end

section
/-! TUNNEL RESET (R37, R51, R115, R158, R159): O49. -/

set_option Elab.async false

namespace Sys2Proof.Machine

variable {s t u v : State} {car : Car} {tag : Nat} {h : Head} {rs : List Reply} {ns : List Notice}

/-! ## A close without orders (R37, R108) -/

/-- No car is called while the part stands (R42). -/
def State.stands (s : State) : Prop := s.halt.state ≠ .clear ∨ s.pacer.state ≠ .running

theorem admissionCheck_of_stands (hstands : s.stands) : s.admissionCheck = s := hstands.elim admissionCheck_of_halt admissionCheck_of_pacer

/-- What the closes of a TUNNEL RESET leave to the later parts: but for the cars, the tallies and the notices only the stations'
engagements are changed. -/
structure Empties (s t : State) : Prop where
  touches : Touches [.cars, .seq, .tallies, .office] s t
  stations : ∀ i : StationId, t.seq.stations[i].afterReset = s.seq.stations[i].afterReset
  nextNumber : t.seq.nextNumber = s.seq.nextNumber

theorem Empties.refl (s : State) : Empties s s := ⟨.refl _ s, fun _ => rfl, rfl⟩

theorem Empties.trans (k : Empties s t) (l : Empties t u) : Empties s u :=
  ⟨k.touches.andThen l.touches, fun i => (l.stations i).trans (k.stations i), l.nextNumber.trans k.nextNumber⟩

theorem Empties.of_seq (ht : Touches [.cars, .seq, .tallies, .office] s t) (hseq : t.seq = s.seq) : Empties s t :=
  ⟨ht, fun i => by rw [hseq], by rw [hseq]⟩

theorem empties_missEngaged (s : State) (i : StationId) : Empties s (s.missEngaged i) where
  touches := (missEngaged_touches s i).mono (by decide)
  stations j := by
    by_cases hj : j = i
    · subst hj
      rw [missEngaged_self]
      rfl
    · rw [missEngaged_other hj]
  nextNumber := by
    unfold State.missEngaged
    split <;> rfl

theorem empties_dropCar (s : State) (tag : Nat) : Empties s (s.dropCar tag) := by
  have hfold (is : List StationId) (u : State) :
      Empties u (is.foldl (fun s i => if s.seq.stations[i].car = some tag then s.missEngaged i else s) u) := by
    induction is generalizing u with
    | nil => exact .refl u
    | cons i is ih =>
      have hstep : Empties u (if u.seq.stations[i].car = some tag then u.missEngaged i else u) := by
        split
        · exact empties_missEngaged u i
        · exact .refl u
      exact hstep.trans (ih _)
  exact hfold stationIds s

theorem Empties.stands (k : Empties s t) (hstands : s.stands) : t.stands := by
  unfold State.stands
  rw [k.touches.halt, k.touches.pacer]
  exact hstands

/-- The state of a closing car's record before the hand-over. -/
theorem empties_settled (s : State) (tag : Nat) : Empties s ((s.settleClosing tag .tunnelReset).missUnsettled tag) :=
  (empties_dropCar s tag).trans (.of_seq ((missUnsettled_touches _ tag).mono (by decide)) (missUnsettled_touches _ tag).seq)

/-- At TUNNEL RESET nothing serves a car to the end. -/
theorem closingRecord_reset (s : State) (car : Car) : s.closingRecord car .tunnelReset = car.settled 0 := by
  have hserved : s.servedAtClose car .tunnelReset = 0 := by
    refine stationSet_ext fun i => ?_
    rw [servedAtClose_getLsbD]
    exact BitVec.getLsbD_zero.symm
  rw [State.closingRecord, hserved]

theorem closeCar_reset_eq (hstands : s.stands) (hc : carByTag s.cars tag = some car) : s.closeCar tag .tunnelReset =
    ((s.settleClosing tag .tunnelReset).missUnsettled tag).handed (car.settled 0) .tunnelReset := by
  have hsettled := empties_settled s tag
  rw [closeCar_eq hc, closingRecord_reset]
  generalize (s.settleClosing tag .tunnelReset).missUnsettled tag = u at hsettled ⊢
  have hhanded := handed_touches u (car.settled 0) .tunnelReset
  refine admissionCheck_of_stands ?_
  unfold State.stands
  rw [hhanded.halt, hhanded.pacer]
  exact hsettled.stands hstands

theorem closeCar_reset_none (hc : carByTag s.cars tag = none) :
    s.closeCar tag .tunnelReset = (s.settleClosing tag .tunnelReset).missUnsettled tag := by
  have hnone : carByTag ((s.settleClosing tag .tunnelReset).missUnsettled tag).cars tag = none := by
    have hkeeps (k : Car) : (if k.tag = tag then s.closingRecord k .tunnelReset else k).tag = k.tag := by split <;> rfl
    rw [closing_cars, carByTag_map hkeeps, hc]
    rfl
  unfold State.closeCar State.handOver
  rw [hnone]

theorem empties_closeCar (hstands : s.stands) (tag : Nat) : Empties s (s.closeCar tag .tunnelReset) := by
  have hsettled := empties_settled s tag
  cases hc : carByTag s.cars tag with
  | none => rwa [closeCar_reset_none hc]
  | some car =>
    rw [closeCar_reset_eq hstands hc]
    have hhanded := handed_touches ((s.settleClosing tag .tunnelReset).missUnsettled tag) (car.settled 0) .tunnelReset
    exact hsettled.trans (.of_seq (hhanded.mono (by decide)) hhanded.seq)

/-- Every record but those of the tag is kept as it was. -/
theorem closeCar_reset_cars (hstands : s.stands) (tag : Nat) :
    (s.closeCar tag .tunnelReset).cars = s.cars.filter fun k => k.tag != tag := by
  have hcars := closing_cars s tag .tunnelReset
  have hkept : (s.cars.map fun k => if k.tag = tag then s.closingRecord k .tunnelReset else k).filter (fun k => k.tag != tag) =
      s.cars.filter fun k => k.tag != tag := by
    have hkeeps (k : Car) : ((fun k : Car => k.tag != tag) ∘
        fun k => if k.tag = tag then s.closingRecord k .tunnelReset else k) k = (k.tag != tag) := by
      rw [Function.comp_apply]
      split <;> rfl
    rw [List.filter_map, List.filter_congr fun k _ => hkeeps k]
    refine (List.map_congr_left fun k hk => if_neg ?_).trans (List.map_id _)
    simpa using (List.mem_filter.mp hk).2
  cases hc : carByTag s.cars tag with
  | none =>
    rw [closeCar_reset_none hc, ← hkept, hcars, List.filter_eq_self.mpr]
    intro k hk
    obtain ⟨x, hx, rfl⟩ := List.mem_map.mp hk
    have hother : x.tag ≠ tag := by simpa using List.find?_eq_none.mp hc x hx
    rw [if_neg hother]
    simpa using hother
  | some car =>
    rw [closeCar_reset_eq hstands hc, handed_cars, hcars, ← hkept]
    have htag : (car.settled 0).tag = tag := (carByTag_eq_some hc).2
    rw [htag]

/-! ## The closes of a TUNNEL RESET -/

/-- Every car of the list is closed, front-most first (R37). -/
def State.emptied (s : State) : State := s.tags.foldl (fun s tag => s.closeCar tag .tunnelReset) s

theorem empties_foldl (tags : List Nat) (hstands : s.stands) :
    Empties s (tags.foldl (fun s tag => s.closeCar tag .tunnelReset) s) := by
  induction tags generalizing s with
  | nil => exact .refl s
  | cons tag tags ih =>
    rw [List.foldl_cons]
    exact (empties_closeCar hstands tag).trans (ih ((empties_closeCar hstands tag).stands hstands))

theorem foldl_closeCar_cars (tags : List Nat) (hstands : s.stands) :
    (tags.foldl (fun s tag => s.closeCar tag .tunnelReset) s).cars = s.cars.filter fun k => decide (k.tag ∉ tags) := by
  induction tags generalizing s with
  | nil => simp
  | cons tag tags ih =>
    rw [List.foldl_cons, ih ((empties_closeCar hstands tag).stands hstands), closeCar_reset_cars hstands, List.filter_filter]
    refine List.filter_congr fun k _ => ?_
    rw [Bool.and_comm]
    by_cases htag : k.tag = tag <;> simp [htag]

theorem emptied_cars (hstands : s.stands) : s.emptied.cars = [] := by
  unfold State.emptied
  rw [foldl_closeCar_cars _ hstands, List.filter_eq_nil_iff]
  intro k hk
  simpa [State.tags] using ⟨k, hk, rfl⟩

/-- The tally rows after the closes (R137). -/
def State.emptiedTallies (s : State) (cars : List Car) (rows : Vector TallyRow 16) : Vector TallyRow 16 :=
  cars.foldl (fun rows k => rows.set k.plan (rows[k.plan].closed ((k.sale.map fun x => x.amount).getD 0)
    (s.settlement (k.settled 0) .tunnelReset).2)) rows

theorem emptiedTallies_congr (hmap : t.map = s.map) : t.emptiedTallies = s.emptiedTallies := by
  funext cars rows
  unfold State.emptiedTallies
  simp only [settlement_congr hmap]

/-- One close of a TUNNEL RESET counts and sends as R136 and R137 say. -/
theorem closeCar_reset_does (hstands : s.stands) (hc : carByTag s.cars tag = some car) :
    (s.closeCar tag .tunnelReset).tallies = s.emptiedTallies [car] s.tallies ∧
    (s.noticeRoom 1 → Queues [.cars, .seq, .tallies] s (s.closeCar tag .tunnelReset) []
      [washCloseOf (car.settled 0) (s.settlement (car.settled 0) .tunnelReset)]) := by
  have hsettled := (dropCar_touches s tag).andThen (missUnsettled_touches (s.settleClosing tag .tunnelReset) tag) (hs := [.cars, .seq])
  rw [closeCar_reset_eq hstands hc, ← settlement_congr hsettled.map]
  refine ⟨?_, fun hroom => ?_⟩
  · rw [handed_tallies, hsettled.tallies, settlement_congr hsettled.map]
    rfl
  · refine Queues.after hsettled (handed_queues _ _ ?_)
    rw [State.noticeRoom, hsettled.office]
    exact hroom

/-- The closes count every car and send one WASH_CLOSE for each, front-most first (R37, R136, R137). -/
theorem emptied_does (cars : List Car) (hcars : s.cars = cars) (hnodup : (cars.map fun k => k.tag).Nodup) (hstands : s.stands) :
    ((cars.map fun k => k.tag).foldl (fun s tag => s.closeCar tag .tunnelReset) s).tallies = s.emptiedTallies cars s.tallies ∧
    (s.noticeRoom cars.length → Queues [.cars, .seq, .tallies] s
      ((cars.map fun k => k.tag).foldl (fun s tag => s.closeCar tag .tunnelReset) s) []
      (cars.map fun k => washCloseOf (k.settled 0) (s.settlement (k.settled 0) .tunnelReset))) := by
  induction cars generalizing s with
  | nil => exact ⟨rfl, fun _ => (Queues.refl s).mono⟩
  | cons k ks ih =>
    obtain ⟨hk, hks⟩ := List.nodup_cons.mp hnodup
    have hc : carByTag s.cars k.tag = some k := carByTag_of_head (by rw [hcars]; rfl)
    obtain ⟨htallies, hqueues⟩ := closeCar_reset_does hstands hc
    have hempties := empties_closeCar hstands k.tag
    have hrest : (s.closeCar k.tag .tunnelReset).cars = ks := by
      rw [closeCar_reset_cars hstands, hcars, List.filter_cons_of_neg (by simp), List.filter_eq_self]
      intro x hx
      have hmem : x.tag ∈ ks.map fun k => k.tag := List.mem_map_of_mem hx
      have hother : x.tag ≠ k.tag := fun htag => hk (show k.tag ∈ _ from htag ▸ hmem)
      simpa using hother
    obtain ⟨htallies', hqueues'⟩ := ih hrest hks (hempties.stands hstands)
    have hmap := hempties.touches.map
    refine ⟨?_, fun hroom => ?_⟩
    · rw [List.map_cons, List.foldl_cons, htallies', htallies, emptiedTallies_congr hmap]
      rfl
    · simp only [State.noticeRoom, List.length_cons] at hroom
      have hfirst := hqueues (by unfold State.noticeRoom; omega)
      have hrestRoom : (s.closeCar k.tag .tunnelReset).noticeRoom ks.length := by
        rw [State.noticeRoom, hfirst.notices_length, List.length_singleton]
        omega
      have hlast := hqueues' hrestRoom
      simp only [settlement_congr hmap] at hlast
      rw [List.map_cons, List.map_cons, List.foldl_cons]
      exact hfirst.andThen hlast

/-! ## The blocks' parts, and the Halt Controller's (R51, R77, R115, R159) -/

/-- The pacer's part of a TUNNEL RESET (R77). -/
def Pacer.afterReset (p : Pacer) : Pacer :=
  { p with
    state := .stopped
    resume := false
    speed := 0
    pointStop := none
    start := none
    profileTimer := none
    startTimer := none
    stopTimer := none
    watch := .idle }

theorem pacerReset_eq (hr : s.halt.state ≠ .restarting) : s.pacerReset = s.onPacer Pacer.afterReset :=
  setPacerState_stopped (s := s.onPacer _) hr

/-- The blocks after a TUNNEL RESET, before the Halt Controller's part. -/
def State.blocksReset (s : State) : State :=
  ((s.sequencerReset.onPacer Pacer.afterReset).onGate Gate.afterReset).onRing fun r => { r with order := [] }

theorem blocksReset_touches (s : State) : Touches [.seq, .pacer, .gate, .ring] s s.blocksReset :=
  (((sequencerReset_touches s).andThen (touches_onPacer _ _) (hs := [.seq, .pacer])).andThen (touches_onGate _ _)
    (hs := [.seq, .pacer, .gate])).andThen (touches_onRing _ _)

theorem resetTunnel_eq (hr : s.emptied.halt.state ≠ .restarting) : s.resetTunnel = s.emptied.blocksReset.haltReset := by
  have hrest : s.emptied.sequencerReset.halt.state ≠ .restarting := by
    rw [(sequencerReset_touches s.emptied).halt]
    exact hr
  have hpacer := pacerReset_eq hrest
  unfold State.blocksReset
  rw [← hpacer]
  rfl

/-- The incident is closed in HALTED, where one is open (R159). -/
def State.incidentReset (s : State) : State := if s.halt.state = .halted then s.closeIncident .reset else s

/-- The notice of that close. -/
def State.resetNotices (s : State) : List Notice := if s.halt.state = .halted then s.closeNotices .reset else []

theorem incidentReset_touches (s : State) : Touches [.halt, .office] s s.incidentReset :=
  (closeIncident_touches s .reset).ite (.refl _ s)

theorem incidentReset_queues (hroom : s.noticeRoom 1) : Queues [.halt] s s.incidentReset [] s.resetNotices := by
  unfold State.incidentReset State.resetNotices
  split
  · exact closeIncident_queues .reset hroom
  · exact (Queues.refl s).mono

theorem incidentReset_halt (s : State) : s.incidentReset.halt =
    { s.halt with log := if s.halt.state = .halted then s.closedLog .reset else s.halt.log } := by
  unfold State.incidentReset
  split
  · exact closeIncident_halt s .reset
  · rfl

/-- The HALT line is released, RELEASE is asked for, and the halt state is CLEAR (R159). -/
def State.cleared (s : State) : State :=
  ((s.onHalt fun b => { b with line := .released }).onRing Ring.requestRelease).onHalt fun b => { b with state := .clear }

theorem cleared_touches (s : State) : Touches [.halt, .ring] s s.cleared :=
  ((touches_onHalt s _).andThen (touches_onRing _ _) (hs := [.halt, .ring])).andThen (touches_onHalt _ _)

theorem haltReset_eq (hready : s.gate.phase ≠ .ready) : s.haltReset = s.incidentReset.cleared := by
  have hgate : s.incidentReset.cleared.gate.phase ≠ .ready := by
    rw [(cleared_touches _).gate, (incidentReset_touches s).gate]
    exact hready
  exact admissionCheck_none (.inl hgate)

/-- A taken TUNNEL RESET. -/
theorem resetTunnel_parts (hr : s.emptied.halt.state ≠ .restarting) :
    s.resetTunnel = s.emptied.blocksReset.incidentReset.cleared := by
  rw [resetTunnel_eq hr, haltReset_eq]
  exact (nofun : GatePhase.closed ≠ .ready)

theorem resetNotices_congr (hhalt : t.halt = s.halt) (hclock : t.clock.uptime = s.clock.uptime) : t.resetNotices = s.resetNotices := by
  unfold State.resetNotices State.closeNotices State.openIncident
  rw [hhalt, hclock]

theorem closedLog_congr (hhalt : t.halt = s.halt) (hclock : t.clock.uptime = s.clock.uptime) (way : Way) :
    t.closedLog way = s.closedLog way := by
  unfold State.closedLog
  rw [hhalt, hclock]

/-- The Halt Controller, the ring and the notices of the parts that follow the closes (R159). -/
theorem blocksReset_does (s : State) :
    s.blocksReset.incidentReset.cleared.ring = ({ s.ring with order := [] } : Ring).requestRelease ∧
    s.blocksReset.incidentReset.cleared.halt =
      { s.halt with
        state := .clear
        line := .released
        log := if s.halt.state = .halted then s.closedLog .reset else s.halt.log } ∧
    (s.noticeRoom 1 → Queues [.seq, .pacer, .gate, .ring, .halt] s s.blocksReset.incidentReset.cleared [] s.resetNotices) := by
  have hblocks := blocksReset_touches s
  have hring : s.blocksReset.ring = { s.ring with order := [] } := rfl
  generalize s.blocksReset = u at hblocks hring
  have hincident := incidentReset_touches u
  refine ⟨?_, ?_, fun hroom => ?_⟩
  · show u.incidentReset.ring.requestRelease = _
    rw [hincident.ring, hring]
  · have hhalt := incidentReset_halt u
    rw [closedLog_congr hblocks.halt hblocks.uptime, hblocks.halt] at hhalt
    show { u.incidentReset.halt with line := .released, state := .clear } = _
    rw [hhalt]
  · rw [← resetNotices_congr hblocks.halt hblocks.uptime]
    have hqueues := Queues.after hblocks (incidentReset_queues (s := u) (by rw [State.noticeRoom, hblocks.office]; exact hroom))
      (hs := [.seq, .pacer, .gate, .ring, .halt])
    exact hqueues.touch (cleared_touches _)

/-! ## O49 -/

/-- The answer of a TUNNEL RESET (R158). -/
def State.tunnelAnswer (s : State) : Answer :=
  match s.resetRefusal with
  | some r => s.refuse r
  | none => s.resetTunnel.done

theorem tunnelAnswer_refused {r : Result} (hr : s.resetRefusal = some r) : s.tunnelAnswer = s.refuse r := by
  unfold State.tunnelAnswer
  rw [hr]

theorem tunnelAnswer_taken (hr : s.resetRefusal = none) : s.tunnelAnswer = s.resetTunnel.done := by
  unfold State.tunnelAnswer
  rw [hr]

/-- The table of R158. -/
def State.tunnelResult (s : State) : Result :=
  if s.halt.state = .halted then (if s.halt.estop = .asserted then .estopActive else .ok)
  else if s.halt.state = .clear ∧ s.pacer.state = .stopped then .ok
  else .wrongState

theorem resetRefusal_eq (s : State) : s.resetRefusal = if s.tunnelResult = .ok then none else some s.tunnelResult := by
  unfold State.resetRefusal State.tunnelResult
  cases s.halt.state with
  | clear => by_cases hstopped : s.pacer.state = .stopped <;> simp [hstopped]
  | halting => simp
  | halted => by_cases hestop : s.halt.estop = .asserted <;> simp [hestop]
  | restarting => simp

/-- A TUNNEL RESET is taken while the part stands, and not while it restarts (R158). -/
theorem stands_of_tunnelResult (hok : s.tunnelResult = .ok) : s.stands ∧ s.halt.state ≠ .restarting := by
  unfold State.tunnelResult at hok
  unfold State.stands
  cases hstate : s.halt.state with
  | clear =>
    rw [hstate] at hok
    have hstopped : s.pacer.state = .stopped := by simpa using hok
    exact ⟨.inr (by rw [hstopped]; decide), by decide⟩
  | halting => exact ⟨.inl (by decide), by decide⟩
  | halted => exact ⟨.inl (by decide), by decide⟩
  | restarting =>
    rw [hstate] at hok
    simp at hok

/-- Settles O49. -/
theorem tunnelResets : Obligations.TunnelResets := by
  unfold Obligations.TunnelResets
  rintro s h refusal ha hrefusal
  have hresult : refusal = s.tunnelResult := hrefusal
  obtain ⟨t, hexec, hsame, hsends⟩ := plain_request ha (code := 0x24) State.tunnelAnswer
  refine ⟨t, hexec, fun hrefused => ?_, fun hok => ?_⟩
  · have hr := resetRefusal_eq s
    rw [if_neg (hresult ▸ hrefused), ← hresult] at hr
    rw [tunnelAnswer_refused hr] at hsends
    exact hsends [] [] (Queues.refl s)
  · have hr := resetRefusal_eq s
    rw [if_pos (hresult.symm.trans hok)] at hr
    rw [tunnelAnswer_taken hr] at hsame hsends
    dsimp only [State.done] at hsame hsends
    obtain ⟨hstands, hrestarting⟩ := stands_of_tunnelResult (hresult.symm.trans hok)
    have hempties : Empties s s.emptied := empties_foldl s.tags hstands
    have hcars := emptied_cars hstands
    have hparts := resetTunnel_parts (s := s) (by rw [hempties.touches.halt]; exact hrestarting)
    obtain ⟨hring, hhalt, hqueues⟩ := blocksReset_does s.emptied
    have hblocks := blocksReset_touches s.emptied
    have hrest : Touches [.halt, .office, .ring] s.emptied.blocksReset s.resetTunnel := by
      rw [hparts]
      exact (incidentReset_touches _).andThen (cleared_touches _)
    rw [← hparts] at hring hhalt hqueues
    have hafter : Touches [.seq, .pacer, .gate, .ring, .halt, .office] s.emptied s.resetTunnel := hblocks.andThen hrest
    have hall : Touches [.cars, .seq, .pacer, .gate, .ring, .halt, .tallies, .office] s s.resetTunnel := hempties.touches.andThen hafter
    have hseq : s.resetTunnel.seq = s.emptied.sequencerReset.seq := hrest.seq
    have hpacer : s.resetTunnel.pacer = s.emptied.pacer.afterReset := hrest.pacer
    have hgate : s.resetTunnel.gate = s.emptied.gate.afterReset := hrest.gate
    rw [hempties.touches.ring] at hring
    rw [closedLog_congr hempties.touches.halt hempties.touches.uptime, hempties.touches.halt] at hhalt
    rw [resetNotices_congr hempties.touches.halt hempties.touches.uptime] at hqueues
    refine ⟨?_, fun i => ?_, ?_, ?_, ?_, ?_, ?_, ?_, fun hnone hroom => ?_, fun hlaw hengaged hroom => ?_⟩
    · rw [hsame.cars, hafter.cars, hcars]
    · rw [hsame.seq, hseq]
      have hstation : s.emptied.sequencerReset.seq.stations[i] = s.emptied.seq.stations[i].afterReset := Vector.getElem_map ..
      rw [hstation, hempties.stations]
      rfl
    · rw [hsame.seq, hseq]
      exact hempties.nextNumber
    · rw [hsame.pacer, hpacer, hempties.touches.pacer]
      rfl
    · rw [hsame.gate, hgate, hempties.touches.gate]
      rfl
    · rw [hsame.ring, hring]
    · rw [hsame.halt, hhalt]
    · have hoffice : Touches [.office] s.resetTunnel t := fun f hf => hsame f (by simpa using hf)
      exact hall.andThen hoffice
    · have hself : s.emptied = s := by
        unfold State.emptied State.tags
        rw [hnone]
        rfl
      rw [hself] at hqueues
      exact hsends _ _ (hqueues hroom)
    · obtain ⟨-, hnodup, -⟩ := hlaw
      obtain ⟨htallies, hclosed⟩ := emptied_does s.cars rfl hnodup hstands
      have htallies : s.emptied.tallies = s.emptiedTallies s.cars s.tallies := htallies
      unfold State.noticeRoom at hroom
      have hfirst : Queues [.cars, .seq, .tallies] s s.emptied [] _ := hclosed (by unfold State.noticeRoom; omega)
      have hlast := hqueues (by rw [State.noticeRoom, hfirst.notices_length, List.length_map]; omega)
      refine ⟨?_, hsends _ _ (hfirst.andThen hlast)⟩
      rw [hsame.tallies, hafter.tallies, htallies]
      rfl

end Sys2Proof.Machine
end
